-- ==== Sys2Proof/Word.lean ====
section
/-! DEFINITION. The data words of the JMM-26 (spec/00_scope.md 0.5) and the tables they stand in. -/

namespace Sys2Proof

/-- One byte of a link frame, of Port A's line or of a Port B record. -/
abbrev Byte := BitVec 8

/-- A sample: a 24-bit two's-complement value (0.5). -/
abbrev Sample := BitVec 24

/-- The 48 samples of one source or bus in one frame (0.5). -/
abbrev Frame := Vector Sample 48

/-- A slot of the TDM port or a channel of the line port in one sample period: 32 bit periods (R9, R13). -/
abbrev SlotWord := BitVec 32

/-- A set of the 26 sources, or of the 26 buses, as its membership by table index. -/
abbrev Set26 := Vector Bool 26

/-- A set of the 16 endpoint links. -/
abbrev Set16 := Vector Bool 16

/-- A scene label: four operands of four characters each (R163). -/
abbrev Label := Vector (BitVec 32) 4

/-- The table whose entry `i` is `f i`. -/
abbrev tab {α : Type} {n : Nat} (f : Fin n → α) : Vector α n := Vector.ofFn f

/-- The table `v` with entry `i` replaced by `x`. -/
def put {α : Type} {n : Nat} (v : Vector α n) (i : Fin n) (x : α) : Vector α n := v.set i.val x i.isLt

/-- The table with the same value everywhere. -/
abbrev same {α : Type} (n : Nat) (x : α) : Vector α n := Vector.replicate n x

/-- A frame of zero samples. -/
def silence : Frame := same 48 0

end Sys2Proof
end

