-- ==== Sys2Proof/Syntax.lean ====
section
/-! DEFINITION. The commands of the JMM-26: one constructor of `Instr` per row of spec/opcode_table.json.
Operands that a request carries as plain numbers (indexes, identifiers, values) are `Nat`, so that the refusals of R144
step 3 can be taken; operands that name one of the part's own links, microphones, walls or buffers are `Fin`. -/

namespace Sys2Proof

/-- The two controller ports (0.2). -/
inductive Port where
  | a | b
  deriving DecidableEq, Repr

/-- Level of a wall sense line: low is CLOSED, high is OPEN (R18). -/
inductive Level where
  | low | high
  deriving DecidableEq, Repr

/-- The levels at WSENSE0 to WSENSE2. -/
abbrev Sense := Vector Level 3

/-- Access profiles (R143). -/
inductive Profile where
  | full | config | conference | observe
  deriving DecidableEq, Repr

/-- Wall override (R19): FOLLOW, OPEN, CLOSED. -/
inductive Override where
  | follow | opened | closed
  deriving DecidableEq, Repr

/-- The target of HOLD, FREE and DISMISS (R72). -/
inductive Target where
  | source (index : Nat)
  | partition (ident : Nat)
  | allMics
  deriving DecidableEq, Repr

/-- The three Port A flags (R155). -/
inductive PortFlag where
  | echo | follow | autoReport
  deriving DecidableEq, Repr

/-- The values of the LINK request (R138). -/
inductive LinkReq where
  | nop | up | doze | detach | retrain
  deriving DecidableEq, Repr

/-- The privacy slide a HELLO reports (R125). -/
inductive Slide where
  | disengaged | engaged
  deriving DecidableEq, Repr

/-- Pod buttons (R125). -/
inductive Button where
  | mute | talk | all
  deriving DecidableEq, Repr

/-- The causes of the START_UP row (R170). The third cause, CLEAR, is the CLEAR request. -/
inductive PinCause where
  | power | pin
  deriving DecidableEq, Repr

/-- The commands. -/
inductive Instr where
  /-- START_UP (R170), with the levels at the wall sense lines and the Port B address pins (0..7). -/
  | startUp (cause : PinCause) (sense : Sense) (address : Fin 8)
  /-- RESET_N_ASSERTED (R170). -/
  | resetAsserted
  /-- SAMPLE_PERIOD (R36), with the eight inbound TDM slots and the two line input channels of the period (R9, R13). -/
  | samplePeriod (tdm : Vector SlotWord 8) (line : Vector SlotWord 2)
  /-- FRAME_BOUNDARY (R4), with the wall sense levels (R18) and whether the indicator read of R89 is taken before the
  boundary's gate evaluation and floor work. -/
  | frameBoundary (sense : Sense) (readFirst : Bool)
  /-- BAD_FRAME_RUN (R130). -/
  | badFrameRun (link : Fin 16)
  /-- WALL_SENSE_CHANGE (R18). -/
  | wallSenseChange (wall : Fin 3)
  /-- GATE_HOLD_EXPIRY (R94). -/
  | gateHoldExpiry (mic : Fin 16)
  /-- QUEUE_EXPIRY (R112). -/
  | queueExpiry (mic : Fin 16)
  /-- SPEECH_WARN (R113). -/
  | speechWarn (mic : Fin 16)
  /-- SPEECH_EXPIRY (R114). -/
  | speechExpiry (mic : Fin 16)
  /-- ATTEMPT_FAIL (R128). -/
  | attemptFail (link : Fin 16)
  /-- DOZE_HANDSHAKE_TIMEOUT (R131). -/
  | dozeHandshakeTimeout (link : Fin 16)
  /-- DETACH_HANDSHAKE_TIMEOUT (R134). -/
  | detachHandshakeTimeout (link : Fin 16)
  /-- RESIDENCY_MET (R136). -/
  | residencyMet (link : Fin 16)
  /-- AUTO_UP (R137). -/
  | autoUp (link : Fin 16)
  /-- BATCH_APPLICATION (R152). -/
  | batchApplication (port : Port)
  /-- BATCH_IDLE_TIMEOUT (R153). -/
  | batchIdleTimeout (port : Port)
  /-- REGROUP_SWITCH (R29). -/
  | regroupSwitch
  /-- REGROUP_DONE (R31). -/
  | regroupDone
  /-- UPSTREAM_FRAME_ARRIVAL (R123): the 150 bytes of the frame (9.11). -/
  | upstreamFrameArrival (link : Fin 16) (bytes : List Byte)
  /-- HELLO (R129): pod kind, the buttons MUTE, TALK, ALL present, and the slide (absent on a pod without one). -/
  | hello (link : Fin 16) (kind : Byte) (buttons : Vector Bool 3) (slide : Option Slide)
  /-- BUTTON_MUTE (R77), with its sequence bit (R126). -/
  | buttonMute (link : Fin 16) (seq : Bool)
  /-- BUTTON_TALK (R87). -/
  | buttonTalk (link : Fin 16) (seq : Bool)
  /-- BUTTON_ALL (R83). -/
  | buttonAll (link : Fin 16) (seq : Bool)
  /-- DOZE_ACK (R131). -/
  | dozeAck (link : Fin 16)
  /-- DOZE_NAK (R131). -/
  | dozeNak (link : Fin 16)
  /-- DETACH_ACK (R134). -/
  | detachAck (link : Fin 16)
  /-- FAULT_REPORT (R136). -/
  | faultReport (link : Fin 16) (code : Byte)
  /-- WAKE (R132). -/
  | wake (link : Fin 16)
  /-- PORT_A_CHARACTER_RECEIVED (R154). -/
  | portACharacterReceived (char : Byte)
  /-- PORT_A_LINE_END (R154). -/
  | portALineEnd
  /-- PORT_A_LINE_SENT (R156). -/
  | portALineSent
  /-- PORT_B_WRITE_TRANSACTION (R157): the address byte's seven address bits and the data bytes before the stop. -/
  | portBWriteTransaction (address : Fin 128) (bytes : List Byte)
  /-- PORT_B_READ_TRANSACTION (R158): the address and how many bytes the master reads. -/
  | portBReadTransaction (address : Fin 128) (count : Nat)
  /-- SELECT (R146): table code, view code, index. -/
  | select (port : Port) (table view index : Nat)
  /-- SHOW (R147). -/
  | showEntry (port : Port)
  /-- ENTER (R148): the operands of the entry's form. -/
  | enter (port : Port) (operands : List Nat)
  /-- MASK (R150): bit s stands for source s. -/
  | mask (port : Port) (sources : Nat)
  /-- BEGIN (R151). -/
  | beginBatch (port : Port)
  /-- COMMIT (R152). -/
  | commit (port : Port)
  /-- ABANDON (R151). -/
  | abandon (port : Port)
  /-- WALL (R19). -/
  | wall (port : Port) (wall : Nat) (override : Override)
  /-- NOTICES (R156). -/
  | notices (port : Port)
  /-- FLAGS (R155). -/
  | flags (port : Port) (flag : PortFlag) (on : Bool)
  /-- LOWER (R145). -/
  | lower (port : Port) (profile : Profile)
  /-- HOLD (R73). -/
  | hold (port : Port) (target : Target)
  /-- FREE (R74). -/
  | free (port : Port) (target : Target)
  /-- FREEALL (R75, R76). -/
  | freeAll (port : Port)
  /-- GMUTE (R80). -/
  | gmute (port : Port) (group : Nat)
  /-- GUNMUTE (R80). -/
  | gunmute (port : Port) (group : Nat)
  /-- QUIET (R82). -/
  | quiet (port : Port) (partition : Nat) (on : Bool)
  /-- DISMISS (R86). -/
  | dismiss (port : Port) (target : Target)
  /-- ASK (R106). -/
  | ask (port : Port) (source : Nat)
  /-- WITHDRAW (R107). -/
  | withdraw (port : Port) (source : Nat)
  /-- RELEASE (R108). -/
  | release (port : Port) (source : Nat)
  /-- GRANT (R109). -/
  | grant (port : Port) (source : Nat)
  /-- GRANT_NEXT (R109). -/
  | grantNext (port : Port) (partition : Nat)
  /-- REVOKE (R108). -/
  | revoke (port : Port) (source : Nat)
  /-- CLEARQ (R107). -/
  | clearQ (port : Port) (partition : Nat)
  /-- LINK NOP (R139). -/
  | linkNop (port : Port) (link : Nat)
  /-- LINK UP (R139). -/
  | linkUp (port : Port) (link : Nat)
  /-- LINK DOZE (R139). -/
  | linkDoze (port : Port) (link : Nat)
  /-- LINK DETACH (R139). -/
  | linkDetach (port : Port) (link : Nat)
  /-- LINK RETRAIN (R139). -/
  | linkRetrain (port : Port) (link : Nat)
  /-- LOAD (R165). -/
  | load (port : Port) (page buffer : Nat)
  /-- LOAD_COMPLETE (R165): whether the engine's read of the page returned what the page holds. -/
  | loadComplete (readOk : Bool)
  /-- CAPTURE (R166). -/
  | capture (port : Port) (buffer : Nat)
  /-- CAPTURE_COPY (R166). -/
  | captureCopy (buffer : Fin 2)
  /-- STORE (R167). -/
  | store (port : Port) (buffer page : Nat)
  /-- STORE_COMPLETE (R167): whether the verify found no difference. -/
  | storeComplete (verified : Bool)
  /-- AMEND (R167). -/
  | amend (port : Port) (buffer page : Nat)
  /-- AMEND_COMPLETE (R167): whether the first read returned what the page holds, and whether the verify found no difference. -/
  | amendComplete (readOk verified : Bool)
  /-- ERASE (R168). -/
  | erase (port : Port) (page : Nat)
  /-- ERASE_COMPLETE (R168). -/
  | eraseComplete
  /-- APPLY (R169). -/
  | apply (port : Port) (buffer : Nat)
  /-- CLEAR (R170). -/
  | clear (port : Port)
  /-- ERASE_STAGE (R167). -/
  | eraseStage
  deriving DecidableEq, Repr

end Sys2Proof
end

