-- ==== Sys2Proof/Decode.lean ====
section
/-! DEFINITION. The command that a word spells by the bits of spec/opcode_table.json. The table gives none of its 77 rows
any bits (every row's "fields" is empty and none has "fixed"), so no word spells a command (log 4). The wire forms that
chapter 9 does give (text lines, records, link frames) are read by the machine itself: Machine/Operands.lean. -/

namespace Sys2Proof

/-- No row of the table gives bits. -/
def decodeTableWord (_nbits _w : Nat) : Option Instr := none

end Sys2Proof
end

