-- ==== Sys2Proof/Config.lean ====
section
/-! DEFINITION. The constants of the part, and the values its manual leaves open (opaque, without a body). -/

namespace Sys2Proof.Config

/-- Sample periods of one frame (0.5). -/
def framePeriods : Nat := 48
/-- A fully open envelope, unity gain, and the factor of one open microphone (0.5, R38). -/
def unity : Nat := 32768
/-- The greatest gain value (0.5). -/
def maxGain : Nat := 65535
/-- Where the clip, bad-frame, retrain and fault counters stop (R51, R127). -/
def maxCount : Nat := 65535
/-- The limit of a noise tracker, and its start-up value (R15). -/
def noiseTop : Nat := 8388607
/-- The alignment marker of the far-end port (R9). -/
def marker : Byte := 0xA5
/-- The last value of a wall's debounce count (R18). -/
def debounceTop : Nat := 49
/-- Capacity of a notice queue (R159). -/
def queueCap : Nat := 32
/-- Capacity of a batch (R151). -/
def batchCap : Nat := 64
/-- The idle count at which an open batch is abandoned (R153). -/
def idleTop : Nat := 2000
/-- Capacity of a request queue (R104). -/
def floorQueueCap : Nat := 16
/-- Where ages and elapsed counts stop (R104). -/
def ageTop : Nat := 3600000
/-- Frames to the second of the floor timers (0.5). -/
def framesPerSecond : Nat := 1000
/-- Good frames that lock an attempt (R128). -/
def lockRun : Nat := 4
/-- Frames of a training attempt, and the failed attempts that fault the link (R128). -/
def attemptTop : Nat := 200
/-- Failed attempts after which the link faults (R128). -/
def attemptsMax : Nat := 3
/-- The bad run that ends ACTIVE (R130). -/
def badRunTop : Nat := 8
/-- Frames of a doze or detach handshake (R131, R134). -/
def handshakeTop : Nat := 8
/-- Frames of residency in FAULT (R136). -/
def residencyTop : Nat := 250
/-- Capacity of Port A's receive buffer (R154). -/
def rxCap : Nat := 128
/-- Capacity of Port A's line buffer (R154). -/
def lineCap : Nat := 80
/-- Where a store count stops (R162). -/
def storeCountTop : Nat := 999999
/-- Address of Port B with its three address pins at 0 (9.7). -/
def portBBase : Nat := 0x68

/-- The bytes of a page's contents area, in the order in which its check is computed, given the fields of the contents
in the order of R162. The spec names the fields and the CRC (R161) but not the layout of the contents: a FREE value
(DESIGN CHOICE, log 13; safe: nothing can be proved of the layout). -/
opaque pageLayout : List Nat → List Byte

/-- The n-th value that the spec does not state: what is left in a page's label and check words by a STORE or AMEND
whose verify failed (R167). A FREE value (log 14; safe). -/
opaque freeWord : Nat → BitVec 32

/-- Whether the line of a wall stands high at the n-th CLEAR. The levels come from outside, and neither CLEAR nor the line or record
that spells it carries them. A FREE value (log 23; safe). -/
opaque senseHigh : Nat → Fin 3 → Bool

end Sys2Proof.Config
end

