-- ==== Sys2Proof/Machine/Types.lean ====
section
/-! DEFINITION. The records that the blocks of the part hold (spec/00_scope.md 0.3), as plain data. -/

namespace Sys2Proof.Machine

/-! ## Configuration store (chapters 1, 2, 5, 9) -/

/-- Floor mode of a section or partition (R17): OPEN, GATED, CHAIRED. -/
inductive Mode where
  | openToAll | gated | chaired
  deriving DecidableEq, Repr

/-- Overflow policy (R17): REFUSE, BUMP. -/
inductive Overflow where
  | refuse | bump
  deriving DecidableEq, Repr

/-- Expiry action (R17): WARN_ONLY, REVOKE. -/
inductive Expiry where
  | warnOnly | revoke
  deriving DecidableEq, Repr

/-- A source record (R1). `chair` is present in M records only; it is false in the others. -/
structure SourceRec where
  trim : Nat
  sect : Fin 4
  chair : Bool
  deriving DecidableEq, Repr

/-- A bus record (R2). -/
structure BusRec where
  gain : Nat
  sect : Fin 4
  deriving DecidableEq, Repr

/-- The configured fields of a section record (R17). -/
structure SectionRec where
  mode : Mode
  openLimit : Nat
  threshold : Nat
  ratio : Nat
  hold : Nat
  offLevel : Nat
  gateCode : Nat
  lastOn : Bool
  speakerLimit : Nat
  autoGrant : Bool
  overflow : Overflow
  lifetime : Nat
  speechLimit : Nat
  warnLead : Nat
  expiry : Expiry
  deriving DecidableEq, Repr

/-- A scene image (R162), which is also the whole of the live configuration tables. Excluded crosspoints hold 0. -/
structure Image where
  xpt : Vector Nat 676
  src : Vector SourceRec 26
  bus : Vector BusRec 26
  sec : Vector SectionRec 4
  grp : Vector Set26 8
  wall : Vector Override 3
  muteCode : Nat
  busCode : Nat
  deriving DecidableEq, Repr

/-- The Port A rates (9.6). -/
inductive Rate where
  | r9600 | r19200 | r38400 | r57600 | r115200
  deriving DecidableEq, Repr

/-- The power-on record (R162). -/
structure PowerOn where
  profileA : Profile
  profileB : Profile
  rate : Rate
  echo : Bool
  follow : Bool
  autoReport : Bool
  autoUp : Set16
  deriving DecidableEq, Repr

/-! ## Endpoint links (chapter 8) -/

/-- Link states (R127). -/
inductive LinkState where
  | down | training | active | doze | retrain | detached | fault
  deriving DecidableEq, Repr

/-- The pending handshake of a link (R127). -/
inductive Handshake where
  | none | doze | detach
  deriving DecidableEq, Repr

/-- Pod identity (R127), the buttons being MUTE, TALK, ALL. -/
structure PodIdentity where
  kind : Byte
  buttons : Vector Bool 3
  slide : Slide
  deriving DecidableEq, Repr

/-- The upstream frame received whole in this frame: its check's outcome and its samples (R123). -/
structure Arrival where
  good : Bool
  samples : Frame
  deriving DecidableEq, Repr

/-- The link record (R127). The marks at the end are the model's own, for the rules their comments name. -/
structure LinkRec where
  state : LinkState
  requested : LinkReq
  armed : Bool
  dozeRefused : Bool
  handshake : Handshake
  hsTimer : Nat
  attemptCount : Nat
  attemptTimer : Nat
  run : Nat
  lock : Bool
  badRun : Nat
  residency : Nat
  lastBit : Bool
  identity : Option PodIdentity
  faultCode : Option Byte
  badCount : Nat
  retrainCount : Nat
  faultCount : Nat
  /-- The handshake, the attempt, the residency began inside the present frame, which is not counted (R127). -/
  hsFresh : Bool
  attemptFresh : Bool
  residencyFresh : Bool
  /-- The present stay in DOWN was auto-armed and its first boundary is still to come (R137). -/
  autoPending : Bool
  /-- That entry to DOWN was made at the boundary about to be taken, which is then not its first boundary (R137). -/
  autoWait : Bool
  /-- ACTIVE at the previous boundary (R6, R15, R130). -/
  wasActive : Bool
  arrival : Option Arrival
  deriving DecidableEq, Repr

/-- Commands of a downstream control slot (R124, 9.11). -/
inductive DownCommand where
  | none | dozeReq | detachReq | retrainReq
  deriving DecidableEq, Repr

/-- Indicator states in the row order of R88. -/
inductive Indicator where
  | privateMuted | heldAsking | held | warned | live | queued | ready
  deriving DecidableEq, Repr

/-- A downstream frame, less its frame check, which is computed from it (R124, R161). -/
structure DownFrame where
  samples : Frame
  command : DownCommand
  indicator : Indicator
  echo : Bool
  lock : Bool
  deriving DecidableEq, Repr

/-! ## Audio plane, meters and mix engine (chapters 1, 3, 4) -/

/-- Sync state of the far-end port (R10). -/
inductive Sync where
  | lost | locked
  deriving DecidableEq, Repr

/-- What the ports and meters hold (R4, R9 to R16). -/
structure Audio where
  input : Vector Frame 26
  computed : Vector Frame 26
  sending : Vector Frame 26
  tdmIn : Vector Frame 8
  tdmGood : Nat
  lineIn : Vector Frame 2
  tdmOut : Vector SlotWord 8
  lineOut : Vector SlotWord 2
  sync : Sync
  syncCount : Nat
  peak : Vector Nat 26
  noise : Vector Nat 26
  busPeak : Vector Nat 26
  deriving DecidableEq, Repr

/-- Partition of each section, by its identifier (R20). -/
abbrev PartMap := Vector (Fin 4) 4

/-- The snapshot of a frame boundary (R48). -/
structure Snapshot where
  trim : Vector Nat 26
  xpt : Vector Nat 676
  gain : Vector Nat 26
  srcSect : Vector (Fin 4) 26
  busSect : Vector (Fin 4) 26
  map : PartMap
  modes : Vector Mode 4
  factor : Vector Nat 26
  deriving DecidableEq, Repr

/-- What the mix engine owns (R48, R51). -/
structure Mix where
  snap : Option Snapshot
  srcClip : Vector Nat 26
  busClip : Vector Nat 26
  deriving DecidableEq, Repr

/-- Envelope, target and ramp code in force of a source (R54). The step in force is the code's (R56). -/
structure Env where
  value : Nat
  target : Nat
  code : Nat
  deriving DecidableEq, Repr

/-! ## Mute, gating and floor units (chapters 5 to 7) -/

/-- A mute record (R69). -/
structure MuteRec where
  priv : Bool
  chair : Bool
  far : Bool
  ask : Bool
  deriving DecidableEq, Repr

/-- The mute unit: records, group muted flags (R79) and quiet flags (R82). -/
structure Mute where
  recs : Vector MuteRec 26
  groupMuted : Vector Bool 8
  quiet : Vector Bool 4
  deriving DecidableEq, Repr

/-- The five hold classes present on a source (R69, R70). -/
structure HoldSet where
  priv : Bool
  chair : Bool
  far : Bool
  group : Bool
  link : Bool
  deriving DecidableEq, Repr

/-- Gate states (R90). -/
inductive GateState where
  | closed | opened | lastOn
  deriving DecidableEq, Repr

/-- A gate entry (R90). -/
structure Gate where
  state : GateState
  counter : Nat
  deriving DecidableEq, Repr

/-- A request queue entry (R104). -/
structure QueueEntry where
  mic : Fin 16
  age : Nat
  deriving DecidableEq, Repr

/-- A grant list entry (R104). -/
structure GrantEntry where
  mic : Fin 16
  elapsed : Nat
  warned : Bool
  deriving DecidableEq, Repr

/-- A floor record (R104). -/
structure FloorRec where
  queue : List QueueEntry
  grants : List GrantEntry
  deriving DecidableEq, Repr

/-- What is already taken of the coming boundary's work, slot by slot: the model's own marks (log 1), gone at the boundary's
end. `counts`: the slot was evaluated (R92), the open count that its evaluation handed to the mix engine (R98). `floors`: the
floor unit took its piece of work (R115). -/
structure Ahead where
  counts : Vector (Option Nat) 4
  floors : Vector Bool 4
  deriving DecidableEq, Repr

/-! ## Walls and the regroup machine (chapter 2) -/

/-- Sensed or effective state of a wall (R18). -/
inductive WallState where
  | closed | opened
  deriving DecidableEq, Repr

/-- A wall record (R18, R19), less its override, which is configuration. -/
structure WallRec where
  sensed : WallState
  count : Nat
  effective : WallState
  deriving DecidableEq, Repr

/-- One entry of a batch (R151): a position of a configuration table and the value it is to take. -/
inductive Entry where
  | xpt (i : Fin 676) (v : Nat)
  | src (i : Fin 26) (r : SourceRec)
  | bus (i : Fin 26) (r : BusRec)
  | sec (i : Fin 4) (r : SectionRec)
  | grp (i : Fin 8) (m : Set26)
  | wall (i : Fin 3) (o : Override)
  | dev (muteCode busCode : Nat)
  deriving DecidableEq, Repr

/-- A committed batch, and whether COMMIT closed it (R152). -/
structure Batch where
  entries : List Entry
  byCommit : Bool
  deriving DecidableEq, Repr

/-- A batch that waits for a switch (R24). -/
structure PendingBatch where
  port : Port
  batch : Batch
  deriving DecidableEq, Repr

/-- States of the regroup machine (R23). -/
inductive RegroupState where
  | steady | fadingOut | fadingIn
  deriving DecidableEq, Repr

/-- The regroup machine (R23, R26). The fields with a comment of their own hold the model's marks. -/
structure Regroup where
  state : RegroupState
  map : PartMap
  pendMap : PartMap
  pendSrc : Vector (Fin 4) 26
  pendBus : Vector (Fin 4) 26
  changes : List PendingBatch
  affected : Set26
  touched : Set26
  /-- The apply mark, with the buffer of its APPLY; none where it is clear. -/
  applyMark : Option (Fin 2)
  /-- The switch that places the buffer's image is still to come. -/
  applyDue : Bool
  /-- A switch took place in this regroup (R31). -/
  switched : Bool
  r : Vector Nat 26
  /-- The step in force, read at the last boundary (R26). -/
  step : Nat
  /-- FADING_IN was entered and no later boundary has come (R26, R31). -/
  fresh : Bool
  /-- FADING_IN was entered at the boundary that FRAME_BOUNDARY has still to take, or to end. -/
  pre : Bool
  /-- No switch is made at that boundary any more: its test was taken, or FADING_OUT was entered at it (R27, R32; log 39). -/
  tested : Bool
  /-- FADING_IN was entered by a switch (R26). -/
  bySwitch : Bool
  /-- Slots the switch rebuilt at that boundary: not evaluated there (R102). -/
  noEval : Vector Bool 4
  deriving DecidableEq, Repr

/-! ## Controller ports (chapter 9) -/

/-- The tables a cursor reaches (R146). -/
inductive TableId where
  | crosspoint | source | bus | sect | group | wall | device
  | holds | queue | grant | link | meters | pages
  deriving DecidableEq, Repr

/-- The views of a table (R146): LIVE, SB0, SB1. -/
inductive View where
  | live
  | sb (b : Fin 2)
  deriving DecidableEq, Repr

/-- A cursor (R143). -/
structure Cursor where
  table : TableId
  view : View
  index : Nat
  deriving DecidableEq, Repr

/-- Requests by name (R144, 9.11). -/
inductive ReqName where
  | select | showEntry | enter | mask | beginBatch | commit | abandon | notices | flags | lower
  | hold | free | freeAll | gmute | gunmute | quiet | dismiss
  | ask | withdraw | release | grant | grantNext | revoke | clearQ
  | wall | link | load | capture | store | amend | erase | apply | clear
  deriving DecidableEq, Repr

/-- Statuses (9.10). -/
inductive Status where
  | ok | clamped | empty | access | badRequest | badOperand | readOnly | excluded | busy | bufferBusy | batchFull
  | noBatch | floorFull | duplicate | alreadyGranted | notGranted | notQueued | notHeld | wrongMode | linkDown
  | pageInvalid | emptyBuffer | truncated | long | overrun
  deriving DecidableEq, Repr

/-- Start-up causes (R170). -/
inductive StartCause where
  | power | pin | clear
  deriving DecidableEq, Repr

/-- Causes of an UNMUTE notice (R86). -/
inductive AskCause where
  | pod | dismiss | cleared | link
  deriving DecidableEq, Repr

/-- Events of a FLOOR notice (R105). -/
inductive FloorEvent where
  | queued | granted | withdrawn | released | revoked | bumped | expired | cleared | removed
  deriving DecidableEq, Repr

/-- Causes of a LINK notice (R140). -/
inductive LinkCause where
  | request | auto | hello | badFrames | dozeAck | wake | button | detachAck | noAck | attempts | faultReport
  | residency | nak
  deriving DecidableEq, Repr

/-- Events of a SCENE notice (R164). -/
inductive SceneEvent where
  | loaded | captured | stored | amended | erased | applied | checkFailed | failed
  deriving DecidableEq, Repr

/-- Notices, by kind (9.11). -/
inductive Notice where
  | start (cause : StartCause) (defaults : Bool)
  | holds (src : Fin 26) (set : HoldSet)
  | unmute (mic : Fin 16) (flag : Bool) (cause : AskCause)
  | floor (part : Fin 4) (mic : Fin 16) (event : FloorEvent)
  | speechWarn (part : Fin 4) (mic : Fin 16) (limit : Nat)
  | speechExpired (part : Fin 4) (mic : Fin 16) (revoked : Bool) (limit : Nat)
  | link (link : Fin 16) (before after : LinkState) (cause : LinkCause) (code : Option Byte)
  | dozeRefused (link : Fin 16) (cause : LinkCause)
  | wall (wall : Fin 3) (sensed : WallState) (override : Override) (effective : WallState)
  | regroupDone (map : PartMap) (switched : Bool)
  | scene (event : SceneEvent) (buffer : Option (Fin 2)) (page : Option (Fin 32))
  | batchApplied (count : Nat) (atSwitch : Bool)
  | batchAbandoned (count : Nat)
  | sync (state : Sync)
  deriving DecidableEq, Repr

/-- An open batch (R143). -/
structure OpenBatch where
  entries : List Entry
  idle : Nat
  deriving DecidableEq, Repr

/-- The port record that both ports have (R143). -/
structure PortRec where
  profile : Profile
  cursor : Cursor
  batch : Option OpenBatch
  committed : List Batch
  keep : Option Set26
  queue : List Notice
  overflow : Bool
  deriving DecidableEq, Repr

/-- A line of Port A's transmitter (R155, R156), less the line's end. -/
inductive TxLine where
  | response (status : Status) (data : List Nat)
  | follow (table : TableId) (index : Nat) (content : Option (List Nat))
  | notice (n : Notice)
  | overflow
  deriving DecidableEq, Repr

/-- The follow entry (R143, R155). -/
structure FollowEntry where
  cursor : Cursor
  sent : Option (List Nat)
  deriving DecidableEq, Repr

/-- What only Port A has (R143, R154 to R156). -/
structure LineA where
  echo : Bool
  follow : Bool
  autoReport : Bool
  rx : List Byte
  buf : List Byte
  long : Bool
  overrun : Bool
  followEntry : Option FollowEntry
  followReady : Bool
  responses : List TxLine
  sending : Option TxLine
  /-- Notices of the queue's front that a NOTICES released for sending (R156). -/
  released : Nat
  /-- Characters of a partly received request line were echoed (R155). -/
  echoOpen : Bool
  /-- Echoed characters that wait for the end of the line being sent (R155). -/
  echoWait : List Byte
  /-- The characters that the last character or line event sent back (R155). -/
  echoOut : List Byte
  deriving DecidableEq, Repr

/-- What only Port B has (R157, R158). -/
structure RecordB where
  status : Status
  code : Byte
  data : List Nat
  /-- The data is a scene page header, as a SHOW of the pages table returns it (R160, 9.11). -/
  header : Bool
  /-- The bytes the last read transaction returned. -/
  readOut : List Byte
  deriving DecidableEq, Repr

/-! ## Scene unit (chapter 10) -/

/-- The contents area of a page (R162). `powerOn` is written on page 0. -/
structure Contents where
  label : Label
  image : Image
  powerOn : Option PowerOn
  deriving DecidableEq, Repr

/-- A scene page, its header and the scene unit's validity mark (R162). -/
structure Page where
  mark : Bool
  flag : Byte
  label : Label
  count : Nat
  check : BitVec 16
  contents : Contents
  deriving DecidableEq, Repr

/-- Status of a scene buffer (R163). -/
inductive BufStatus where
  | empty | loaded | captured | modified
  deriving DecidableEq, Repr

/-- Which operation holds a buffer (R163, R164). -/
inductive Lock where
  | free | engine | capture | apply
  deriving DecidableEq, Repr

/-- A scene buffer (R163). -/
structure Buffer where
  status : BufStatus
  source : Option (Fin 32)
  powerOn : Option PowerOn
  dirty : List (TableId × Nat)
  lock : Lock
  label : Label
  image : Image
  deriving DecidableEq, Repr

/-- Operations of the store engine (R164). -/
inductive EngineOp where
  | load | store | amend | erase
  deriving DecidableEq, Repr

/-- The store engine when BUSY (R164, R167). -/
structure Job where
  op : EngineOp
  page : Fin 32
  buffer : Option (Fin 2)
  /-- The erase stage has begun. -/
  erased : Bool
  /-- The store count kept by the engine. -/
  kept : Nat
  /-- The power-on record a STORE to page 0 writes. -/
  powerOn : Option PowerOn
  deriving DecidableEq, Repr

/-- The scene unit; `job` is none when the engine is IDLE. -/
structure Scene where
  pages : Vector Page 32
  bufs : Vector Buffer 2
  job : Option Job
  deriving DecidableEq, Repr

/-! ## Pins -/

/-- The input pins that are not sampled by a port of their own, as last sampled (1.9): the wall sense lines at a boundary or a
start-up event (R18), the Port B address pins at START_UP (log 23). -/
structure Pins where
  sense : Sense
  address : Fin 8
  deriving DecidableEq, Repr

end Sys2Proof.Machine
end

