-- ==== Sys2Proof/Machine/Defaults.lean ====
section
/-! DEFINITION. The factory defaults (R170), what each block holds after a start-up event, and the wall and partition
derivations that start-up needs (R18 to R20, R56). -/

namespace Sys2Proof.Machine

/-- A bus's paired source (R3): buses 0..23 have the source of the same index. -/
def paired (b s : Fin 26) : Bool := decide (b.val = s.val ∧ b.val < 24)

/-- Bus row of a crosspoint index (R45). -/
def xptBus (i : Fin 676) : Fin 26 := ⟨i.val / 26, by have := i.isLt; omega⟩

/-- Source column of a crosspoint index (R45). -/
def xptSrc (i : Fin 676) : Fin 26 := ⟨i.val % 26, by omega⟩

/-- Factory crosspoints (R170). Excluded positions hold 0. -/
def factoryXpt (i : Fin 676) : Nat :=
  let b := xptBus i
  let s := xptSrc i
  if paired b s then 0
  else if b.val < 16 then (if 16 ≤ s.val then Config.unity else 0)
  else Config.unity

/-- Section defaults (R17). -/
def factorySection : SectionRec :=
  { mode := .gated, openLimit := 4, threshold := 4096, ratio := 64, hold := 500, offLevel := 3277, gateCode := 2,
    lastOn := true, speakerLimit := 4, autoGrant := false, overflow := .refuse, lifetime := 0, speechLimit := 0,
    warnLead := 0, expiry := .warnOnly }

/-- The factory defaults of the configuration tables (R170). -/
def factoryImage : Image :=
  { xpt := tab factoryXpt
    src := same 26 { trim := Config.unity, sect := 0, chair := false }
    bus := same 26 { gain := Config.unity, sect := 0 }
    sec := same 4 factorySection
    grp := same 8 (same 26 false)
    wall := same 3 .follow
    muteCode := 0
    busCode := 2 }

/-- The factory power-on record (R170). -/
def factoryPowerOn : PowerOn :=
  { profileA := .full, profileB := .conference, rate := .r38400, echo := false, follow := false, autoReport := false,
    autoUp := same 16 true }

/-- An empty label. -/
def noLabel : Label := same 4 0

/-- A page as the part first holds it: invalid and empty (DESIGN CHOICE, log 5). -/
def blankPage : Page :=
  { mark := false, flag := 0, label := noLabel, count := 0, check := 0,
    contents := { label := noLabel, image := factoryImage, powerOn := none } }

/-- A buffer after start-up (R163). What stands under EMPTY is not shown (log 5). -/
def emptyBuffer : Buffer :=
  { status := .empty, source := none, powerOn := none, dirty := [], lock := .free, label := noLabel,
    image := factoryImage }

/-- A link record after start-up (R127, R137): armed, with its auto-up due, where the link is in the auto-up set. -/
def startLink (auto : Bool) : LinkRec :=
  { state := .down, requested := .nop, armed := auto, dozeRefused := false, handshake := .none, hsTimer := 0,
    attemptCount := 0, attemptTimer := 0, run := 0, lock := false, badRun := 0, residency := 0, lastBit := true,
    identity := none, faultCode := none, badCount := 0, retrainCount := 0, faultCount := 0, hsFresh := false,
    attemptFresh := false, residencyFresh := false, autoPending := auto, autoWait := false,
    wasActive := false, arrival := none }

/-- Ports, meters and noise trackers after start-up (R4, R10, R12, R14 to R16). -/
def startAudio : Audio :=
  { input := same 26 silence, computed := same 26 silence, sending := same 26 silence, tdmIn := same 8 silence,
    tdmGood := 0, lineIn := same 2 silence, tdmOut := same 8 0, lineOut := same 2 0, sync := .lost, syncCount := 0,
    peak := same 26 0, noise := same 26 Config.noiseTop, busPeak := same 26 0 }

/-- The mix engine after start-up (R51, R53). -/
def startMix : Mix := { snap := none, srcClip := same 26 0, busClip := same 26 0 }

/-- Envelopes after start-up, given the device mute ramp code loaded (R54, R68): the microphones carry LINK. -/
def startEnv (muteCode : Nat) : Vector Env 26 :=
  tab fun i => { value := 0, target := if i.val < 16 then 0 else Config.unity, code := muteCode }

/-- The mute unit after start-up (R69, R79, R82). -/
def startMute : Mute :=
  { recs := same 26 { priv := false, chair := false, far := false, ask := false }, groupMuted := same 8 false,
    quiet := same 4 false }

/-- A port record after start-up, its notice queue holding START (R143, R170). -/
def startPort (profile : Profile) (start : Notice) : PortRec :=
  { profile := profile, cursor := { table := .crosspoint, view := .live, index := 0 }, batch := none, committed := [],
    keep := none, queue := [start], overflow := false }

/-- Port A's own fields after start-up (R143). DESIGN CHOICE: the line being sent, the responses that wait and the echoed
characters are gone (log 44). -/
def startLineA (p : PowerOn) : LineA :=
  { echo := p.echo, follow := p.follow, autoReport := p.autoReport, rx := [], buf := [], long := false,
    overrun := false, followEntry := none, followReady := false, responses := [], sending := none, released := 0,
    echoOpen := false, echoWait := [], echoOut := [] }

/-- Port B's own fields after start-up: the response record NONE (R157). -/
def startRecB : RecordB := { status := .ok, code := 0, data := [], header := false, readOut := [] }

/-- Nothing of the coming boundary's work is taken. -/
def noneAhead : Ahead := { counts := same 4 none, floors := same 4 false }

/-- Level to wall state (R18). -/
def levelWall : Level → WallState
  | .low => .closed
  | .high => .opened

/-- Effective state of a wall (R19). -/
def effectiveOf (o : Override) (sensed : WallState) : WallState :=
  match o with
  | .follow => sensed
  | .opened => .opened
  | .closed => .closed

/-- The partition map of three effective wall states (R20): a section joins its lower neighbour's partition when the wall
between them is open. -/
def mapOf (eff : Vector WallState 3) : PartMap :=
  let p1 : Fin 4 := if eff[0] = .opened then 0 else 1
  let p2 : Fin 4 := if eff[1] = .opened then p1 else 2
  let p3 : Fin 4 := if eff[2] = .opened then p2 else 3
  #v[0, p1, p2, p3]

/-- Step of a ramp code (R56). -/
def rampStep (code : Nat) : Nat :=
  if code = 0 then 342 else if code = 1 then 137 else if code = 2 then 69 else 35

/-- Wall records after start-up (R18, R19). -/
def startWalls (sense : Sense) (overrides : Vector Override 3) : Vector WallRec 3 :=
  tab fun w => { sensed := (levelWall sense[w]), count := 0, effective := effectiveOf overrides[w] (levelWall sense[w]) }

/-- The regroup machine after start-up (R23, R33). -/
def startRegroup (img : Image) (map : PartMap) : Regroup :=
  { state := .steady, map := map, pendMap := map, pendSrc := tab fun i => img.src[i].sect,
    pendBus := tab fun i => img.bus[i].sect, changes := [], affected := same 26 false, touched := same 26 false,
    applyMark := none, applyDue := false, switched := false, r := same 26 0, step := rampStep img.busCode,
    fresh := false, pre := false, tested := false, bySwitch := false, noEval := same 4 false }

end Sys2Proof.Machine
end

