-- ==== Sys2Proof/Machine/State.lean ====
section
/-! DEFINITION. Everything the part holds (spec/00_scope.md 0.3), as plain data, the reasons it could stop, and its value
after reset. -/

namespace Sys2Proof.Machine

/-- Everything the part holds, and the queue of commands that wait. -/
structure State where
  pending : List Instr
  held : Bool
  pins : Pins
  periods : Nat
  live : Image
  rate : Rate
  autoUp : Set16
  audio : Audio
  mix : Mix
  env : Vector Env 26
  walls : Vector WallRec 3
  rg : Regroup
  mute : Mute
  gates : Vector Gate 16
  floors : Vector FloorRec 4
  ahead : Ahead
  links : Vector LinkRec 16
  down : Vector (Option DownFrame) 16
  portA : PortRec
  portB : PortRec
  lineA : LineA
  recB : RecordB
  scene : Scene
  freeCount : Nat
  deriving DecidableEq, Repr

/-- Nothing stops the part with a fault: the manual answers every bad request with a status (R144) and every broken
transfer with a stated effect (R6, R10, R154, R157). No constructor, so no command can raise one. -/
inductive Fault where
  deriving DecidableEq, Repr

/-- Why a command has no meaning. -/
inductive Refusal where
  /-- Raised by a refused arm of `exec` for a row without a meaning, by the row's mnemonic; safe (the model stops where
  the part goes on). No arm raises it now. -/
  | notModelled (mnemonic : String)
  deriving DecidableEq, Repr

/-- What a start-up event leaves in every block (R170), given the configuration it loaded. Until the first boundary after it no
downstream frame is sent (log 34). DESIGN CHOICE: the sample periods are numbered from 0 again, also where the event comes inside a
frame (log 40). -/
def startState (queue : List Instr) (pins : Pins) (img : Image) (p : PowerOn) (pages : Vector Page 32)
    (freeCount : Nat) (start : Notice) : State :=
  let walls := startWalls pins.sense img.wall
  { pending := queue
    held := false
    pins := pins
    periods := 0
    live := img
    rate := p.rate
    autoUp := p.autoUp
    audio := startAudio
    mix := startMix
    env := startEnv img.muteCode
    walls := walls
    rg := startRegroup img (mapOf (tab fun w => walls[w].effective))
    mute := startMute
    gates := same 16 { state := .closed, counter := 0 }
    floors := same 4 { queue := [], grants := [] }
    ahead := noneAhead
    links := tab fun i => startLink p.autoUp[i]
    down := same 16 none
    portA := startPort p.profileA start
    portB := startPort p.profileB start
    lineA := startLineA p
    recB := startRecB
    scene := { pages := pages, bufs := same 2 emptyBuffer, job := none }
    freeCount := freeCount }

/-- The part after reset: a start-up event with cause POWER that found every page invalid, unconnected wall sense lines
(which read OPEN, R18) and the Port B address pins low (log 5). -/
def State.reset : State :=
  startState [] { sense := same 3 .high, address := 0 } factoryImage factoryPowerOn (same 32 blankPage) 0
    (.start .power true)

end Sys2Proof.Machine
end

