-- ==== Sys2Proof/Machine/Ops.lean ====
section
/-! DEFINITION. Operations that every block of the part shares: counting, rounding, the frame check, access to the port
records, notices, and what is derived from the partition map and the configuration. -/

namespace Sys2Proof.Machine

/-! ## Index names (0.5) -/

/-- The sixteen microphones, in ascending index. -/
def mics : List (Fin 16) := List.finRange 16

/-- The 26 sources, in ascending index. -/
def sources : List (Fin 26) := List.finRange 26

/-- The four partition slots, in ascending identifier. -/
def slots : List (Fin 4) := List.finRange 4

/-- The source of a microphone (0.5). -/
def micSource (m : Fin 16) : Fin 26 := ⟨m.val, by have := m.isLt; omega⟩

/-- The microphone of a source, absent for F and L sources (0.5). -/
def sourceMic (i : Fin 26) : Option (Fin 16) := if h : i.val < 16 then some ⟨i.val, h⟩ else none

/-- A number as an index below `n`, absent where it is out of range. -/
def index? (n k : Nat) : Option (Fin n) := if h : k < n then some ⟨k, h⟩ else none

/-! ## Numbers -/

/-- A count that stops at `top` (0.5, "saturates"). -/
def countUp (top n : Nat) : Nat := if n < top then n + 1 else n

/-- Rounded at k bits (R34): floor((v + 2^(k-1)) / 2^k). -/
def roundAt (k : Nat) (v : Int) : Int := (v + 2 ^ (k - 1)) / 2 ^ k

/-- Whether a rounded value lies outside the range of a sample (R35). -/
def outOfRange (v : Int) : Bool := decide (v < -8388608 ∨ 8388607 < v)

/-- Saturated to 24 bits (R35). -/
def saturate (v : Int) : Sample :=
  BitVec.ofInt 24 (if v < -8388608 then -8388608 else if 8388607 < v then 8388607 else v)

/-- Magnitude of a sample (R14). -/
def magnitude (x : Sample) : Nat := x.toInt.natAbs

/-- The largest magnitude of a frame (R14, R16). -/
def framePeak (f : Frame) : Nat := f.toList.foldl (fun p x => max p (magnitude x)) 0

/-- One step of an envelope toward its target, stopping there (R26, R55). -/
def stepToward (value target step : Nat) : Nat :=
  if value < target then min (value + step) target else max (value - step) target

/-! ## The frame check (R161) -/

/-- One bit of the CRC-16 with polynomial 1021h, most significant bit first. -/
def crcBit (crc : BitVec 16) (bit : Bool) : BitVec 16 :=
  if (crc.msb != bit) then (crc <<< 1) ^^^ 0x1021#16 else crc <<< 1

/-- One byte, most significant bit first. -/
def crcByte (crc : BitVec 16) (b : Byte) : BitVec 16 :=
  (List.range 8).foldl (fun c k => crcBit c (b.getLsbD (7 - k))) crc

/-- The CRC-16 of a list of bytes, started from FFFFh. -/
def crc16 (bytes : List Byte) : BitVec 16 := bytes.foldl crcByte 0xFFFF#16

/-- The bytes of a number, most significant first. -/
def bigEndian (bytes n : Nat) : List Byte :=
  (List.range bytes).map fun k => BitVec.ofNat 8 (n / 256 ^ (bytes - 1 - k))

/-- The number that bytes carry, most significant first. -/
def fromBigEndian (bytes : List Byte) : Nat := bytes.foldl (fun n b => n * 256 + b.toNat) 0

/-! ## Sets of sources and links as operands (R160) -/

/-- The set whose member i is bit i of the operand. -/
def bitsSet (n operand : Nat) : Vector Bool n := tab fun i => operand.testBit i.val

/-- The operand whose bit i stands for member i. -/
def setBits {n : Nat} (v : Vector Bool n) : Nat :=
  (List.finRange n).foldl (fun acc i => if v[i] then acc + 2 ^ i.val else acc) 0

/-! ## Port records -/

/-- A port's record. -/
def State.port (s : State) : Port → PortRec
  | .a => s.portA
  | .b => s.portB

/-- The state with a port's record replaced. -/
def State.setPort (s : State) (p : Port) (r : PortRec) : State :=
  match p with
  | .a => { s with portA := r }
  | .b => { s with portB := r }

/-- A notice arrives at a queue: kept in a queue of fewer than 32, else dropped with the overflow flag set (R159). -/
def PortRec.post (r : PortRec) (n : Notice) : PortRec :=
  if r.queue.length < Config.queueCap then { r with queue := r.queue ++ [n] } else { r with overflow := true }

/-- Notices arrive at a queue one after another. -/
def PortRec.postAll (r : PortRec) (ns : List Notice) : PortRec := ns.foldl PortRec.post r

/-- Notices posted into both queues, in order (R159). -/
def State.post (s : State) (ns : List Notice) : State :=
  { s with portA := s.portA.postAll ns, portB := s.portB.postAll ns }

/-- A notice posted into the queue of one port: the BATCH kind (R159). -/
def State.postTo (s : State) (p : Port) (n : Notice) : State := s.setPort p ((s.port p).post n)

/-- A port's attention line is asserted (R159); released while RESET_N is low (R170). -/
def State.attention (s : State) (p : Port) : Bool :=
  !s.held && (!(s.port p).queue.isEmpty || (s.port p).overflow)

/-! ## Partitions (R20 to R22) -/

/-- `p` is the lead section of a partition of the map (R20). -/
def isLead (map : PartMap) (p : Fin 4) : Bool := decide (map[p] = p)

/-- Rank of a mode in the priority of R22. -/
def modeRank : Mode → Nat
  | .openToAll => 0
  | .gated => 1
  | .chaired => 2

/-- The higher of two modes (R22). -/
def modeMax (a b : Mode) : Mode := if modeRank a < modeRank b then b else a

/-- The derived mode of partition `p`: the highest mode among its member sections (R22). -/
def modeOf (map : PartMap) (sec : Vector SectionRec 4) (p : Fin 4) : Mode :=
  slots.foldl (fun m q => if map[q] = p then modeMax m (sec[q]).mode else m) .openToAll

/-- The partition of a section in the map in force. -/
def State.partOf (s : State) (sect : Fin 4) : Fin 4 := s.rg.map[sect]

/-- The partition that holds a microphone under the map in force (R21). -/
def State.micPart (s : State) (m : Fin 16) : Fin 4 := s.partOf (s.live.src[micSource m]).sect

/-- The derived mode of a slot's partition. -/
def State.mode (s : State) (p : Fin 4) : Mode := modeOf s.rg.map s.live.sec p

/-- A slot is in use and its partition has the mode. -/
def State.slotIn (s : State) (m : Mode) (p : Fin 4) : Bool := isLead s.rg.map p && decide (s.mode p = m)

/-- The fields of the lead section of a partition (R22). -/
def State.lead (s : State) (p : Fin 4) : SectionRec := s.live.sec[p]

/-- The chair flag of a microphone's source record (R1). -/
def State.isChair (s : State) (m : Fin 16) : Bool := (s.live.src[micSource m]).chair

/-- The microphones of a partition under the map in force, in ascending index. -/
def State.members (s : State) (p : Fin 4) : List (Fin 16) := mics.filter fun m => decide (s.micPart m = p)

/-- Whether a source contributes to a bus, given their sections and a map: same partition, not the pair (R21, R41). -/
def contributes (map : PartMap) (srcSect busSect : Vector (Fin 4) 26) (b i : Fin 26) : Bool :=
  decide (map[busSect[b]] = map[srcSect[i]]) && !paired b i

end Sys2Proof.Machine
end

