-- ==== Sys2Proof/Machine/Flags.lean ====
section
/-! DEFINITION. What is derived at every moment from other state: hold sets, floor state of a microphone, envelope
targets, candidates, indicator states (R57, R58, R70, R88, R91). -/

namespace Sys2Proof.Machine

/-! ## Hold sets (R70) -/

/-- GROUP is present on a source that is a member of a muted group. -/
def State.groupHeld (s : State) (i : Fin 26) : Bool :=
  (List.finRange 8).any fun g => s.mute.groupMuted[g] && (s.live.grp[g])[i]

/-- LINK is present on a microphone whose link is not ACTIVE. -/
def State.linkHeld (s : State) (i : Fin 26) : Bool :=
  match sourceMic i with
  | some m => decide ((s.links[m]).state ≠ .active)
  | none => false

/-- The hold set of a source: its stored classes and the derived ones (R70). -/
def State.holdSet (s : State) (i : Fin 26) : HoldSet :=
  { priv := (s.mute.recs[i]).priv, chair := (s.mute.recs[i]).chair, far := (s.mute.recs[i]).far,
    group := s.groupHeld i, link := s.linkHeld i }

/-- A hold set with at least one class: the source is effectively muted (R70). -/
def HoldSet.any (h : HoldSet) : Bool := h.priv || h.chair || h.far || h.group || h.link

/-- The source carries a hold. -/
def State.heldSource (s : State) (i : Fin 26) : Bool := (s.holdSet i).any

/-! ## Floor state -/

/-- The source is in the grant list of a record. -/
def FloorRec.granted (r : FloorRec) (m : Fin 16) : Bool := r.grants.any fun g => decide (g.mic = m)

/-- The source is in the request queue of a record. -/
def FloorRec.queued (r : FloorRec) (m : Fin 16) : Bool := r.queue.any fun q => decide (q.mic = m)

/-- The source's grant entry is marked warned. -/
def FloorRec.warnedMic (r : FloorRec) (m : Fin 16) : Bool := r.grants.any fun g => decide (g.mic = m) && g.warned

/-- The floor record that a microphone's entries lie in (R104). -/
def State.floorOf (s : State) (m : Fin 16) : FloorRec := s.floors[s.micPart m]

/-- A gate that is OPEN or LAST_ON (R90). -/
def Gate.isOpen (g : Gate) : Bool := decide (g.state ≠ .closed)

/-- The open count of a slot (R90). -/
def State.openCount (s : State) (p : Fin 4) : Nat := ((s.members p).filter fun m => (s.gates[m]).isOpen).length

/-! ## Envelope targets (R57, R58) -/

/-- Rows 2 to 6 of R57: the target of a microphone that carries no hold. -/
def State.floorLevel (s : State) (m : Fin 16) : Nat :=
  let p := s.micPart m
  match s.mode p with
  | .openToAll => Config.unity
  | .gated => if (s.gates[m]).isOpen then Config.unity else (s.lead p).offLevel
  | .chaired => if (s.floorOf m).granted m || s.isChair m then Config.unity else (s.lead p).offLevel

/-- The envelope target of a source (R57, R58). -/
def State.targetOf (s : State) (i : Fin 26) : Nat :=
  if s.heldSource i then 0
  else match sourceMic i with
    | some m => s.floorLevel m
    | none => Config.unity

/-! ## Candidates (R91) -/

/-- The candidate test on a given frame peak and noise tracker. -/
def State.candidateAt (s : State) (m : Fin 16) (peak noise : Nat) : Bool :=
  let p := s.micPart m
  decide (s.mode p = .gated) && !s.heldSource (micSource m) && decide ((s.lead p).threshold ≤ peak)
    && decide ((s.lead p).ratio * noise ≤ 16 * peak)

/-- The candidate test on the levels of the meters. -/
def State.candidate (s : State) (m : Fin 16) : Bool :=
  s.candidateAt m (s.audio.peak[micSource m]) (s.audio.noise[micSource m])

/-! ## Indicator states (R88) -/

/-- Rows 5 to 7 of R88, and row 4, for a microphone without a hold. -/
def State.floorIndicator (s : State) (m : Fin 16) : Indicator :=
  let p := s.micPart m
  match s.mode p with
  | .openToAll => .live
  | .gated => if (s.gates[m]).isOpen then .live else .ready
  | .chaired =>
    if (s.floorOf m).warnedMic m then .warned
    else if (s.floorOf m).granted m || s.isChair m then .live
    else if (s.floorOf m).queued m then .queued
    else .ready

/-- The indicator state of a microphone (R88). -/
def State.indicator (s : State) (m : Fin 16) : Indicator :=
  let i := micSource m
  let r := s.mute.recs[i]
  if r.priv then .privateMuted
  else if s.heldSource i then (if r.ask then .heldAsking else .held)
  else s.floorIndicator m

end Sys2Proof.Machine
end

