-- ==== Sys2Proof/Machine/AudioPlane.lean ====
section
/-! DEFINITION. The audio plane (chapter 1): what the ports hand over at a boundary, and the level meters. -/

namespace Sys2Proof.Machine

/-- One update of a noise tracker, from the peak set at the same boundary (R15). -/
def trackNoise (noise peak : Nat) : Nat := min (min peak (noise + noise / 4096 + 1)) Config.noiseTop

/-- Link i stands ACTIVE at the previous boundary and at this one (first column of R6). -/
def LinkRec.whole (l : LinkRec) : Bool := l.wasActive && decide (l.state = .active)

/-- The upstream frame of the frame just ended arrived whole with a matching check (R6, R123). -/
def LinkRec.goodFrame (l : LinkRec) : Bool :=
  match l.arrival with
  | some a => a.good
  | none => false

/-- The input frame that a link controller hands to its microphone (R6, R7). -/
def LinkRec.delivered (l : LinkRec) : Frame :=
  match l.arrival with
  | some a => if a.good && l.whole then a.samples else silence
  | none => silence

/-! ## Far-end port (R9 to R11) -/

/-- The sample of an inbound slot or line channel: its first 24 bit periods (R9, R13). -/
def slotSample (w : SlotWord) : Sample := w.extractLsb' 8 24

/-- The alignment marker of slot 0: its last 8 bit periods (R9). -/
def slotMarker (w : SlotWord) : Byte := w.extractLsb' 0 8

/-- An outbound slot or channel: the sample, then eight zero bits (R9, R13). -/
def sampleSlot (x : Sample) : SlotWord := x ++ 0#8

/-- The TDM frame just ended is good: all 48 markers compared equal (R9). -/
def Audio.tdmFrameGood (a : Audio) : Bool := decide (a.tdmGood = Config.framePeriods)

/-- The judgment of the TDM frame at a boundary (R10), with its notices. -/
def judgeSync (a : Audio) : Sync × Nat × List Notice :=
  match a.sync, a.tdmFrameGood with
  | .lost, true => if a.syncCount = 0 then (.lost, 1, []) else (.locked, 2, [.sync .locked])
  | .lost, false => (.lost, 0, [])
  | .locked, true => (.locked, a.syncCount, [])
  | .locked, false => (.lost, 0, [.sync .lost])

/-- The input frame of a source at a boundary, the sync state being that after the judgment (R6, R11, R13). -/
def State.handedOver (s : State) (sync : Sync) (i : Fin 26) : Frame :=
  if h : i.val < 16 then (s.links[i.val]).delivered
  else if h : i.val < 24 then (if sync = .locked then s.audio.tdmIn[i.val - 16] else silence)
  else s.audio.lineIn[i.val - 24]'(by have := i.isLt; omega)

/-- The noise tracker of a source after a boundary (R15), given the peak set there. -/
def State.trackedNoise (s : State) (i : Fin 26) (peak : Nat) : Nat :=
  let n := s.audio.noise[i]
  match sourceMic i with
  | some m => if (s.links[m]).whole then trackNoise n peak else n
  | none => trackNoise n peak

/-- The ports and meters at a boundary: input frames handed over and measured, the computed bus frame handed over and
measured, the receive frames emptied (R4, R10, R11, R13 to R16). -/
def handover (s : State) : State :=
  let a := s.audio
  let j := judgeSync a
  let input : Vector Frame 26 := tab (s.handedOver j.1)
  let peak : Vector Nat 26 := tab fun i => framePeak input[i]
  let audio : Audio :=
    { input := input
      computed := same 26 silence
      sending := a.computed
      tdmIn := same 8 silence
      tdmGood := 0
      lineIn := same 2 silence
      tdmOut := a.tdmOut
      lineOut := a.lineOut
      sync := j.1
      syncCount := j.2.1
      peak := peak
      noise := tab fun i => s.trackedNoise i peak[i]
      busPeak := tab fun b => framePeak (a.computed)[b] }
  State.post { s with audio := audio } j.2.2

end Sys2Proof.Machine
end

