-- ==== Sys2Proof/Machine/Envelope.lean ====
section
/-! DEFINITION. The envelope unit (chapter 4): targets derived again at an event, and the step of a sample period. -/

namespace Sys2Proof.Machine

/-- The ramp code that a change of target takes (R60): the device mute ramp code where the event changed the hold set of
the source, else the gate ramp code of the lead section of its partition. F and L sources take the MUTE class (R58). The codes
are those that the event itself leaves (log 36). -/
def rampCodeFor (before s : State) (i : Fin 26) : Nat :=
  match sourceMic i with
  | none => s.live.muteCode
  | some m => if before.holdSet i = s.holdSet i then (s.lead (s.micPart m)).gateCode else s.live.muteCode

/-- The envelope of a source after an event: the target is derived again, and only a changed target value takes a new
ramp code and step (R59, R60). The envelope value itself does not move (R61). -/
def retargetOne (before s : State) (i : Fin 26) : Env :=
  let e := s.env[i]
  if s.targetOf i = e.target then e
  else { e with target := s.targetOf i, code := rampCodeFor before s i }

/-- Every source's target derived again after the event that led from `before` to `s` (R59). -/
def retarget (before s : State) : State := { s with env := tab (retargetOne before s) }

/-- The step of one sample period (R55). -/
def Env.step (e : Env) : Env := { e with value := stepToward e.value e.target (rampStep e.code) }

end Sys2Proof.Machine
end

