-- ==== Sys2Proof/Machine/Mute.lean ====
section
/-! DEFINITION. The mute unit (chapter 5): what follows a change of hold sets, the placing and releasing of holds, groups,
quiet and unmute requests. -/

namespace Sys2Proof.Machine

/-- The state with the mute records replaced. -/
def State.withRecs (s : State) (recs : Vector MuteRec 26) : State := { s with mute := { s.mute with recs := recs } }

/-! ## What follows a change of hold sets -/

/-- A hold that makes a microphone's hold set non-empty closes its gate at the same event, without LAST_ON (R99). -/
def closeHeld (before s : State) : State :=
  { s with gates := tab fun m =>
      if !before.heldSource (micSource m) && s.heldSource (micSource m) && (s.gates[m]).isOpen
      then { state := .closed, counter := 0 } else s.gates[m] }

/-- The HOLDS notices of an event: one for each source whose hold set it changed, in ascending index (R71). -/
def holdsNotices (before s : State) : List Notice :=
  (sources.filter fun i => decide (before.holdSet i ≠ s.holdSet i)).map fun i => .holds i (s.holdSet i)

/-- The event left the microphone's hold set empty while UNMUTE_ASK was set (R85). -/
def askEnds (before s : State) (m : Fin 16) : Bool :=
  (s.mute.recs[micSource m]).ask && before.heldSource (micSource m) && !s.heldSource (micSource m)

/-- UNMUTE_ASK cleared on the microphones of a test, with one UNMUTE notice each, in ascending index (R85, R86). -/
def clearAsks (test : Fin 16 → Bool) (cause : AskCause) (s : State) : State :=
  let s1 := s.withRecs (tab fun i =>
    match sourceMic i with
    | some m => if test m then { s.mute.recs[i] with ask := false } else s.mute.recs[i]
    | none => s.mute.recs[i])
  s1.post ((mics.filter test).map fun m => .unmute m false cause)

/-- The gates, notices and flags that follow a change of hold sets from `before` to `s`, before the envelope targets:
gates closed, HOLDS notices, then UNMUTE notices (R71, R85, R86, R99; log 18). -/
def followHolds (before s : State) : State :=
  let s1 := (closeHeld before s).post (holdsNotices before s)
  clearAsks (askEnds before s) .cleared s1

/-- Everything that follows an event of the mute unit (R59, R71, R85, R99). -/
def settleHolds (before s : State) : State := retarget before (followHolds before s)

/-! ## Targets and stored holds (R72 to R76) -/

/-- The sources a target names, absent where the request is BAD_OPERAND (R72). -/
def State.targetSet (s : State) (t : Target) : Option Set26 :=
  match t with
  | .source n => (index? 26 n).map fun i => tab fun j => decide (j = i)
  | .partition n =>
    match index? 4 n with
    | some p =>
      if isLead s.rg.map p then
        some (tab fun j => match sourceMic j with | some m => decide (s.micPart m = p) | none => false)
      else none
    | none => none
  | .allMics => some (tab fun j => (sourceMic j).isSome)

/-- The records with `f` applied to each source of a set. -/
def overSet (set : Set26) (f : MuteRec → MuteRec) (s : State) : State :=
  s.withRecs (tab fun i => if set[i] then f s.mute.recs[i] else s.mute.recs[i])

/-- The class of a port present or absent in a record: CHAIR for Port A, FAR for Port B (R72). -/
def MuteRec.setClass (p : Port) (on : Bool) (r : MuteRec) : MuteRec :=
  match p with
  | .a => { r with chair := on }
  | .b => { r with far := on }

/-- The class of a port is present in a record. -/
def MuteRec.hasClass (p : Port) (r : MuteRec) : Bool :=
  match p with
  | .a => r.chair
  | .b => r.far

/-- HOLD on a set of sources (R73). -/
def placeHolds (p : Port) (set : Set26) (s : State) : State :=
  settleHolds s (overSet set (MuteRec.setClass p true) s)

/-- FREE on a set of sources (R74). -/
def releaseHolds (p : Port) (set : Set26) (s : State) : State :=
  settleHolds s (overSet set (MuteRec.setClass p false) s)

/-- A source of the set carries the port's class (R74). -/
def State.anyHeldBy (s : State) (p : Port) (set : Set26) : Bool :=
  sources.any fun i => set[i] && (s.mute.recs[i]).hasClass p

/-- FREEALL (R75, R76): from Port A every CHAIR and FAR hold, every group muted flag and every quiet flag; from Port B
every FAR hold. -/
def freeEverything (p : Port) (s : State) : State :=
  match p with
  | .a =>
    let recs := tab fun i => { s.mute.recs[i] with chair := false, far := false }
    settleHolds s { s with mute := { recs := recs, groupMuted := same 8 false, quiet := same 4 false } }
  | .b => settleHolds s (s.withRecs (tab fun i => { s.mute.recs[i] with far := false }))

/-! ## Groups (R80) -/

/-- A group's muted flag set or cleared (R80). -/
def setGroupMuted (g : Fin 8) (on : Bool) (s : State) : State :=
  settleHolds s { s with mute := { s.mute with groupMuted := put s.mute.groupMuted g on } }

/-! ## Privacy -/

/-- PRIVACY toggled by a MUTE press (R77). -/
def togglePrivacy (m : Fin 16) (s : State) : State :=
  let i := micSource m
  settleHolds s (s.withRecs (put s.mute.recs i { s.mute.recs[i] with priv := !(s.mute.recs[i]).priv }))

/-! ## Quiet (R82, R83) -/

/-- The non-chair microphones of a partition (R82). -/
def State.quietSet (s : State) (p : Fin 4) : Set26 :=
  tab fun j => match sourceMic j with
    | some m => decide (s.micPart m = p) && !s.isChair m
    | none => false

/-- The quiet flag of a partition turned on or off, with its action on the CHAIR holds (R82). -/
def turnQuiet (p : Fin 4) (on : Bool) (s : State) : State :=
  settleHolds s (overSet (s.quietSet p) (MuteRec.setClass .a on)
    { s with mute := { s.mute with quiet := put s.mute.quiet p on } })

/-! ## Unmute requests (R85, R86) -/

/-- UNMUTE_ASK toggled by a TALK press, where its condition holds (R85, R87). -/
def toggleAsk (m : Fin 16) (s : State) : State :=
  let i := micSource m
  let r := s.mute.recs[i]
  if s.heldSource i && !r.priv then
    (s.withRecs (put s.mute.recs i { r with ask := !r.ask })).post [.unmute m (!r.ask) .pod]
  else s

/-- DISMISS on a set of sources (R86). -/
def dismissAsks (set : Set26) (s : State) : State :=
  clearAsks (fun m => set[micSource m] && (s.mute.recs[micSource m]).ask) .dismiss s

end Sys2Proof.Machine
end

