-- ==== Sys2Proof/Machine/Floor.lean ====
section
/-! DEFINITION. The floor unit (chapter 7): queue and grant list, floor requests, timers, boundary work. Every operation on
a record answers the new record and the notices it posts, in order. -/

namespace Sys2Proof.Machine

/-- A record after a change, and the notices of the change in order. -/
abbrev FloorChange := FloorRec × List Notice

/-- An empty record. -/
def emptyFloor : FloorRec := { queue := [], grants := [] }

/-- The record of slot `p` replaced, its notices posted, targets derived again (R59, R105). -/
def setFloor (p : Fin 4) (c : FloorChange) (s : State) : State :=
  retarget s (State.post { s with floors := put s.floors p c.1 } c.2)

/-! ## Changes of a record -/

/-- A new queue entry at the end of the queue (R104, R106). -/
def FloorRec.enqueue (r : FloorRec) (m : Fin 16) : FloorRec := { r with queue := r.queue ++ [{ mic := m, age := 0 }] }

/-- A new grant at the end of the grant list (R104, R109). -/
def FloorRec.addGrant (r : FloorRec) (m : Fin 16) : FloorRec :=
  { r with grants := r.grants ++ [{ mic := m, elapsed := 0, warned := false }] }

/-- A source's entry removed from the queue; the entries behind it close up (R107). -/
def FloorRec.unqueue (r : FloorRec) (m : Fin 16) : FloorRec :=
  { r with queue := r.queue.filter fun q => decide (q.mic ≠ m) }

/-- A source's entry removed from the grant list; the entries behind it close up (R108). -/
def FloorRec.ungrant (r : FloorRec) (m : Fin 16) : FloorRec :=
  { r with grants := r.grants.filter fun g => decide (g.mic ≠ m) }

/-- Every entry of a source removed, with one REMOVED for each (R116, R118). -/
def FloorRec.removeMic (p : Fin 4) (r : FloorRec) (m : Fin 16) : FloorChange :=
  ((r.unqueue m).ungrant m,
    (r.grants.filter fun g => decide (g.mic = m)).map (fun g => .floor p g.mic .removed)
      ++ (r.queue.filter fun q => decide (q.mic = m)).map (fun q => .floor p q.mic .removed))

/-- Both lists emptied: one CLEARED for each entry, grants first, each list in its order (R119). -/
def FloorRec.clearAll (p : Fin 4) (r : FloorRec) : FloorChange :=
  (emptyFloor, r.grants.map (fun g => .floor p g.mic .cleared) ++ r.queue.map fun q => .floor p q.mic .cleared)

/-- A speaker limit lowered below the grant count: the newest grants go, newest first, with REVOKED (R116). -/
def FloorRec.trimNewest (p : Fin 4) (limit : Nat) (r : FloorRec) : FloorChange :=
  ({ r with grants := r.grants.take limit }, (r.grants.drop limit).reverse.map fun g => .floor p g.mic .revoked)

/-! ## Boundary work (R111 to R115) -/

/-- An age or elapsed count after one boundary (R104, R112, R113). -/
def ageUp (n : Nat) : Nat := countUp Config.ageTop n

/-- A queue entry whose age has reached the queue lifetime, the age being that after the boundary (R112). -/
def queueExpired (cfg : SectionRec) (age : Nat) : Bool :=
  decide (0 < cfg.lifetime ∧ cfg.lifetime * Config.framesPerSecond ≤ age)

/-- A grant that is due its warning, the count being that after the boundary (R113). -/
def warnDue (cfg : SectionRec) (warned : Bool) (elapsed : Nat) : Bool :=
  decide (0 < cfg.speechLimit ∧ 0 < cfg.warnLead ∧ cfg.warnLead < cfg.speechLimit)
    && !warned && decide ((cfg.speechLimit - cfg.warnLead) * Config.framesPerSecond ≤ elapsed)

/-- A grant that expires under REVOKE (R114). -/
def revokeDue (cfg : SectionRec) (elapsed : Nat) : Bool :=
  decide (cfg.expiry = .revoke ∧ 0 < cfg.speechLimit ∧ cfg.speechLimit * Config.framesPerSecond ≤ elapsed)

/-- A grant whose count is raised from `before` to exactly the speech limit under WARN_ONLY (R114). -/
def keptDue (cfg : SectionRec) (before : Nat) : Bool :=
  decide (cfg.expiry = .warnOnly ∧ 0 < cfg.speechLimit ∧ before + 1 = cfg.speechLimit * Config.framesPerSecond)

/-- Stage 1: queue ages rise and queue entries expire (R112). -/
def queueStage (p : Fin 4) (cfg : SectionRec) (r : FloorRec) : FloorChange :=
  let aged := r.queue.map fun q => { q with age := ageUp q.age }
  ({ r with queue := aged.filter fun q => !queueExpired cfg q.age },
    (aged.filter fun q => queueExpired cfg q.age).map fun q => .floor p q.mic .expired)

/-- A grant after one boundary: its count and its warned mark (R113, R114). -/
def agedGrant (cfg : SectionRec) (g : GrantEntry) : GrantEntry :=
  { g with elapsed := ageUp g.elapsed
           warned := g.warned || warnDue cfg g.warned (ageUp g.elapsed) || keptDue cfg g.elapsed }

/-- The expiry notices of a grant at one boundary (R114). -/
def expiryNotices (p : Fin 4) (cfg : SectionRec) (g : GrantEntry) : List Notice :=
  if revokeDue cfg (ageUp g.elapsed) then [.speechExpired p g.mic true cfg.speechLimit]
  else if keptDue cfg g.elapsed then [.speechExpired p g.mic false cfg.speechLimit]
  else []

/-- Stage 2: elapsed counts rise, warnings are given, grants expire (R113, R114). DESIGN CHOICE: several warnings of one boundary
stand in grant-list order, as R114 has the expiries (log 18). -/
def grantStage (p : Fin 4) (cfg : SectionRec) (r : FloorRec) : FloorChange :=
  ({ r with grants := (r.grants.map (agedGrant cfg)).filter fun g => !revokeDue cfg g.elapsed },
    (r.grants.filter fun g => warnDue cfg g.warned (ageUp g.elapsed)).map
        (fun g => .speechWarn p g.mic cfg.speechLimit)
      ++ r.grants.flatMap (expiryNotices p cfg))

/-- Stage 3: the auto-grant fill (R111), the oldest queue entries being granted while the list has room. -/
def fillStage (p : Fin 4) (cfg : SectionRec) (r : FloorRec) : FloorChange :=
  if cfg.autoGrant then
    let room := cfg.speakerLimit - r.grants.length
    let next := r.queue.take room
    (next.foldl (fun r' q => r'.addGrant q.mic) { r with queue := r.queue.drop room },
      next.map fun q => .floor p q.mic .granted)
  else (r, [])

/-- The floor unit's piece of work for a slot at a boundary, in its three stages (R115). -/
def floorPiece (p : Fin 4) (cfg : SectionRec) (r : FloorRec) : FloorChange :=
  let a := queueStage p cfg r
  let b := grantStage p cfg a.1
  let c := fillStage p cfg b.1
  (c.1, a.2 ++ b.2 ++ c.2)

/-- The floor unit's work on slot `p` for a boundary, where its partition is CHAIRED and the piece is not taken already (R115). -/
def floorWork (s : State) (p : Fin 4) : State :=
  if s.slotIn .chaired p && !s.ahead.floors[p] then setFloor p (floorPiece p (s.lead p) s.floors[p]) s else s

/-- The marks of the slots whose piece of work is taken. -/
def State.withWorked (s : State) (v : Vector Bool 4) : State := { s with ahead := { s.ahead with floors := v } }

/-- The pieces of all slots that are still to take theirs, in ascending slot number (DESIGN CHOICE: R115 gives the slots no
order among themselves, and their notices need one; log 18). -/
def takePieces (s : State) : State := (slots.foldl floorWork s).withWorked (same 4 true)

/-! ## The timed rows of one entry (log 1) -/

/-- The piece of work of slot `p` taken whole ahead of the boundary about to be taken (R115), where a row's test holds there. -/
def pieceAhead (p : Fin 4) (due : Bool) (s : State) : State :=
  if due && s.slotIn .chaired p && !s.ahead.floors[p] then (floorWork s p).withWorked (put s.ahead.floors p true) else s

/-- QUEUE_EXPIRY: the age of the microphone's queue entry reaches the queue lifetime at the boundary about to be taken (R112). -/
def queueExpiry (m : Fin 16) (s : State) : State :=
  let p := s.micPart m
  pieceAhead p ((s.floors[p]).queue.any fun q => decide (q.mic = m) && queueExpired (s.lead p) (ageUp q.age)) s

/-- A microphone holds a grant of slot `p` that passes a test. -/
def State.grantAny (s : State) (p : Fin 4) (m : Fin 16) (test : GrantEntry → Bool) : Bool :=
  (s.floors[p]).grants.any fun g => decide (g.mic = m) && test g

/-- SPEECH_WARN: the elapsed count reaches the speech limit less the warning lead there (R113). -/
def speechWarning (m : Fin 16) (s : State) : State :=
  let p := s.micPart m
  pieceAhead p (s.grantAny p m fun g => warnDue (s.lead p) g.warned (ageUp g.elapsed)) s

/-- SPEECH_EXPIRY: the elapsed count reaches the speech limit there, and the grant is revoked or kept (R114). -/
def speechExpiry (m : Fin 16) (s : State) : State :=
  let p := s.micPart m
  pieceAhead p (s.grantAny p m fun g => revokeDue (s.lead p) (ageUp g.elapsed) || keptDue (s.lead p) g.elapsed) s

/-! ## Floor requests (R105 to R110) -/

/-- What a request leaves, and its answer. -/
structure Reply where
  state : State
  status : Status
  data : List Nat := []

/-- A refusal that changes nothing. -/
def State.refuse (s : State) (st : Status) : Reply := { state := s, status := st }

/-- The microphone a floor request names, after the checks of R105, or their status. -/
def State.floorSource (s : State) (n : Nat) : Except Status (Fin 16) :=
  match index? 16 n with
  | none => .error .badOperand
  | some m => if s.mode (s.micPart m) = .chaired then .ok m else .error .wrongMode

/-- The slot a floor request names, after the checks of R105, or their status. -/
def State.floorSlot (s : State) (n : Nat) : Except Status (Fin 4) :=
  match index? 4 n with
  | none => .error .badOperand
  | some p =>
    if isLead s.rg.map p then (if s.mode p = .chaired then .ok p else .error .wrongMode) else .error .badOperand

/-- ASK for a microphone of a CHAIRED partition (R106). The data is the outcome: 0 GRANTED, 1 QUEUED. -/
def askMic (m : Fin 16) (s : State) : Reply :=
  let p := s.micPart m
  let r := s.floors[p]
  let cfg := s.lead p
  if (s.links[m]).state ≠ .active then s.refuse .linkDown
  else if r.granted m || s.isChair m then s.refuse .alreadyGranted
  else if r.queued m then s.refuse .duplicate
  else if cfg.autoGrant && r.queue.isEmpty && decide (r.grants.length < cfg.speakerLimit) then
    { state := setFloor p (r.addGrant m, [.floor p m .granted]) s, status := .ok, data := [0] }
  else { state := setFloor p (r.enqueue m, [.floor p m .queued]) s, status := .ok, data := [1] }

/-- WITHDRAW (R107). -/
def withdrawMic (m : Fin 16) (s : State) : Reply :=
  let p := s.micPart m
  let r := s.floors[p]
  if r.queued m then { state := setFloor p (r.unqueue m, [.floor p m .withdrawn]) s, status := .ok }
  else s.refuse .notQueued

/-- RELEASE and REVOKE, which differ in the event they post (R108). -/
def endGrant (event : FloorEvent) (m : Fin 16) (s : State) : Reply :=
  let p := s.micPart m
  let r := s.floors[p]
  if r.granted m then { state := setFloor p (r.ungrant m, [.floor p m event]) s, status := .ok }
  else s.refuse .notGranted

/-- A grant made under the overflow policy, the source leaving the queue (R109, R110). -/
def makeGrant (p : Fin 4) (m : Fin 16) (s : State) : Reply :=
  let r := s.floors[p]
  let cfg := s.lead p
  if r.grants.length < cfg.speakerLimit then
    { state := setFloor p ((r.unqueue m).addGrant m, [.floor p m .granted]) s, status := .ok }
  else match cfg.overflow, r.grants with
    | .bump, g :: rest =>
      { state := setFloor p ((({ r with grants := rest } : FloorRec).unqueue m).addGrant m,
          [.floor p g.mic .bumped, .floor p m .granted]) s
        status := .ok }
    | _, _ => s.refuse .floorFull

/-- GRANT (R109). -/
def grantMic (m : Fin 16) (s : State) : Reply :=
  let p := s.micPart m
  let r := s.floors[p]
  if r.granted m || s.isChair m then s.refuse .alreadyGranted
  else if r.queued m || decide ((s.links[m]).state = .active) then makeGrant p m s
  else s.refuse .linkDown

/-- GRANT_NEXT (R109). -/
def grantOldest (p : Fin 4) (s : State) : Reply :=
  match (s.floors[p]).queue with
  | [] => s.refuse .notQueued
  | q :: _ => makeGrant p q.mic s

/-- CLEARQ (R107). -/
def clearQueue (p : Fin 4) (s : State) : Reply :=
  let r := s.floors[p]
  { state := setFloor p ({ r with queue := [] }, r.queue.map fun q => .floor p q.mic .cleared) s, status := .ok }

/-- A request on a named source, after the common checks. -/
def onSource (n : Nat) (f : Fin 16 → State → Reply) (s : State) : Reply :=
  match s.floorSource n with
  | .ok m => f m s
  | .error st => s.refuse st

/-- A request on a named partition, after the common checks. -/
def onSlot (n : Nat) (f : Fin 4 → State → Reply) (s : State) : Reply :=
  match s.floorSlot n with
  | .ok p => f p s
  | .error st => s.refuse st

/-- ASK (R106). -/
def doAsk (n : Nat) : State → Reply := onSource n askMic
/-- WITHDRAW (R107). -/
def doWithdraw (n : Nat) : State → Reply := onSource n withdrawMic
/-- RELEASE (R108). -/
def doRelease (n : Nat) : State → Reply := onSource n (endGrant .released)
/-- REVOKE (R108). -/
def doRevoke (n : Nat) : State → Reply := onSource n (endGrant .revoked)
/-- GRANT (R109). -/
def doGrant (n : Nat) : State → Reply := onSource n grantMic
/-- GRANT_NEXT (R109). -/
def doGrantNext (n : Nat) : State → Reply := onSlot n grantOldest
/-- CLEARQ (R107). -/
def doClearQ (n : Nat) : State → Reply := onSlot n clearQueue

/-- A TALK press in a CHAIRED partition (R117). -/
def talkFloor (m : Fin 16) (s : State) : State :=
  let r := s.floorOf m
  if s.isChair m then s
  else if r.granted m then (endGrant .released m s).state
  else if r.queued m then (withdrawMic m s).state
  else (askMic m s).state

end Sys2Proof.Machine
end

