-- ==== Sys2Proof/Machine/Links.lean ====
section
/-! DEFINITION. The link controllers (chapter 8): entries to each state with what the other units do at the same event,
requests, messages, frames and the boundary. -/

namespace Sys2Proof.Machine

/-- A link's record replaced. -/
def State.setLink (s : State) (i : Fin 16) (l : LinkRec) : State := { s with links := put s.links i l }

/-- A condition that begins now begins inside a frame, whose boundary does not count it (R127). -/
def State.insideFrame (s : State) : Bool := decide (s.periods ≠ 0)

/-- TRAINING or RETRAIN. -/
def LinkState.inTraining (st : LinkState) : Bool := decide (st = .training ∨ st = .retrain)

/-- TRAINING, ACTIVE, DOZE or RETRAIN: the states in which a pod is in use (R134, R136). -/
def LinkState.inUse (st : LinkState) : Bool := decide (st = .training ∨ st = .active ∨ st = .doze ∨ st = .retrain)

/-! ## Entries (R129, R132, R133, R135 to R137, R140) -/

/-- What the other units do at a link's change of state, after its LINK notice, in the order of R140: the mute record
takes `f`, gate and HOLDS notice, UNMUTE notice, targets, and the floor entries where they are removed. -/
def afterLinkChange (i : Fin 16) (f : MuteRec → MuteRec) (clears removes : Bool) (before s : State) : State :=
  let src := micSource i
  let s1 := s.withRecs (put s.mute.recs src (f s.mute.recs[src]))
  let s2 := (closeHeld before s1).post (holdsNotices before s1)
  let s3 := if clears then clearAsks (fun m => decide (m = i) && (s1.mute.recs[src]).ask) .link s2
    else clearAsks (askEnds before s1) .cleared s2
  let s4 := retarget before s3
  if removes then setFloor (s4.micPart i) (FloorRec.removeMic (s4.micPart i) s4.floors[s4.micPart i] i) s4 else s4

/-- A link's change to the record `l`, with its LINK notice and its effects on the other units (R140). -/
def moveLink (i : Fin 16) (l : LinkRec) (cause : LinkCause) (code : Option Byte) (f : MuteRec → MuteRec)
    (clears removes : Bool) (s : State) : State :=
  afterLinkChange i f clears removes s
    ((s.setLink i l).post [.link i (s.links[i]).state l.state cause code])

/-- An attempt begins (R128). -/
def LinkRec.beginAttempt (l : LinkRec) (inside : Bool) : LinkRec :=
  { l with attemptTimer := 0, run := 0, lock := false, attemptFresh := inside }

/-- A handshake ends or is abandoned. -/
def LinkRec.noHandshake (l : LinkRec) : LinkRec := { l with handshake := .none, hsTimer := 0, hsFresh := false }

/-- A doze handshake is abandoned, a detach handshake stays pending (R131, R133). -/
def LinkRec.dropDoze (l : LinkRec) : LinkRec := if l.handshake = .doze then l.noHandshake else l

/-- Entry to TRAINING from DOWN (R137). -/
def enterTraining (cause : LinkCause) (i : Fin 16) (s : State) : State :=
  let l := s.links[i]
  moveLink i { l.beginAttempt s.insideFrame with state := .training, autoPending := false, autoWait := false }
    cause none id false false s

/-- Entry to RETRAIN (R133). -/
def enterRetrain (cause : LinkCause) (i : Fin 16) (s : State) : State :=
  let l := (s.links[i]).dropDoze
  moveLink i { l.beginAttempt s.insideFrame with
      state := .retrain, retrainCount := countUp Config.maxCount l.retrainCount } cause none id false false s

/-- Entry to ACTIVE at the HELLO that ends an attempt (R129). -/
def enterActive (kind : Byte) (buttons : Vector Bool 3) (slide : Slide) (i : Fin 16) (s : State) : State :=
  let l := s.links[i]
  let s1 : State := { s with audio := { s.audio with noise := put s.audio.noise (micSource i) Config.noiseTop } }
  moveLink i { l with
      state := .active, lock := false, lastBit := true, attemptCount := 0, badRun := 0
      identity := some { kind := kind, buttons := buttons, slide := slide } }
    .hello none (fun r => if slide = .engaged then { r with priv := true } else r) false false s1

/-- Entry to DOZE at the pod's acknowledgement (R131, R132). -/
def enterDoze (i : Fin 16) (s : State) : State :=
  let l := (s.links[i]).noHandshake
  moveLink i { l with state := .doze } .dozeAck none id false true s

/-- PRIVACY released at entry to DOWN, DETACHED or FAULT (R78). -/
def MuteRec.dropPrivacy (r : MuteRec) : MuteRec := { r with priv := false }

/-- Entry to DETACHED (R134, R135). -/
def enterDetached (cause : LinkCause) (i : Fin 16) (s : State) : State :=
  let l := (s.links[i]).noHandshake
  moveLink i { l with state := .detached, lock := false, autoPending := false, autoWait := false }
    cause none MuteRec.dropPrivacy true true s

/-- Entry to FAULT (R136), storing the code of a FAULT_REPORT. -/
def enterFault (cause : LinkCause) (code : Option Byte) (i : Fin 16) (s : State) : State :=
  let l := (s.links[i]).noHandshake
  moveLink i { l with
      state := .fault, lock := false, requested := .nop, residency := 0, residencyFresh := s.insideFrame
      faultCount := countUp Config.maxCount l.faultCount
      faultCode := match code with | some c => some c | none => l.faultCode }
    cause code MuteRec.dropPrivacy true true s

/-- Entry to DOWN with its arming (R137). `timed`: entered by a boundary's own event, so that, where FRAME_BOUNDARY has
still to take that boundary, it is not the first boundary after the entry. -/
def enterDown (cause : LinkCause) (timed : Bool) (i : Fin 16) (s : State) : State :=
  let l := (s.links[i]).noHandshake
  let auto := s.autoUp[i] && decide (l.state ≠ .detached)
  moveLink i { l with
      state := .down, lock := false, armed := auto, dozeRefused := false, attemptCount := 0, identity := none
      autoPending := auto, autoWait := auto && timed && s.insideFrame }
    cause none MuteRec.dropPrivacy true true s

/-! ## The LINK request (R138, R139) -/

/-- Disposition of a LINK request (R138). -/
inductive Disposition where
  | taken | recorded | ignored
  deriving DecidableEq, Repr

/-- A handshake opened with its timer at 0 (R131, R134). -/
def openHandshake (h : Handshake) (i : Fin 16) (s : State) : State :=
  s.setLink i { s.links[i] with handshake := h, hsTimer := 0, hsFresh := s.insideFrame }

/-- NOP (R139). -/
def linkNop (i : Fin 16) (s : State) : State × Disposition :=
  let l := s.links[i]
  if l.state = .down then (s.setLink i { l with armed := true }, .taken) else (s, .ignored)

/-- UP (R139). An entry to DOWN made here takes the next FRAME_BOUNDARY as its first boundary (R137), also between the row
RESIDENCY_MET and that boundary (DESIGN CHOICE, log 29). -/
def linkUp (i : Fin 16) (s : State) : State × Disposition :=
  let l := s.links[i]
  match l.state with
  | .down => if l.armed then (enterTraining .request i s, .taken) else (s, .ignored)
  | .training => (s, .ignored)
  | .active => (s.setLink i { l with dozeRefused := false }, .taken)
  | .doze => (enterRetrain .request i s, .taken)
  | .retrain => (enterDown .request false i s, .taken)
  | .detached => (enterDown .request false i s, .taken)
  | .fault => if l.residency = Config.residencyTop then (enterDown .request false i s, .taken) else (s, .recorded)

/-- DOZE (R131, R139). -/
def linkDoze (i : Fin 16) (s : State) : State × Disposition :=
  let l := s.links[i]
  if l.state = .active ∧ l.dozeRefused = false ∧ l.handshake = .none then (openHandshake .doze i s, .taken)
  else (s, .ignored)

/-- DETACH (R134, R139). -/
def linkDetach (i : Fin 16) (s : State) : State × Disposition :=
  let l := s.links[i]
  if l.state = .down then (enterDetached .request i s, .taken)
  else if l.state.inUse ∧ l.handshake ≠ .detach then (openHandshake .detach i s, .taken)
  else (s, .ignored)

/-- RETRAIN (R133, R139). -/
def linkRetrain (i : Fin 16) (s : State) : State × Disposition :=
  let l := s.links[i]
  if l.state = .active ∧ l.handshake ≠ .detach then (enterRetrain .request i s, .taken) else (s, .ignored)

/-- The table of R139. -/
def linkAction (req : LinkReq) (i : Fin 16) (s : State) : State × Disposition :=
  match req with
  | .nop => linkNop i s
  | .up => linkUp i s
  | .doze => linkDoze i s
  | .detach => linkDetach i s
  | .retrain => linkRetrain i s

/-- Code of a link state, in the order of R127 (R160). -/
def linkStateCode : LinkState → Nat
  | .down => 0
  | .training => 1
  | .active => 2
  | .doze => 3
  | .retrain => 4
  | .detached => 5
  | .fault => 6

/-- Code of a disposition, in the order of R138. -/
def dispositionCode : Disposition → Nat
  | .taken => 0
  | .recorded => 1
  | .ignored => 2

/-- The LINK request (R138): the requested field is written, then the table of R139 acts; the response carries the
disposition and the link state afterwards. -/
def doLink (n : Nat) (req : LinkReq) (s : State) : Reply :=
  match index? 16 n with
  | none => s.refuse .badOperand
  | some i =>
    let a := linkAction req i (s.setLink i { s.links[i] with requested := req })
    { state := a.1, status := .ok, data := [dispositionCode a.2, linkStateCode (a.1.links[i]).state] }

/-! ## Messages (R125, R126) -/

/-- HELLO (R125, R129), `locked` being the lock mark before the arrival of the frame that carries it. -/
def takeHello (locked : Bool) (kind : Byte) (buttons : Vector Bool 3) (slide : Option Slide) (i : Fin 16) (s : State) :
    State :=
  match (s.links[i]).state with
  | .training => if locked then enterActive kind buttons (slide.getD .disengaged) i s else s
  | .retrain => if locked then enterActive kind buttons (slide.getD .disengaged) i s else s
  | .active => enterRetrain .hello i s
  | _ => s

/-- An accepted press taken in ACTIVE (R87). -/
def actPress (b : Button) (m : Fin 16) (s : State) : State :=
  match b with
  | .mute => togglePrivacy m s
  | .talk => if s.mode (s.micPart m) = .chaired then talkFloor m s else toggleAsk m s
  | .all => if s.isChair m then turnQuiet (s.micPart m) (!s.mute.quiet[s.micPart m]) s else s

/-- A BUTTON message (R126): the sequence test in ACTIVE and DOZE, then the press or the wake (R132). -/
def takeButton (b : Button) (seq : Bool) (i : Fin 16) (s : State) : State :=
  let l := s.links[i]
  if l.lastBit = seq then s
  else match l.state with
    | .active => actPress b i (s.setLink i { l with lastBit := seq })
    | .doze => enterRetrain .button i (s.setLink i { l with lastBit := seq })
    | _ => s

/-- DOZE_ACK (R131). -/
def takeDozeAck (i : Fin 16) (s : State) : State :=
  let l := s.links[i]
  if l.state = .active ∧ l.handshake = .doze then enterDoze i s else s

/-- A doze refusal (R131): the link stays ACTIVE, the mark is set, DOZE_REFUSED is posted. -/
def refuseDoze (cause : LinkCause) (i : Fin 16) (s : State) : State :=
  (s.setLink i { (s.links[i]).noHandshake with dozeRefused := true }).post [.dozeRefused i cause]

/-- DOZE_NAK (R131). -/
def takeDozeNak (i : Fin 16) (s : State) : State :=
  let l := s.links[i]
  if l.state = .active ∧ l.handshake = .doze then refuseDoze .nak i s else s

/-- DETACH_ACK (R134). -/
def takeDetachAck (i : Fin 16) (s : State) : State :=
  let l := s.links[i]
  if l.state.inUse ∧ l.handshake = .detach then enterDetached .detachAck i s else s

/-- FAULT_REPORT (R136). -/
def takeFaultReport (code : Byte) (i : Fin 16) (s : State) : State :=
  if (s.links[i]).state.inUse then enterFault .faultReport (some code) i s else s

/-- WAKE (R132). -/
def takeWake (i : Fin 16) (s : State) : State :=
  if (s.links[i]).state = .doze then enterRetrain .wake i s else s

/-! ## Upstream frames (R123, R128, 9.11) -/

/-- The message of an upstream control slot (9.11). -/
inductive PodMessage where
  | hello (kind : Byte) (buttons : Vector Bool 3) (slide : Option Slide)
  | button (b : Button) (seq : Bool)
  | dozeAck
  | dozeNak
  | detachAck
  | faultReport (code : Byte)
  | wake
  deriving DecidableEq, Repr

/-- The slide field of a HELLO: absent, DISENGAGED, ENGAGED; another value makes the message ignored (R161). -/
def slideField (b : Byte) : Option (Option Slide) :=
  if b = 0 then some none else if b = 1 then some (some .disengaged) else if b = 2 then some (some .engaged) else none

/-- The button field of a BUTTON (9.11). -/
def buttonField (b : Byte) : Option Button :=
  if b = 1 then some .mute else if b = 2 then some .talk else if b = 3 then some .all else none

/-- A HELLO of a control slot; none where a field holds a value outside those of 9.11 (R161). -/
def readHello (kind buttons slide : Byte) : Option PodMessage :=
  if buttons.toNat < 8 then (slideField slide).map fun sl => .hello kind (bitsSet 3 buttons.toNat) sl else none

/-- A BUTTON of a control slot (9.11, R161). -/
def readButton (b seq : Byte) : Option PodMessage :=
  if seq.toNat < 2 then (buttonField b).map fun x => .button x (seq.getLsbD 0) else none

/-- The message a control slot carries; none where there is none or R161 has it ignored. -/
def readSlot (b0 b1 b2 b3 : Byte) : Option PodMessage :=
  if b0 = 1 then readHello b1 b2 b3
  else if b0 = 2 then readButton b1 b2
  else if b0 = 3 then some .dozeAck
  else if b0 = 4 then some .dozeNak
  else if b0 = 5 then some .detachAck
  else if b0 = 6 then some (.faultReport b1)
  else if b0 = 7 then some .wake
  else none

/-- Sample word j of an upstream frame, most significant byte first (log 21). -/
def sampleWord (bytes : List Byte) (j : Nat) : Sample :=
  bytes.getD (3 * j) 0 ++ bytes.getD (3 * j + 1) 0 ++ bytes.getD (3 * j + 2) 0

/-- The frame check of a link frame matches its first 148 bytes (R161). -/
def frameGood (bytes : List Byte) : Bool :=
  decide (crc16 (bytes.take 148) = bytes.getD 148 0 ++ bytes.getD 149 0)

/-- A message taken at a frame's arrival, as R125 states for the link's state. -/
def takeMessage (locked : Bool) (msg : PodMessage) (i : Fin 16) (s : State) : State :=
  match msg with
  | .hello kind buttons slide => takeHello locked kind buttons slide i s
  | .button b seq => takeButton b seq i s
  | .dozeAck => takeDozeAck i s
  | .dozeNak => takeDozeNak i s
  | .detachAck => takeDetachAck i s
  | .faultReport code => takeFaultReport code i s
  | .wake => takeWake i s

/-- The training run at a good frame's arrival, and the lock at the fourth (R128). -/
def LinkRec.advanceRun (l : LinkRec) : LinkRec :=
  if l.state.inTraining then
    { l with run := countUp Config.lockRun l.run, lock := l.lock || decide (countUp Config.lockRun l.run = Config.lockRun) }
  else l

/-- UPSTREAM_FRAME_ARRIVAL (R123): the check is computed; a good frame advances the training run and its message is
taken; a bad frame's control slot is discarded unread. A frame that is not 150 bytes long never arrived whole. DESIGN CHOICE: a
frame whose own message begins an attempt does not count in that attempt's training run (R128; log 41). -/
def upstreamArrival (i : Fin 16) (bytes : List Byte) (s : State) : State :=
  if bytes.length = 150 then
    let l := s.links[i]
    let good := frameGood bytes
    let arrived := { l with arrival := some { good := good, samples := tab fun j => sampleWord bytes j.val } }
    if good then
      let s1 := s.setLink i arrived.advanceRun
      match readSlot (bytes.getD 144 0) (bytes.getD 145 0) (bytes.getD 146 0) (bytes.getD 147 0) with
      | some msg => takeMessage l.lock msg i s1
      | none => s1
    else s.setLink i arrived
  else s

/-! ## The boundary (R127, R128, R130, R131, R134, R136, R137) -/

/-- The link timers at a boundary: each rises unless its condition began inside the frame that ends there (R127). -/
def LinkRec.raiseTimers (l : LinkRec) : LinkRec :=
  { l with
    hsTimer := if l.handshake ≠ .none ∧ l.hsFresh = false then countUp Config.handshakeTop l.hsTimer else l.hsTimer
    hsFresh := false
    attemptTimer := if l.state.inTraining ∧ l.attemptFresh = false then countUp Config.attemptTop l.attemptTimer
      else l.attemptTimer
    attemptFresh := false
    residency := if l.state = .fault ∧ l.residencyFresh = false then countUp Config.residencyTop l.residency
      else l.residency
    residencyFresh := false }

/-- The timer stands one frame short of `top` and counts the frame about to end. -/
def oneShort (timer top : Nat) (fresh : Bool) : Bool := decide (timer + 1 = top) && !fresh

/-- A failed attempt (R128): another begins, or the third faults the link. -/
def failAttempt (i : Fin 16) (s : State) : State :=
  let l := s.links[i]
  let n := l.attemptCount + 1
  if Config.attemptsMax ≤ n then
    enterFault .attempts none i (s.setLink i { l with attemptCount := Config.attemptsMax, attemptTimer := Config.attemptTop })
  else s.setLink i { l.beginAttempt s.insideFrame with attemptCount := n }

/-- A bad or missing frame counted on a link ACTIVE since the previous boundary (R130). -/
def LinkRec.countBad (l : LinkRec) : LinkRec :=
  { l with badCount := countUp Config.maxCount l.badCount, badRun := countUp Config.badRunTop l.badRun }

/-- The judgment of a link's frame at a boundary (R123, R128, R130). -/
def judgeFrame (i : Fin 16) (s : State) : State :=
  let l := s.links[i]
  if l.state.inTraining then (if l.goodFrame then s else s.setLink i { l with run := 0 })
  else if l.whole then
    if l.goodFrame then s.setLink i { l with badRun := 0 }
    else if l.countBad.badRun = Config.badRunTop then enterRetrain .badFrames i (s.setLink i l.countBad)
    else s.setLink i l.countBad
  else s

/-- The auto-up boundary (R137). -/
def autoUpBoundary (i : Fin 16) (s : State) : State :=
  let l := s.links[i]
  if l.state = .down ∧ l.autoPending then
    if l.autoWait then s.setLink i { l with autoWait := false }
    else if l.armed then enterTraining .auto i s
    else s.setLink i { l with autoPending := false }
  else s

/-- The expiries of a link's timers at a boundary, each in the state that the one before leaves (R128, R131, R134). -/
def linkTimeouts (i : Fin 16) (s : State) : State :=
  let s1 := if (s.links[i]).handshake = .doze ∧ (s.links[i]).hsTimer = Config.handshakeTop then refuseDoze .noAck i s else s
  let s2 := if (s1.links[i]).handshake = .detach ∧ (s1.links[i]).hsTimer = Config.handshakeTop
    then enterFault .noAck none i s1 else s1
  if (s2.links[i]).state.inTraining ∧ (s2.links[i]).attemptTimer = Config.attemptTop then failAttempt i s2 else s2

/-- The boundary at which residency is met (R136). -/
def residencyBoundary (before : LinkRec) (i : Fin 16) (s : State) : State :=
  let l := s.links[i]
  if l.state = .fault ∧ l.residency = Config.residencyTop ∧ before.residency ≠ Config.residencyTop ∧ l.requested = .up
  then enterDown .residency true i s else s

/-- A link controller's events at a boundary (log 3): timers rise, auto-up, the frame's judgment, timeouts, residency. -/
def linkBoundary (s : State) (i : Fin 16) : State :=
  let l := s.links[i]
  residencyBoundary l i (linkTimeouts i (judgeFrame i (autoUpBoundary i (s.setLink i l.raiseTimers))))

/-- The links after a boundary's handover: the frames just judged are gone, and the state at this boundary is kept. -/
def closeFrames (s : State) : State :=
  { s with links := tab fun i => { s.links[i] with arrival := none, wasActive := decide ((s.links[i]).state = .active) } }

/-! ## Downstream frames (R89, R124) -/

/-- The training pattern: words alternating 555555h and AAAAAAh (R124). -/
def trainingPattern : Frame := tab fun j => if j.val % 2 = 0 then 0x555555 else 0xAAAAAA

/-- The command of a downstream frame (R124). -/
def LinkRec.command (l : LinkRec) : DownCommand :=
  match l.state with
  | .active => match l.handshake with
    | .none => .none
    | .doze => .dozeReq
    | .detach => .detachReq
  | .training => if l.handshake = .detach then .detachReq else .none
  | .retrain => if l.handshake = .detach then .detachReq else if l.lock then .none else .retrainReq
  | .doze => if l.handshake = .detach then .detachReq else .none
  | .down => .none
  | .detached => .none
  | .fault => .none

/-- The downstream frame that begins at a boundary (R8, R124, R126), none in DETACHED. -/
def downFrame (s : State) (indicator : Indicator) (i : Fin 16) : Option DownFrame :=
  let l := s.links[i]
  if l.state = .detached then none
  else some
    { samples := match l.state with
        | .active => s.audio.sending[micSource i]
        | .training => trainingPattern
        | .retrain => trainingPattern
        | _ => silence
      command := l.command
      indicator := indicator
      echo := l.lastBit
      lock := l.state.inTraining && l.lock }

/-- Code of a downstream command (9.11). -/
def downCommandCode : DownCommand → Byte
  | .none => 0
  | .dozeReq => 1
  | .detachReq => 2
  | .retrainReq => 3

/-- Code of an indicator state, in the row order of R88. -/
def indicatorCode : Indicator → Nat
  | .privateMuted => 0
  | .heldAsking => 1
  | .held => 2
  | .warned => 3
  | .live => 4
  | .queued => 5
  | .ready => 6

/-- The 150 bytes of a downstream frame as sent (9.11, R161). -/
def DownFrame.bytes (d : DownFrame) : List Byte :=
  let body := d.samples.toList.flatMap (fun x => bigEndian 3 x.toNat)
    ++ [downCommandCode d.command, BitVec.ofNat 8 (indicatorCode d.indicator),
        BitVec.ofNat 8 ((if d.echo then 1 else 0) + (if d.lock then 2 else 0)), 0]
  body ++ bigEndian 2 (crc16 body).toNat

/-- The downstream frames that begin at a boundary, with the indicator states read there (R89, R124). -/
def startDownstream (indicators : Vector Indicator 16) (s : State) : State :=
  { s with down := tab fun i => downFrame s indicators[i] i }

/-! ## The timed rows (log 1) -/

/-- BAD_FRAME_RUN: the bad run reaches 8 at the boundary about to be taken (R130). -/
def badFrameRun (i : Fin 16) (s : State) : State :=
  let l := s.links[i]
  if l.whole && !l.goodFrame && decide (l.badRun + 1 = Config.badRunTop) then
    enterRetrain .badFrames i (s.setLink i l.countBad)
  else s

/-- ATTEMPT_FAIL: the attempt timer reaches 200 there (R128). -/
def attemptFail (i : Fin 16) (s : State) : State :=
  let l := s.links[i]
  if l.state.inTraining && oneShort l.attemptTimer Config.attemptTop l.attemptFresh then failAttempt i s else s

/-- DOZE_HANDSHAKE_TIMEOUT: the doze handshake timer reaches 8 there (R131). -/
def dozeTimeout (i : Fin 16) (s : State) : State :=
  let l := s.links[i]
  if l.handshake = .doze ∧ oneShort l.hsTimer Config.handshakeTop l.hsFresh then refuseDoze .noAck i s else s

/-- DETACH_HANDSHAKE_TIMEOUT: the detach handshake timer reaches 8 there (R134). -/
def detachTimeout (i : Fin 16) (s : State) : State :=
  let l := s.links[i]
  if l.handshake = .detach ∧ oneShort l.hsTimer Config.handshakeTop l.hsFresh then enterFault .noAck none i s else s

/-- RESIDENCY_MET: the residency timer reaches 250 there, and the link leaves FAULT if the requested field is UP (R136). -/
def residencyMet (i : Fin 16) (s : State) : State :=
  let l := s.links[i]
  if l.state = .fault ∧ oneShort l.residency Config.residencyTop l.residencyFresh then
    let s1 := s.setLink i { l with residency := Config.residencyTop }
    if l.requested = .up then enterDown .residency true i s1 else s1
  else s

/-- AUTO_UP: the first boundary after an auto-armed entry to DOWN (R137). -/
def autoUpEvent (i : Fin 16) (s : State) : State :=
  let l := s.links[i]
  if l.state = .down ∧ l.autoPending ∧ l.autoWait = false ∧ l.armed then enterTraining .auto i s else s

end Sys2Proof.Machine
end

