-- ==== Sys2Proof/Machine/Tables.lean ====
section
/-! DEFINITION. The tables that a cursor reaches, their codes and the entry that a SHOW returns (R146, R147, R160). A
named value is coded from 0 in the order in which its rule lists it. -/

namespace Sys2Proof.Machine

/-! ## Codes (R160) -/

/-- Off 0, On 1; Clear 0, Set 1. -/
def bit (b : Bool) : Nat := if b then 1 else 0

/-- A code 0 or 1 as a flag. -/
def flagOf (n : Nat) : Option Bool := if n = 0 then some false else if n = 1 then some true else none

def modeCode : Mode → Nat
  | .openToAll => 0
  | .gated => 1
  | .chaired => 2

def modeOfCode (n : Nat) : Option Mode :=
  if n = 0 then some .openToAll else if n = 1 then some .gated else if n = 2 then some .chaired else none

def overflowCode : Overflow → Nat
  | .refuse => 0
  | .bump => 1

def overflowOf (n : Nat) : Option Overflow := if n = 0 then some .refuse else if n = 1 then some .bump else none

def expiryCode : Expiry → Nat
  | .warnOnly => 0
  | .revoke => 1

def expiryOf (n : Nat) : Option Expiry := if n = 0 then some .warnOnly else if n = 1 then some .revoke else none

def overrideCode : Override → Nat
  | .follow => 0
  | .opened => 1
  | .closed => 2

def overrideOf (n : Nat) : Option Override :=
  if n = 0 then some .follow else if n = 1 then some .opened else if n = 2 then some .closed else none

/-- CLOSED 0, OPEN 1: the order of R18 (log 7). -/
def wallStateCode : WallState → Nat
  | .closed => 0
  | .opened => 1

def regroupCode : RegroupState → Nat
  | .steady => 0
  | .fadingOut => 1
  | .fadingIn => 2

def profileCode : Profile → Nat
  | .full => 0
  | .config => 1
  | .conference => 2
  | .observe => 3

def profileOf (n : Nat) : Option Profile :=
  if n = 0 then some .full else if n = 1 then some .config else if n = 2 then some .conference
  else if n = 3 then some .observe else none

/-- The Port A rate as a field: its place in the list of section 9.6, from 0 (R160), and not the number of bits per second (DESIGN
CHOICE, log 43). -/
def rateCode : Rate → Nat
  | .r9600 => 0
  | .r19200 => 1
  | .r38400 => 2
  | .r57600 => 3
  | .r115200 => 4

def rateOf (n : Nat) : Option Rate :=
  if n = 0 then some .r9600 else if n = 1 then some .r19200 else if n = 2 then some .r38400
  else if n = 3 then some .r57600 else if n = 4 then some .r115200 else none

def linkReqCode : LinkReq → Nat
  | .nop => 0
  | .up => 1
  | .doze => 2
  | .detach => 3
  | .retrain => 4

def handshakeCode : Handshake → Nat
  | .none => 0
  | .doze => 1
  | .detach => 2

/-- The slide as the control slot codes it: DISENGAGED 01h, ENGAGED 02h (9.11). -/
def slideCode : Slide → Nat
  | .disengaged => 1
  | .engaged => 2

/-- Table codes (R146). -/
def tableCode : TableId → Nat
  | .crosspoint => 0x00
  | .source => 0x01
  | .bus => 0x02
  | .sect => 0x03
  | .group => 0x04
  | .wall => 0x05
  | .device => 0x06
  | .holds => 0x10
  | .queue => 0x11
  | .grant => 0x12
  | .link => 0x13
  | .meters => 0x14
  | .pages => 0x15

/-- The table of a code (R146). -/
def tableOf (n : Nat) : Option TableId :=
  if n = 0x00 then some .crosspoint else if n = 0x01 then some .source else if n = 0x02 then some .bus
  else if n = 0x03 then some .sect else if n = 0x04 then some .group else if n = 0x05 then some .wall
  else if n = 0x06 then some .device else if n = 0x10 then some .holds else if n = 0x11 then some .queue
  else if n = 0x12 then some .grant else if n = 0x13 then some .link else if n = 0x14 then some .meters
  else if n = 0x15 then some .pages else none

/-- Entries of a table (R146). -/
def entryCount : TableId → Nat
  | .crosspoint => 676
  | .source => 26
  | .bus => 26
  | .sect => 4
  | .group => 8
  | .wall => 3
  | .device => 1
  | .holds => 26
  | .queue => 64
  | .grant => 32
  | .link => 16
  | .meters => 52
  | .pages => 32

/-- Status tables, which are selected in LIVE only (R146). -/
def isStatus : TableId → Bool
  | .crosspoint => false
  | .source => false
  | .bus => false
  | .sect => false
  | .group => false
  | .wall => false
  | .device => false
  | .holds => true
  | .queue => true
  | .grant => true
  | .link => true
  | .meters => true
  | .pages => true

/-- The view of a code (R146). -/
def viewOf (n : Nat) : Option View :=
  if n = 0 then some .live else if n = 1 then some (.sb 0) else if n = 2 then some (.sb 1) else none

/-! ## Configuration entries -/

/-- An excluded crosspoint (R46): a bus and its paired source. -/
def excluded (i : Fin 676) : Bool := paired (xptBus i) (xptSrc i)

/-- A source record's fields; the chair flag in M records only (R1). -/
def sourceFields (i : Fin 26) (r : SourceRec) : List Nat :=
  [r.trim, r.sect.val] ++ if (sourceMic i).isSome then [bit r.chair] else []

/-- A bus record's fields (R2). -/
def busFields (r : BusRec) : List Nat := [r.gain, r.sect.val]

/-- The configured fields of a section record, in the order of R17. -/
def sectionFields (r : SectionRec) : List Nat :=
  [modeCode r.mode, r.openLimit, r.threshold, r.ratio, r.hold, r.offLevel, r.gateCode, bit r.lastOn, r.speakerLimit,
    bit r.autoGrant, overflowCode r.overflow, r.lifetime, r.speechLimit, r.warnLead, expiryCode r.expiry]

/-- A label as four operands (R163). -/
def labelFields (l : Label) : List Nat := l.toList.map BitVec.toNat

/-- The power-on record's fields (R146, R162). -/
def powerOnFields (p : PowerOn) : List Nat :=
  [profileCode p.profileA, profileCode p.profileB, rateCode p.rate, bit p.echo, bit p.follow, bit p.autoReport,
    setBits p.autoUp]

/-- The image of a view: the live tables or a buffer's. -/
def State.viewImage (s : State) : View → Image
  | .live => s.live
  | .sb b => (s.scene.bufs[b]).image

/-- The muted flag shown in a view: Clear in a buffer (R79, R163). -/
def State.viewMuted (s : State) (v : View) (g : Fin 8) : Bool :=
  match v with
  | .live => s.mute.groupMuted[g]
  | .sb _ => false

/-- The device entry of a view (R146, R163). -/
def State.deviceFields (s : State) : View → List Nat
  | .live => [s.live.muteCode, s.live.busCode]
  | .sb b =>
    let buf := s.scene.bufs[b]
    [buf.image.muteCode, buf.image.busCode] ++ (buf.powerOn.toList.flatMap powerOnFields) ++ labelFields buf.label

/-- A wall entry: its override in the view, and the live read-only fields (R19, R163). -/
def State.wallFields (s : State) (v : View) (w : Fin 3) : List Nat :=
  [overrideCode (s.viewImage v).wall[w], wallStateCode (s.walls[w]).sensed, (s.walls[w]).count,
    wallStateCode (s.walls[w]).effective]

/-! ## Status entries -/

/-- Stored classes as bits 0 to 2, and derived classes as bits 3 and 4, of the hold set (9.11, log 10). -/
def HoldSet.storedBits (h : HoldSet) : Nat := bit h.priv + 2 * bit h.chair + 4 * bit h.far
def HoldSet.derivedBits (h : HoldSet) : Nat := 8 * bit h.group + 16 * bit h.link

/-- The hold set of a HOLDS notice, bits 0 to 4 (9.11). -/
def HoldSet.bits (h : HoldSet) : Nat := h.storedBits + h.derivedBits

/-- An entry of the holds table (R89). -/
def State.holdsFields (s : State) (i : Fin 26) : List Nat :=
  let h := s.holdSet i
  let e := s.env[i]
  [h.storedBits, h.derivedBits]
    ++ (match sourceMic i with
      | some m => [bit (s.mute.recs[i]).ask, bit s.mute.quiet[s.micPart m], indicatorCode (s.indicator m)]
      | none => [])
    ++ [e.target, e.value, e.code]

/-- A position of the queue table (R122). -/
def State.queueFields (s : State) (p : Fin 4) (k : Nat) : Option (List Nat) :=
  if s.slotIn .chaired p then ((s.floors[p]).queue[k]?).map fun q => [q.mic.val, q.age] else none

/-- A position of the grant table (R122). -/
def State.grantFields (s : State) (p : Fin 4) (k : Nat) : Option (List Nat) :=
  if s.slotIn .chaired p then ((s.floors[p]).grants[k]?).map fun g => [g.mic.val, g.elapsed, bit g.warned] else none

/-- A link entry, in the order of R142; the identity and the fault code are left out when absent (log 8). -/
def linkFields (l : LinkRec) : List Nat :=
  [linkStateCode l.state, linkReqCode l.requested, bit l.armed, bit l.dozeRefused, handshakeCode l.handshake, l.hsTimer,
    l.attemptCount, l.attemptTimer, l.run, bit l.lock, l.badRun, l.residency, bit l.lastBit, l.badCount,
    l.retrainCount, l.faultCount]
    ++ (l.identity.toList.flatMap fun d => [d.kind.toNat, setBits d.buttons, slideCode d.slide])
    ++ (l.faultCode.toList.map BitVec.toNat)

/-- A meters entry (R16): sources, then buses. -/
def State.meterFields (s : State) (k : Fin 52) : List Nat :=
  if h : k.val < 26 then [s.audio.peak[k.val], s.mix.srcClip[k.val]]
  else [s.audio.busPeak[k.val - 26]'(by have := k.isLt; omega), s.mix.busClip[k.val - 26]'(by have := k.isLt; omega)]

/-- A pages entry (R162, 9.11): the flag by the mark, the label, the store count, the check. -/
def pageFields (g : Page) : List Nat := [bit g.mark] ++ labelFields g.label ++ [g.count, g.check.toNat]

/-! ## SHOW's entry (R147) -/

/-- The entry at an index, as fields; none where the position has no entry. -/
def State.fieldsAt (s : State) (t : TableId) (v : View) (k : Nat) : Option (List Nat) :=
  match t with
  | .crosspoint => (index? 676 k).map fun i => [if excluded i then 0 else (s.viewImage v).xpt[i]]
  | .source => (index? 26 k).map fun i => sourceFields i (s.viewImage v).src[i]
  | .bus => (index? 26 k).map fun i => busFields (s.viewImage v).bus[i]
  | .sect => (index? 4 k).map fun i =>
      sectionFields (s.viewImage v).sec[i] ++ [(s.partOf i).val, regroupCode s.rg.state]
  | .group => (index? 8 k).map fun g => [setBits (s.viewImage v).grp[g], bit (s.viewMuted v g)]
  | .wall => (index? 3 k).map fun w => s.wallFields v w
  | .device => (index? 1 k).map fun _ => s.deviceFields v
  | .holds => (index? 26 k).map s.holdsFields
  | .queue => (index? 4 (k / 16)).bind fun p => s.queueFields p (k % 16)
  | .grant => (index? 4 (k / 8)).bind fun p => s.grantFields p (k % 8)
  | .link => (index? 16 k).map fun i => linkFields s.links[i]
  | .meters => (index? 52 k).map s.meterFields
  | .pages => (index? 32 k).map fun g => pageFields s.scene.pages[g]

/-- The view holds no entries: a buffer whose status is EMPTY (R147). -/
def State.viewEmpty (s : State) : View → Bool
  | .live => false
  | .sb b => decide ((s.scene.bufs[b]).status = .empty)

/-- The entry at a cursor as a SHOW returns it; none is EMPTY (R147). An excluded crosspoint in the view of an EMPTY buffer is
EMPTY (log 35). -/
def State.entryAt (s : State) (c : Cursor) : Option (List Nat) :=
  if s.viewEmpty c.view then none else s.fieldsAt c.table c.view c.index

/-- The cursor advanced, wrapping from the last entry to entry 0 (R147). -/
def Cursor.advance (c : Cursor) : Cursor :=
  { c with index := if c.index + 1 < entryCount c.table then c.index + 1 else 0 }

/-- A port's cursor advanced. -/
def State.advance (s : State) (p : Port) : State :=
  s.setPort p { s.port p with cursor := (s.port p).cursor.advance }

end Sys2Proof.Machine
end

