-- ==== Sys2Proof/Machine/Wire.lean ====
section
/-! DEFINITION. The wire forms of answers, notices and lines (9.6, 9.10, 9.11): status and request codes and names, notice
records, Port A's text. -/

namespace Sys2Proof.Machine

/-! ## Statuses and requests -/

/-- Status codes (9.10). -/
def statusCode : Status → Byte
  | .ok => 0x00
  | .clamped => 0x01
  | .empty => 0x02
  | .access => 0x10
  | .badRequest => 0x11
  | .badOperand => 0x12
  | .readOnly => 0x13
  | .excluded => 0x14
  | .busy => 0x15
  | .bufferBusy => 0x16
  | .batchFull => 0x17
  | .noBatch => 0x18
  | .floorFull => 0x1A
  | .duplicate => 0x1B
  | .alreadyGranted => 0x1C
  | .notGranted => 0x1D
  | .notQueued => 0x1E
  | .notHeld => 0x1F
  | .wrongMode => 0x20
  | .linkDown => 0x21
  | .pageInvalid => 0x22
  | .emptyBuffer => 0x23
  | .truncated => 0x24
  | .long => 0x25
  | .overrun => 0x26

/-- The statuses of a request that was taken (9.10). -/
def Status.taken : Status → Bool
  | .ok => true
  | .clamped => true
  | .empty => true
  | _ => false

/-- Request codes (9.11). -/
def requestCode : ReqName → Byte
  | .select => 0x01
  | .showEntry => 0x02
  | .enter => 0x03
  | .mask => 0x04
  | .beginBatch => 0x05
  | .commit => 0x06
  | .abandon => 0x07
  | .notices => 0x08
  | .flags => 0x09
  | .lower => 0x0A
  | .hold => 0x10
  | .free => 0x11
  | .freeAll => 0x12
  | .gmute => 0x13
  | .gunmute => 0x14
  | .quiet => 0x15
  | .dismiss => 0x16
  | .ask => 0x20
  | .withdraw => 0x21
  | .release => 0x22
  | .grant => 0x23
  | .grantNext => 0x24
  | .revoke => 0x25
  | .clearQ => 0x26
  | .wall => 0x30
  | .link => 0x31
  | .load => 0x40
  | .capture => 0x41
  | .store => 0x42
  | .amend => 0x43
  | .erase => 0x44
  | .apply => 0x45
  | .clear => 0x7F

/-- Every request name. -/
def requestNames : List ReqName :=
  [.select, .showEntry, .enter, .mask, .beginBatch, .commit, .abandon, .notices, .flags, .lower, .hold, .free, .freeAll,
    .gmute, .gunmute, .quiet, .dismiss, .ask, .withdraw, .release, .grant, .grantNext, .revoke, .clearQ, .wall, .link,
    .load, .capture, .store, .amend, .erase, .apply, .clear]

/-- The request of a code (9.11). -/
def requestOfCode (c : Byte) : Option ReqName := requestNames.find? fun r => decide (requestCode r = c)

/-- Characters as bytes. -/
def ascii (cs : List Char) : List Byte := cs.map fun c => BitVec.ofNat 8 c.toNat

/-- Request names on Port A's line (9.6). -/
def requestText : ReqName → List Char
  | .select => ['S', 'E', 'L', 'E', 'C', 'T']
  | .showEntry => ['S', 'H', 'O', 'W']
  | .enter => ['E', 'N', 'T', 'E', 'R']
  | .mask => ['M', 'A', 'S', 'K']
  | .beginBatch => ['B', 'E', 'G', 'I', 'N']
  | .commit => ['C', 'O', 'M', 'M', 'I', 'T']
  | .abandon => ['A', 'B', 'A', 'N', 'D', 'O', 'N']
  | .notices => ['N', 'O', 'T', 'I', 'C', 'E', 'S']
  | .flags => ['F', 'L', 'A', 'G', 'S']
  | .lower => ['L', 'O', 'W', 'E', 'R']
  | .hold => ['H', 'O', 'L', 'D']
  | .free => ['F', 'R', 'E', 'E']
  | .freeAll => ['F', 'R', 'E', 'E', 'A', 'L', 'L']
  | .gmute => ['G', 'M', 'U', 'T', 'E']
  | .gunmute => ['G', 'U', 'N', 'M', 'U', 'T', 'E']
  | .quiet => ['Q', 'U', 'I', 'E', 'T']
  | .dismiss => ['D', 'I', 'S', 'M', 'I', 'S', 'S']
  | .ask => ['A', 'S', 'K']
  | .withdraw => ['W', 'I', 'T', 'H', 'D', 'R', 'A', 'W']
  | .release => ['R', 'E', 'L', 'E', 'A', 'S', 'E']
  | .grant => ['G', 'R', 'A', 'N', 'T']
  | .grantNext => ['G', 'R', 'A', 'N', 'T', '_', 'N', 'E', 'X', 'T']
  | .revoke => ['R', 'E', 'V', 'O', 'K', 'E']
  | .clearQ => ['C', 'L', 'E', 'A', 'R', 'Q']
  | .wall => ['W', 'A', 'L', 'L']
  | .link => ['L', 'I', 'N', 'K']
  | .load => ['L', 'O', 'A', 'D']
  | .capture => ['C', 'A', 'P', 'T', 'U', 'R', 'E']
  | .store => ['S', 'T', 'O', 'R', 'E']
  | .amend => ['A', 'M', 'E', 'N', 'D']
  | .erase => ['E', 'R', 'A', 'S', 'E']
  | .apply => ['A', 'P', 'P', 'L', 'Y']
  | .clear => ['C', 'L', 'E', 'A', 'R']

/-- The request that a word of a line names (R154). -/
def requestOfText (w : List Byte) : Option ReqName := requestNames.find? fun r => decide (ascii (requestText r) = w)

/-- Status names (9.10). -/
def statusText : Status → List Char
  | .ok => ['O', 'K']
  | .clamped => ['C', 'L', 'A', 'M', 'P', 'E', 'D']
  | .empty => ['E', 'M', 'P', 'T', 'Y']
  | .access => ['A', 'C', 'C', 'E', 'S', 'S']
  | .badRequest => ['B', 'A', 'D', '_', 'R', 'E', 'Q', 'U', 'E', 'S', 'T']
  | .badOperand => ['B', 'A', 'D', '_', 'O', 'P', 'E', 'R', 'A', 'N', 'D']
  | .readOnly => ['R', 'E', 'A', 'D', '_', 'O', 'N', 'L', 'Y']
  | .excluded => ['E', 'X', 'C', 'L', 'U', 'D', 'E', 'D']
  | .busy => ['B', 'U', 'S', 'Y']
  | .bufferBusy => ['B', 'U', 'F', 'F', 'E', 'R', '_', 'B', 'U', 'S', 'Y']
  | .batchFull => ['B', 'A', 'T', 'C', 'H', '_', 'F', 'U', 'L', 'L']
  | .noBatch => ['N', 'O', '_', 'B', 'A', 'T', 'C', 'H']
  | .floorFull => ['F', 'L', 'O', 'O', 'R', '_', 'F', 'U', 'L', 'L']
  | .duplicate => ['D', 'U', 'P', 'L', 'I', 'C', 'A', 'T', 'E']
  | .alreadyGranted => ['A', 'L', 'R', 'E', 'A', 'D', 'Y', '_', 'G', 'R', 'A', 'N', 'T', 'E', 'D']
  | .notGranted => ['N', 'O', 'T', '_', 'G', 'R', 'A', 'N', 'T', 'E', 'D']
  | .notQueued => ['N', 'O', 'T', '_', 'Q', 'U', 'E', 'U', 'E', 'D']
  | .notHeld => ['N', 'O', 'T', '_', 'H', 'E', 'L', 'D']
  | .wrongMode => ['W', 'R', 'O', 'N', 'G', '_', 'M', 'O', 'D', 'E']
  | .linkDown => ['L', 'I', 'N', 'K', '_', 'D', 'O', 'W', 'N']
  | .pageInvalid => ['P', 'A', 'G', 'E', '_', 'I', 'N', 'V', 'A', 'L', 'I', 'D']
  | .emptyBuffer => ['E', 'M', 'P', 'T', 'Y', '_', 'B', 'U', 'F', 'F', 'E', 'R']
  | .truncated => ['T', 'R', 'U', 'N', 'C', 'A', 'T', 'E', 'D']
  | .long => ['L', 'O', 'N', 'G']
  | .overrun => ['O', 'V', 'E', 'R', 'R', 'U', 'N']

/-! ## Notices (9.11) -/

def startCauseCode : StartCause → Nat
  | .power => 0
  | .pin => 1
  | .clear => 2

def askCauseCode : AskCause → Nat
  | .pod => 0
  | .dismiss => 1
  | .cleared => 2
  | .link => 3

/-- The events of R105 in its order. -/
def floorEventCode : FloorEvent → Nat
  | .queued => 0
  | .granted => 1
  | .withdrawn => 2
  | .released => 3
  | .revoked => 4
  | .bumped => 5
  | .expired => 6
  | .cleared => 7
  | .removed => 8

/-- The causes of R140 in its order. -/
def linkCauseCode : LinkCause → Nat
  | .request => 0
  | .auto => 1
  | .hello => 2
  | .badFrames => 3
  | .dozeAck => 4
  | .wake => 5
  | .button => 6
  | .detachAck => 7
  | .noAck => 8
  | .attempts => 9
  | .faultReport => 10
  | .residency => 11
  | .nak => 12

/-- The events of R164 in its order. -/
def sceneEventCode : SceneEvent → Nat
  | .loaded => 0
  | .captured => 1
  | .stored => 2
  | .amended => 3
  | .erased => 4
  | .applied => 5
  | .checkFailed => 6
  | .failed => 7

def syncCode : Sync → Nat
  | .lost => 0
  | .locked => 1

/-- A payload field that does not apply (R160). -/
def absentField : Nat := 0xFF

/-- Notice kind codes (9.11). -/
def Notice.kind : Notice → Byte
  | .start _ _ => 0x01
  | .holds _ _ => 0x02
  | .unmute _ _ _ => 0x03
  | .floor _ _ _ => 0x04
  | .speechWarn _ _ _ => 0x05
  | .speechExpired _ _ _ _ => 0x05
  | .link _ _ _ _ _ => 0x06
  | .dozeRefused _ _ => 0x06
  | .wall _ _ _ _ => 0x07
  | .regroupDone _ _ => 0x08
  | .scene _ _ _ => 0x09
  | .batchApplied _ _ => 0x0A
  | .batchAbandoned _ => 0x0A
  | .sync _ => 0x0B

/-- Kind of the OVERFLOW notice (9.11). -/
def overflowKind : Byte := 0x0C

/-- Notice kind names, as a notice line carries them. -/
def Notice.kindText : Notice → List Char
  | .start _ _ => ['S', 'T', 'A', 'R', 'T']
  | .holds _ _ => ['H', 'O', 'L', 'D', 'S']
  | .unmute _ _ _ => ['U', 'N', 'M', 'U', 'T', 'E']
  | .floor _ _ _ => ['F', 'L', 'O', 'O', 'R']
  | .speechWarn _ _ _ => ['S', 'P', 'E', 'E', 'C', 'H']
  | .speechExpired _ _ _ _ => ['S', 'P', 'E', 'E', 'C', 'H']
  | .link _ _ _ _ _ => ['L', 'I', 'N', 'K']
  | .dozeRefused _ _ => ['L', 'I', 'N', 'K']
  | .wall _ _ _ _ => ['W', 'A', 'L', 'L']
  | .regroupDone _ _ => ['R', 'E', 'G', 'R', 'O', 'U', 'P']
  | .scene _ _ _ => ['S', 'C', 'E', 'N', 'E']
  | .batchApplied _ _ => ['B', 'A', 'T', 'C', 'H']
  | .batchAbandoned _ => ['B', 'A', 'T', 'C', 'H']
  | .sync _ => ['S', 'Y', 'N', 'C']

/-- Payload fields of a notice, each with its width in bytes (9.11). The map of REGROUP is four fields of one byte, and so four
numbers on a notice line (log 37). -/
def Notice.fields : Notice → List (Nat × Nat)
  | .start c d => [(1, startCauseCode c), (1, bit d)]
  | .holds i h => [(1, i.val), (1, h.bits)]
  | .unmute m f c => [(1, m.val), (1, bit f), (1, askCauseCode c)]
  | .floor p m e => [(1, p.val), (1, m.val), (1, floorEventCode e)]
  | .speechWarn p m l => [(1, p.val), (1, m.val), (1, 0), (1, absentField), (2, l)]
  | .speechExpired p m r l => [(1, p.val), (1, m.val), (1, 1), (1, bit r), (2, l)]
  | .link i a b c f =>
    [(1, i.val), (1, linkStateCode a), (1, linkStateCode b), (1, 0), (1, linkCauseCode c),
      (1, match f with | some x => x.toNat | none => absentField)]
  | .dozeRefused i c =>
    [(1, i.val), (1, linkStateCode .active), (1, linkStateCode .active), (1, 1), (1, linkCauseCode c),
      (1, absentField)]
  | .wall w a o e => [(1, w.val), (1, wallStateCode a), (1, overrideCode o), (1, wallStateCode e)]
  | .regroupDone m w => [(1, m[0].val), (1, m[1].val), (1, m[2].val), (1, m[3].val), (1, bit w)]
  | .scene e b g =>
    [(1, sceneEventCode e), (1, match b with | some x => x.val | none => absentField),
      (1, match g with | some x => x.val | none => absentField)]
  | .batchApplied n w => [(1, 0), (1, n), (1, bit w)]
  | .batchAbandoned n => [(1, 1), (1, n), (1, absentField)]
  | .sync x => [(1, syncCode x)]

/-- A notice record (9.11). -/
def Notice.bytes (n : Notice) : List Byte :=
  let payload := n.fields.flatMap fun f => bigEndian f.1 f.2
  [n.kind, BitVec.ofNat 8 payload.length] ++ payload

/-- The OVERFLOW record (9.11). -/
def overflowBytes : List Byte := [overflowKind, 0]

/-- Widths in bytes of a scene page header's fields: valid flag, label, store count, check (9.11). -/
def headerWidths : List Nat := [1, 4, 4, 4, 4, 3, 2]

/-- Port B's response record: status, request code, data length in bytes, data, four bytes per field but for a scene page
header (R160, 9.11; log 37). -/
def RecordB.bytes (r : RecordB) : List Byte :=
  let data := if r.header then (headerWidths.zip r.data).flatMap fun f => bigEndian f.1 f.2 else r.data.flatMap (bigEndian 4)
  [statusCode r.status, r.code, BitVec.ofNat 8 data.length] ++ data

/-! ## Port A's lines (R155, R156) -/

/-- A hexadecimal digit, in capitals. -/
def hexDigit (n : Nat) : Byte := BitVec.ofNat 8 (if n < 10 then 48 + n else 55 + n)

/-- A number in hexadecimal, of at most `fuel` digits and without leading zeros. -/
def hexText : Nat → Nat → List Byte
  | 0, _ => []
  | fuel + 1, n => if n < 16 then [hexDigit n] else hexText fuel (n / 16) ++ [hexDigit (n % 16)]

/-- Fields, each after a space. -/
def fieldsText (fs : List Nat) : List Byte := fs.flatMap fun n => 0x20 :: hexText 8 n

/-- A line as sent, with carriage return and line feed (R155, R156). DESIGN CHOICE: a space stands between "~" and the table code
of a follow line, and where the position has no entry any more the line carries table code and index alone (log 45). -/
def TxLine.text (l : TxLine) : List Byte :=
  (match l with
    | .response st data => ascii ((if st.taken then '=' else '*') :: statusText st) ++ fieldsText data
    | .follow t k content => ascii ['~'] ++ fieldsText (tableCode t :: k :: content.getD [])
    | .notice n => ascii ('#' :: n.kindText) ++ fieldsText (n.fields.map Prod.snd)
    | .overflow => ascii ['#', 'O', 'V', 'E', 'R', 'F', 'L', 'O', 'W'])
    ++ [0x0D, 0x0A]

/-- The table code and index of a cursor, the data of a refusal (R155, R157). -/
def Cursor.data (c : Cursor) : List Nat := [tableCode c.table, c.index]

/-! ## The transmitter of Port A (R155, R156) -/

/-- The line that a free transmitter starts: a response, then a follow line, then a notice line, OVERFLOW first. DESIGN CHOICE:
where the overflow flag becomes set while the notices that a NOTICES released are still being sent, AUTO-REPORT being Off, OVERFLOW
is the next notice line of that same delivery, before the notices that remain (log 46). -/
def State.nextLine (s : State) : Option TxLine :=
  match s.lineA.responses with
  | r :: _ => some r
  | [] =>
    match s.lineA.followReady, s.lineA.followEntry with
    | true, some f => some (.follow f.cursor.table f.cursor.index (s.entryAt f.cursor))
    | _, _ =>
      if s.lineA.autoReport || decide (0 < s.lineA.released) then
        if s.portA.overflow then some .overflow else s.portA.queue.head?.map .notice
      else none

/-- The transmitter starts its next line, where it is free and no echoed line is open (R155). -/
def startLine (s : State) : State :=
  if s.lineA.sending.isSome || s.lineA.echoOpen then s
  else match s.nextLine with
    | none => s
    | some l =>
      let a := { s.lineA with sending := some l }
      { s with lineA := match l with
          | .response _ _ => { a with responses := a.responses.drop 1 }
          | .follow _ _ content =>
            { a with followReady := false, followEntry := a.followEntry.map fun f => { f with sent := content } }
          | .notice _ => a
          | .overflow => a }

/-- A character moved into the line buffer: capitals, line feeds dropped, those past the 80th discarded (R154). -/
def LineA.take (a : LineA) (c : Byte) : LineA :=
  let u : Byte := if 0x61 ≤ c ∧ c ≤ 0x7A then c - 0x20 else c
  if c = 0x0A then a
  else if a.buf.length < Config.lineCap then { a with buf := a.buf ++ [u] } else { a with long := true }

/-- Characters moved from the receive buffer up to a carriage return, which stays at its front (R154). -/
def moveChars : List Byte → LineA → LineA
  | [], a => { a with rx := [] }
  | c :: cs, a => if c = 0x0D then { a with rx := c :: cs } else moveChars cs (a.take c)

/-- The request unit moves characters while no response waits to be sent (R154). -/
def moveReceived (s : State) : State :=
  if s.lineA.responses.isEmpty then { s with lineA := moveChars s.lineA.rx s.lineA } else s

/-- What Port A does after any event: a free transmitter starts a line, and characters move. -/
def settleLine (s : State) : State := moveReceived (startLine s)

/-- The response about to be given on Port B is a SHOW of a scene page header (R160, 9.11). A SHOW leaves the cursor's table. -/
def State.showsHeader (s : State) (code : Byte) (st : Status) : Bool :=
  decide (code = requestCode .showEntry ∧ st = .ok ∧ s.portB.cursor.table = .pages)

/-- A response given (R155, R157). -/
def respond (p : Port) (code : Byte) (st : Status) (data : List Nat) (s : State) : State :=
  match p with
  | .a => { s with lineA := { s.lineA with responses := s.lineA.responses ++ [.response st data] } }
  | .b => { s with recB := { s.recB with status := st, code := code, data := data, header := s.showsHeader code st } }

end Sys2Proof.Machine
end

