-- ==== Sys2Proof/Machine/Operands.lean ====
section
/-! DEFINITION. Operand forms (9.2 to 9.6, R160): the entry that an ENTER's operands carry, clamped as R149 states, and the
request that operands of a line or record spell. -/

namespace Sys2Proof.Machine

/-! ## The forms of ENTER (R148, R149) -/

/-- What an ENTER's operands carry, by the table at the cursor. -/
inductive EnterValue where
  | entry (e : Entry)
  /-- A buffer's device entry (R163). -/
  | device (muteCode busCode : Nat) (record : Option PowerOn) (label : Label)
  | clip (n : Nat)
  | readOnly
  deriving DecidableEq, Repr

/-- The nearer end of a range for a value outside it (R149). -/
def clampTo (lo hi n : Nat) : Nat := max lo (min n hi)

/-- A value lies outside its range (R149). -/
def outside (lo hi n : Nat) : Bool := decide (n < lo ∨ hi < n)

/-- A section field, not above 3 (R149). -/
def sectField (n : Nat) : Option (Fin 4) := index? 4 n

/-- A set of sources, none above 25 (R149). -/
def sourceSet (n : Nat) : Option Set26 := if n < 2 ^ 26 then some (bitsSet 26 n) else none

/-- A set of links (R160); one above 15 is refused BAD_OPERAND, as R149 states for sources (log 38). -/
def linkSet (n : Nat) : Option Set16 := if n < 2 ^ 16 then some (bitsSet 16 n) else none

/-- A source record's form: three operands for a microphone, two for the others (R1). -/
def readSource (i : Fin 26) (ops : List Nat) : Option (EnterValue × Bool) :=
  match (sourceMic i).isSome, ops with
  | true, [t, q, c] =>
    (sectField q).bind fun q' => (flagOf c).map fun c' =>
      (.entry (.src i { trim := clampTo 0 Config.maxGain t, sect := q', chair := c' }), outside 0 Config.maxGain t)
  | false, [t, q] =>
    (sectField q).map fun q' =>
      (.entry (.src i { trim := clampTo 0 Config.maxGain t, sect := q', chair := false }), outside 0 Config.maxGain t)
  | _, _ => none

/-- A bus record's form (R2). -/
def readBus (i : Fin 26) (ops : List Nat) : Option (EnterValue × Bool) :=
  match ops with
  | [g, q] =>
    (sectField q).map fun q' =>
      (.entry (.bus i { gain := clampTo 0 Config.maxGain g, sect := q' }), outside 0 Config.maxGain g)
  | _ => none

/-- A section record's form: its fifteen fields, then the two read-only ones, which are ignored (R17). -/
def readSection (i : Fin 4) (ops : List Nat) : Option (EnterValue × Bool) :=
  match ops with
  | [mode, limit, thr, ratio, hold, off, code, last, speak, auto, ovf, life, speech, lead, act, _, _] =>
    match modeOfCode mode, flagOf last, flagOf auto, overflowOf ovf, expiryOf act with
    | some m, some l, some a, some o, some x =>
      some (.entry (.sec i
        { mode := m, openLimit := clampTo 1 8 limit, threshold := clampTo 0 8388607 thr, ratio := clampTo 16 255 ratio,
          hold := clampTo 0 2000 hold, offLevel := clampTo 0 32768 off, gateCode := clampTo 0 3 code, lastOn := l,
          speakerLimit := clampTo 1 8 speak, autoGrant := a, overflow := o, lifetime := clampTo 0 600 life,
          speechLimit := clampTo 0 3600 speech, warnLead := clampTo 0 3600 lead, expiry := x }),
        outside 1 8 limit || outside 0 8388607 thr || outside 16 255 ratio || outside 0 2000 hold
          || outside 0 32768 off || outside 0 3 code || outside 1 8 speak || outside 0 600 life
          || outside 0 3600 speech || outside 0 3600 lead)
    | _, _, _, _, _ => none
  | _ => none

/-- A group's form: the membership, and the muted flag, which is ignored (R79). -/
def readGroup (g : Fin 8) (ops : List Nat) : Option (EnterValue × Bool) :=
  match ops with
  | [m, _] => (sourceSet m).map fun m' => (.entry (.grp g m'), false)
  | _ => none

/-- A wall's form: the override, and three read-only fields, which are ignored (R19). -/
def readWall (w : Fin 3) (ops : List Nat) : Option (EnterValue × Bool) :=
  match ops with
  | [o, _, _, _] => (overrideOf o).map fun o' => (.entry (.wall w o'), false)
  | _ => none

/-- The seven power-on fields (R146, R162); a named field or set outside its values makes the whole entry BAD_OPERAND (R149; log 38). -/
def readPowerOn (a b rate echo follow auto up : Nat) : Option PowerOn :=
  match profileOf a, profileOf b, rateOf rate, flagOf echo, flagOf follow, flagOf auto, linkSet up with
  | some a', some b', some r, some e, some f, some u, some l =>
    some { profileA := a', profileB := b', rate := r, echo := e, follow := f, autoReport := u, autoUp := l }
  | _, _, _, _, _, _, _ => none

/-- A label of four operands (R163). -/
def readLabel (l0 l1 l2 l3 : Nat) : Label :=
  #v[BitVec.ofNat 32 l0, BitVec.ofNat 32 l1, BitVec.ofNat 32 l2, BitVec.ofNat 32 l3]

/-- The device entry's form in a view: two operands in LIVE; in a buffer with the power-on fields and the label; a buffer
without a power-on record takes the form with or without those fields, and ignores them (R146, R163; log 8). -/
def readDevice (s : State) (v : View) (ops : List Nat) : Option (EnterValue × Bool) :=
  match v, ops with
  | .live, [m, b] => some (.entry (.dev (clampTo 0 3 m) (clampTo 0 3 b)), outside 0 3 m || outside 0 3 b)
  | .sb x, [m, b, l0, l1, l2, l3] =>
    if (s.scene.bufs[x]).powerOn.isNone then
      some (.device (clampTo 0 3 m) (clampTo 0 3 b) none (readLabel l0 l1 l2 l3), outside 0 3 m || outside 0 3 b)
    else none
  | .sb x, [m, b, pa, pb, rate, echo, follow, auto, up, l0, l1, l2, l3] =>
    if (s.scene.bufs[x]).powerOn.isNone then
      some (.device (clampTo 0 3 m) (clampTo 0 3 b) none (readLabel l0 l1 l2 l3), outside 0 3 m || outside 0 3 b)
    else
      (readPowerOn pa pb rate echo follow auto up).map fun r =>
        (.device (clampTo 0 3 m) (clampTo 0 3 b) (some r) (readLabel l0 l1 l2 l3), outside 0 3 m || outside 0 3 b)
  | _, _ => none

/-- A crosspoint's form (R45). -/
def readXpt (i : Fin 676) (ops : List Nat) : Option (EnterValue × Bool) :=
  match ops with
  | [v] => some (.entry (.xpt i (clampTo 0 Config.maxGain v)), outside 0 Config.maxGain v)
  | _ => none

/-- A meters entry's form: the peak, which is ignored, and the clip field (R51). -/
def readMeter (ops : List Nat) : Option (EnterValue × Bool) :=
  match ops with
  | [_, c] => some (.clip c, false)
  | _ => none

/-- A read-only status entry's form: as many operands as a SHOW returns fields (R148). -/
def readStatus (count : Nat) (ops : List Nat) : Option (EnterValue × Bool) :=
  if ops.length = count then some (.readOnly, false) else none

/-- The value that an ENTER carries to the entry at a cursor, and whether a field was clamped; none is BAD_OPERAND. A queue or
grant position without an entry takes the form of one with an entry (log 11). DESIGN CHOICE: a pages entry takes the seven operands
that a SHOW answers on Port A, on both ports (log 37). -/
def readForm (s : State) (c : Cursor) (ops : List Nat) : Option (EnterValue × Bool) :=
  match c.table with
  | .crosspoint => (index? 676 c.index).bind fun i => readXpt i ops
  | .source => (index? 26 c.index).bind fun i => readSource i ops
  | .bus => (index? 26 c.index).bind fun i => readBus i ops
  | .sect => (index? 4 c.index).bind fun i => readSection i ops
  | .group => (index? 8 c.index).bind fun g => readGroup g ops
  | .wall => (index? 3 c.index).bind fun w => readWall w ops
  | .device => readDevice s c.view ops
  | .holds => (index? 26 c.index).bind fun i => readStatus (s.holdsFields i).length ops
  | .queue => readStatus 2 ops
  | .grant => readStatus 3 ops
  | .link => (index? 16 c.index).bind fun i => readStatus (linkFields s.links[i]).length ops
  | .meters => readMeter ops
  | .pages => (index? 32 c.index).bind fun k => readStatus (pageFields s.scene.pages[k]).length ops

/-! ## Requests as lines and records spell them (9.6, 9.7, R160) -/

/-- A request with its operands. -/
inductive Request where
  | select (table view index : Nat)
  | showEntry
  | enter (operands : List Nat)
  | mask (sources : Nat)
  | beginBatch
  | commit
  | abandon
  | wall (wall : Nat) (override : Override)
  | notices
  | flags (flag : PortFlag) (on : Bool)
  | lower (profile : Profile)
  | hold (target : Target)
  | free (target : Target)
  | freeAll
  | gmute (group : Nat)
  | gunmute (group : Nat)
  | quiet (partition : Nat) (on : Bool)
  | dismiss (target : Target)
  | ask (source : Nat)
  | withdraw (source : Nat)
  | release (source : Nat)
  | grant (source : Nat)
  | grantNext (partition : Nat)
  | revoke (source : Nat)
  | clearQ (partition : Nat)
  | link (link : Nat) (req : LinkReq)
  | load (page buffer : Nat)
  | capture (buffer : Nat)
  | store (buffer page : Nat)
  | amend (buffer page : Nat)
  | erase (page : Nat)
  | apply (buffer : Nat)
  | clear
  deriving DecidableEq, Repr

/-- ECHO 0, FOLLOW 1, AUTO-REPORT 2 (R155). -/
def portFlagOf (n : Nat) : Option PortFlag :=
  if n = 0 then some .echo else if n = 1 then some .follow else if n = 2 then some .autoReport else none

/-- The values of LINK in the order of R138. -/
def linkReqOf (n : Nat) : Option LinkReq :=
  if n = 0 then some .nop else if n = 1 then some .up else if n = 2 then some .doze else if n = 3 then some .detach
  else if n = 4 then some .retrain else none

/-- The state of QUIET: ON 0, OFF 1, the order of R82 (log 6). -/
def quietStateOf (n : Nat) : Option Bool := if n = 0 then some true else if n = 1 then some false else none

/-- A target: source 0 and partition 1 with their operand, all microphones 2 (R72; log 6). -/
def targetOfOps (ops : List Nat) : Option Target :=
  match ops with
  | [k, n] => if k = 0 then some (.source n) else if k = 1 then some (.partition n) else none
  | [k] => if k = 2 then some .allMics else none
  | _ => none

/-- A request without operands. -/
def bare (r : Request) (ops : List Nat) : Option Request := if ops.isEmpty then some r else none

/-- A request with one operand. -/
def unary (f : Nat → Request) (ops : List Nat) : Option Request :=
  match ops with
  | [a] => some (f a)
  | _ => none

/-- A request with two operands. -/
def binary (f : Nat → Nat → Option Request) (ops : List Nat) : Option Request :=
  match ops with
  | [a, b] => f a b
  | _ => none

/-- The request that a name and its operands spell; none where they are not of its form, BAD_OPERAND (R144 step 3). -/
def readRequest (name : ReqName) (ops : List Nat) : Option Request :=
  match name with
  | .select => match ops with
    | [t, v, k] => some (.select t v k)
    | _ => none
  | .showEntry => bare .showEntry ops
  | .enter => some (.enter ops)
  | .mask => unary .mask ops
  | .beginBatch => bare .beginBatch ops
  | .commit => bare .commit ops
  | .abandon => bare .abandon ops
  | .notices => bare .notices ops
  | .flags => binary (fun f x => (portFlagOf f).bind fun f' => (flagOf x).map fun x' => .flags f' x') ops
  | .lower => match ops with
    | [n] => (profileOf n).map .lower
    | _ => none
  | .hold => (targetOfOps ops).map .hold
  | .free => (targetOfOps ops).map .free
  | .freeAll => bare .freeAll ops
  | .gmute => unary .gmute ops
  | .gunmute => unary .gunmute ops
  | .quiet => binary (fun p x => (quietStateOf x).map fun x' => .quiet p x') ops
  | .dismiss => (targetOfOps ops).map .dismiss
  | .ask => unary .ask ops
  | .withdraw => unary .withdraw ops
  | .release => unary .release ops
  | .grant => unary .grant ops
  | .grantNext => unary .grantNext ops
  | .revoke => unary .revoke ops
  | .clearQ => unary .clearQ ops
  | .wall => binary (fun w o => (overrideOf o).map fun o' => .wall w o') ops
  | .link => binary (fun i r => (linkReqOf r).map fun r' => .link i r') ops
  | .load => binary (fun k b => some (.load k b)) ops
  | .capture => unary .capture ops
  | .store => binary (fun b k => some (.store b k)) ops
  | .amend => binary (fun b k => some (.amend b k)) ops
  | .erase => unary .erase ops
  | .apply => unary .apply ops
  | .clear => bare .clear ops

end Sys2Proof.Machine
end

