-- ==== Sys2Proof/Machine/Gating.lean ====
section
/-! DEFINITION. The gating unit (chapter 6): the evaluation of a slot at a frame boundary. -/

namespace Sys2Proof.Machine

/-- The gate entries of the sixteen microphones. -/
abbrev Gates := Vector Gate 16

/-- What an evaluation of one slot reads (R92): its members, the candidates, the frame peaks, the chair flags, and the
lead section's open limit, hold H and last-on option. -/
structure GateView where
  members : List (Fin 16)
  cand : Fin 16 → Bool
  peak : Fin 16 → Nat
  chair : Fin 16 → Bool
  limit : Nat
  hold : Nat
  lastOn : Bool

/-- A gate closed, its counter at 0. -/
def shutGate : Gate := { state := .closed, counter := 0 }

/-! ## Closing phase -/

/-- The hold counters of one boundary (R93). -/
def stepCounter (v : GateView) (m : Fin 16) (g : Gate) : Gate :=
  match g.state with
  | .closed => g
  | .opened => if v.cand m then { state := .opened, counter := v.hold } else { g with counter := g.counter - 1 }
  | .lastOn => if v.cand m then { state := .opened, counter := v.hold } else { state := .lastOn, counter := 0 }

/-- The entry is OPEN, not a candidate, and its counter reaches 0 at this boundary (R93). -/
def expires (v : GateView) (gs : Gates) (m : Fin 16) : Bool :=
  decide ((gs[m]).state = .opened) && !v.cand m && decide ((gs[m]).counter ≤ 1)

/-- The microphone with the largest P of a list in ascending index, ties going to the lower index (R94). -/
def loudest (peak : Fin 16 → Nat) (l : List (Fin 16)) : Option (Fin 16) :=
  l.foldl (fun b m => match b with
    | none => some m
    | some x => if peak x < peak m then some m else some x) none

/-- The microphone that becomes LAST_ON when counters reach 0 (R94): last-on On, no entry left OPEN, none LAST_ON. -/
def becomesLast (v : GateView) (gs : Gates) : Option (Fin 16) :=
  let stays := v.members.any fun m => decide ((stepCounter v m gs[m]).state ≠ .closed) && !expires v gs m
  if v.lastOn && !stays then loudest v.peak (v.members.filter (expires v gs)) else none

/-- One entry after the counters and last-on (R93, R94). -/
def closeOne (v : GateView) (gs : Gates) (m : Fin 16) : Gate :=
  if m ∈ v.members then
    if expires v gs m then
      (if becomesLast v gs = some m then { state := .lastOn, counter := 0 } else shutGate)
    else
      let g := stepCounter v m gs[m]
      if g.state = .lastOn ∧ v.lastOn = false then shutGate else g
  else gs[m]

/-- Of the entries a test picks, the one with the lowest hold counter, ties going to the higher index (R95, R97). -/
def victim (gs : Gates) (l : List (Fin 16)) : Option (Fin 16) :=
  l.foldl (fun b m => match b with
    | none => some m
    | some x => if (gs[m]).counter ≤ (gs[x]).counter then some m else some x) none

/-- Close the `n` entries with the lowest hold counters of those OPEN or LAST_ON (R95). -/
def closeExcess (members : List (Fin 16)) : Nat → Gates → Gates
  | 0, gs => gs
  | n + 1, gs =>
    match victim gs (members.filter fun m => (gs[m]).isOpen) with
    | none => gs
    | some m => closeExcess members n (put gs m shutGate)

/-- Entries of a list that are OPEN or LAST_ON. -/
def countOpen (members : List (Fin 16)) (gs : Gates) : Nat := (members.filter fun m => (gs[m]).isOpen).length

/-- The closing phase (R92): counters and last-on, then the open limit. -/
def closingPhase (v : GateView) (gs : Gates) : Gates :=
  let g1 : Gates := tab (closeOne v gs)
  closeExcess v.members (countOpen v.members g1 - v.limit) g1

/-! ## Opening phase -/

/-- The ranking of candidates (R96): chair microphones, then larger P, then lower index. -/
def ranksBefore (v : GateView) (x y : Fin 16) : Bool :=
  if v.chair x != v.chair y then v.chair x
  else if v.peak x ≠ v.peak y then decide (v.peak y < v.peak x)
  else decide (x ≤ y)

/-- The closed candidates in rank order (R96). -/
def rankedCandidates (v : GateView) (gs : Gates) : List (Fin 16) :=
  (v.members.filter fun m => v.cand m && decide ((gs[m]).state = .closed)).insertionSort
    (fun x y => ranksBefore v x y = true)

/-- Gates, free slots, and whether a microphone opened, as the opening phase goes on. -/
structure Opening where
  gates : Gates
  free : Nat
  opened : Bool

/-- A candidate taken in rank order (R96), a chair candidate without a free slot preempting (R97). -/
def takeCandidate (v : GateView) (o : Opening) (m : Fin 16) : Opening :=
  let openGate : Gate := { state := .opened, counter := v.hold }
  if 0 < o.free then { gates := put o.gates m openGate, free := o.free - 1, opened := true }
  else if v.chair m then
    match victim o.gates (v.members.filter fun x => decide ((o.gates[x]).state = .opened) && !v.chair x) with
    | none => o
    | some x => { gates := put (put o.gates x shutGate) m openGate, free := 0, opened := true }
  else o

/-- The opening phase (R96, R97), and the release of a last-on microphone when another opened (R94). -/
def openingPhase (v : GateView) (gs : Gates) : Gates :=
  let openNow := (v.members.filter fun m => decide ((gs[m]).state = .opened)).length
  let o := (rankedCandidates v gs).foldl (takeCandidate v) { gates := gs, free := v.limit - openNow, opened := false }
  if o.opened then
    tab fun m => if m ∈ v.members ∧ (o.gates[m]).state = .lastOn then shutGate else o.gates[m]
  else o.gates

/-- One evaluation of a slot (R92). -/
def evaluateSlot (v : GateView) (gs : Gates) : Gates := openingPhase v (closingPhase v gs)

/-- What the evaluation of a slot reads, on given levels. -/
def State.gateView (s : State) (p : Fin 4) (peak noise : Fin 16 → Nat) : GateView :=
  { members := s.members p
    cand := fun m => s.candidateAt m (peak m) (noise m)
    peak := peak
    chair := s.isChair
    limit := (s.lead p).openLimit
    hold := (s.lead p).hold
    lastOn := (s.lead p).lastOn }

/-- The view of a slot on the levels of the meters. -/
def State.meterView (s : State) (p : Fin 4) : GateView :=
  s.gateView p (fun m => s.audio.peak[micSource m]) (fun m => s.audio.noise[micSource m])

/-- Slot `p` is evaluated at the coming boundary: its partition is GATED, no switch changed it at this same boundary (R92,
R102), and it is not evaluated for that boundary already. -/
def State.evaluationDue (s : State) (p : Fin 4) : Bool :=
  s.slotIn .gated p && !s.rg.noEval[p] && (s.ahead.counts[p]).isNone

/-- One evaluation of slot `p`, taken whole on a view, with what follows in the envelope unit (R92, R103). -/
def evaluateOn (v : GateView) (s : State) : State := retarget s { s with gates := evaluateSlot v s.gates }

/-- The gating unit's evaluation of slot `p` at a boundary (R92). -/
def gateEvaluation (s : State) (p : Fin 4) : State := if s.evaluationDue p then evaluateOn (s.meterView p) s else s

end Sys2Proof.Machine
end

