-- ==== Sys2Proof/Machine/Regroup.lean ====
section
/-! DEFINITION. The partition unit (chapter 2) and the configuration store: batch entries and their application, the regroup
machine, walls, the switch and what every owner rebuilds at it. -/

namespace Sys2Proof.Machine

/-! ## Entries and images -/

/-- An entry written to the tables of an image (R151, R152). -/
def Image.write (img : Image) : Entry → Image
  | .xpt i v => { img with xpt := put img.xpt i v }
  | .src i r => { img with src := put img.src i r }
  | .bus i r => { img with bus := put img.bus i r }
  | .sec i r => { img with sec := put img.sec i r }
  | .grp i m => { img with grp := put img.grp i m }
  | .wall i o => { img with wall := put img.wall i o }
  | .dev m b => { img with muteCode := m, busCode := b }

/-- The position of an entry: its table and index (R151). -/
def Entry.key : Entry → TableId × Nat
  | .xpt i _ => (.crosspoint, i.val)
  | .src i _ => (.source, i.val)
  | .bus i _ => (.bus, i.val)
  | .sec i _ => (.sect, i.val)
  | .grp i _ => (.group, i.val)
  | .wall i _ => (.wall, i.val)
  | .dev _ _ => (.device, 0)

/-- Entries written in list order (R152). -/
def Image.writeAll (img : Image) (es : List Entry) : Image := es.foldl Image.write img

/-- A section write or a write to a wall override, against the live tables (R24). -/
def Entry.isCause (live : Image) : Entry → Bool
  | .src i r => decide (r.sect ≠ (live.src[i]).sect)
  | .bus i r => decide (r.sect ≠ (live.bus[i]).sect)
  | .wall _ _ => true
  | .xpt _ _ => false
  | .sec _ _ => false
  | .grp _ _ => false
  | .dev _ _ => false

/-! ## Application of a batch that needs no switch (R22, R81, R101, R116, R119, R152) -/

/-- The microphones of slot `p` that are in a list of the record and carry the chair flag, in ascending index: the order in which
one batch removes them (log 18). -/
def chairEntries (s : State) (p : Fin 4) : List (Fin 16) :=
  (s.members p).filter fun m => s.isChair m && ((s.floors[p]).granted m || (s.floors[p]).queued m)

/-- Entries of microphones removed one after another, each with REMOVED (R116). -/
def removeMics (p : Fin 4) (l : List (Fin 16)) (r : FloorRec) : FloorChange :=
  l.foldl (fun c m => let d := FloorRec.removeMic p c.1 m; (d.1, c.2 ++ d.2)) (r, [])

/-- What new configuration does to the floor record of a slot that stays in use (R116, R119). DESIGN CHOICE: where one event both
takes the partition out of CHAIRED and lowers its speaker limit, every entry that the chair flags leave goes with CLEARED, and none
with REVOKED (log 18). -/
def floorAfterWrite (before s : State) (p : Fin 4) : FloorChange :=
  let a := removeMics p (chairEntries s p) s.floors[p]
  let b := if before.mode p = .chaired ∧ s.mode p ≠ .chaired then FloorRec.clearAll p a.1
    else FloorRec.trimNewest p (s.lead p).speakerLimit a.1
  (b.1, a.2 ++ b.2)

/-- The floor records of the slots a test picks, after new configuration (R116, R119). DESIGN CHOICE: where one batch lowers the
speaker limit or changes the mode of several partitions, their REVOKED and CLEARED notices, as those of chair removals, stand in
ascending slot number, whatever the order of the entries in the batch (log 18). -/
def floorsAfterWrite (before : State) (test : Fin 4 → Bool) (s : State) : State :=
  slots.foldl (fun t p =>
    if test p then
      let c := floorAfterWrite before s p
      State.post { t with floors := put t.floors p c.1 } c.2
    else t) s

/-- The gates after a mode change: every entry of a partition whose derived mode changed is CLOSED, its open count 0 (R101). -/
def gatesAfterWrite (before s : State) : State :=
  { s with
    gates := tab fun m => if before.mode (s.micPart m) ≠ s.mode (s.micPart m) then shutGate else s.gates[m]
    ahead := { s.ahead with
      counts := tab fun p => if before.mode p ≠ s.mode p then (s.ahead.counts[p]).map fun _ => 0 else s.ahead.counts[p] } }

/-- Live tables replaced without a switch, with everything that follows in the mute, gating, floor and envelope units
(R22, R59, R81, R101, R116, R119). -/
def placeLive (img : Image) (s : State) : State :=
  let s1 := { s with live := img }
  let s2 := floorsAfterWrite s (isLead s1.rg.map) (gatesAfterWrite s s1)
  settleHolds s s2

/-- One committed batch applied whole (R152), BATCH APPLIED posted where COMMIT closed it, after all that follows (log 18). -/
def applyBatch (p : Port) (b : Batch) (s : State) : State :=
  let s1 := placeLive (s.live.writeAll b.entries) s
  if b.byCommit then s1.postTo p (.batchApplied b.entries.length false) else s1

/-- A port's committed list applied in commit order (R152). -/
def applyCommitted (p : Port) (s : State) : State :=
  let r := s.port p
  r.committed.foldl (fun t b => applyBatch p b t) (s.setPort p { r with committed := [] })

/-! ## Causes (R24 to R28, R31) -/

/-- The buffer whose image the next switch places, while an APPLY's switch is to come. -/
def Regroup.applyFrom (g : Regroup) : Option (Fin 2) := if g.applyDue then g.applyMark else none

/-- The live tables as the pending changes leave them, or the image an APPLY will place (R25, R33). -/
def State.pendingImage (s : State) : Image :=
  match s.rg.applyFrom with
  | some b => (s.scene.bufs[b]).image
  | none => s.rg.changes.foldl (fun img c => img.writeAll c.batch.entries) s.live

/-- The effective wall states of an image with the present sensed states (R19, R25). -/
def State.effectiveWith (s : State) (img : Image) : Vector WallState 3 :=
  tab fun w => effectiveOf img.wall[w] (s.walls[w]).sensed

/-- A bus is affected: its contributing sources differ under the pending map, or an APPLY is being served (R25). -/
def busAffected (g : Regroup) (live : Image) (b : Fin 26) : Bool :=
  g.applyMark.isSome || sources.any fun i =>
    contributes g.map (tab fun x => (live.src[x]).sect) (tab fun x => (live.bus[x]).sect) b i
      != contributes g.pendMap g.pendSrc g.pendBus b i

/-- The pending map, the affected set and the touched set derived again (R25). -/
def derivePending (s : State) : Regroup :=
  let img := s.pendingImage
  let g : Regroup :=
    { s.rg with
      pendMap := mapOf (s.effectiveWith img)
      pendSrc := tab fun i => (img.src[i]).sect
      pendBus := tab fun b => (img.bus[b]).sect }
  let affected : Set26 := tab (busAffected g s.live)
  { g with affected := affected, touched := tab fun b => g.touched[b] || affected[b] }

/-- The condition under which a fade-out ends without a switch (R28). -/
def Regroup.cancels (g : Regroup) : Bool :=
  g.applyMark.isNone && decide (g.pendMap = g.map) && g.changes.isEmpty

/-- FADING_OUT. A cause taken at a boundary (`timed`) reaches the switch at the first boundary after it (R27, R32). -/
def Regroup.fadeOut (g : Regroup) (timed : Bool) : Regroup :=
  { g with state := .fadingOut, fresh := false, pre := false, tested := g.tested || timed, bySwitch := false }

/-- FADING_IN without a switch (R28), the end of the regroup being tested at a later boundary (R31): `timed` for a cause taken
at a boundary, as is one that is taken after that boundary's test. -/
def Regroup.turnBack (g : Regroup) (timed : Bool) : Regroup :=
  { g with state := .fadingIn, affected := same 26 false, fresh := true, pre := g.tested || timed, bySwitch := false }

/-- A regroup cause (R27, R28, R31), `timed` where it is one of a boundary (R18). -/
def regroupCause (timed : Bool) (s : State) : State :=
  let g := derivePending s
  match s.rg.state with
  | .steady => { s with rg := g.fadeOut timed }
  | .fadingOut => if g.cancels then { s with rg := g.turnBack timed } else { s with rg := g }
  | .fadingIn => { s with rg := g.fadeOut timed }

/-! ## Commit (R24, R152) -/

/-- The batch must wait for a switch (R24). -/
def Batch.needsSwitch (live : Image) (b : Batch) : Bool := b.entries.any (Entry.isCause live)

/-- A batch handed on whole, or none where it is refused BUSY (R24, R152). -/
def commitBatch (p : Port) (b : Batch) (s : State) : Option State :=
  if s.rg.applyMark.isSome then none
  else if b.needsSwitch s.live then
    if s.rg.changes.any fun c => decide (c.port = p) then none
    else some (regroupCause false
      { s with rg := { s.rg with changes := s.rg.changes ++ [{ port := p, batch := b }] } })
  else
    let r := s.port p
    some (s.setPort p { r with committed := r.committed ++ [b] })

/-! ## Walls (R18, R19) -/

/-- The WALL notice of a wall as it stands. -/
def State.wallNotice (s : State) (w : Fin 3) : Notice :=
  .wall w (s.walls[w]).sensed s.live.wall[w] (s.walls[w]).effective

/-- The sensed state takes a level at a boundary: the notice, and the cause where the effective state changes (R18, R19). -/
def senseChange (w : Fin 3) (level : WallState) (s : State) : State :=
  let r := s.walls[w]
  let eff := effectiveOf s.live.wall[w] level
  let s1 := { s with walls := put s.walls w { sensed := level, count := 0, effective := eff } }
  let s2 := s1.post [s1.wallNotice w]
  if eff = r.effective then s2 else regroupCause true s2

/-- A wall's count replaced. -/
def State.setWallCount (s : State) (w : Fin 3) (n : Nat) : State :=
  { s with walls := put s.walls w { s.walls[w] with count := n } }

/-- One sample of a wall's sense line at a boundary (R18). -/
def sampleWall (sense : Sense) (s : State) (w : Fin 3) : State :=
  let r := s.walls[w]
  let level := levelWall sense[w]
  if level = r.sensed then s.setWallCount w 0
  else if r.count < Config.debounceTop then s.setWallCount w (r.count + 1)
  else senseChange w level s

/-- The other wall state. -/
def WallState.flip : WallState → WallState
  | .closed => .opened
  | .opened => .closed

/-- WALL_SENSE_CHANGE: at the boundary about to be taken the debounce count expires (R18; log 1). -/
def wallSenseChange (w : Fin 3) (s : State) : State :=
  let r := s.walls[w]
  if r.count = Config.debounceTop then senseChange w r.sensed.flip s else s

/-! ## The switch (R29, R30) -/

/-- The microphones of slot `p` under `s` in which the record of a partition lies (R30). -/
def partitionUnchanged (old s : State) (p : Fin 4) : Bool :=
  isLead old.rg.map p && decide (old.members p = s.members p) && decide (old.mode p = s.mode p)

/-- A partition of the new map that is changed (R30). -/
def partitionChanged (old s : State) (p : Fin 4) : Bool := isLead s.rg.map p && !partitionUnchanged old s p

/-- The queue entries and grants held under the old map whose sources now lie in slot `p`, from old slot `q` (R120). -/
def gatherFrom (old s : State) (p q : Fin 4) : FloorRec :=
  { queue := (old.floors[q]).queue.filter fun e => decide (s.micPart e.mic = p)
    grants := (old.floors[q]).grants.filter fun e => decide (s.micPart e.mic = p) }

/-- A record without the entries of chair microphones (R120). -/
def withoutChairs (s : State) (r : FloorRec) : FloorRec :=
  { queue := r.queue.filter fun e => !s.isChair e.mic, grants := r.grants.filter fun e => !s.isChair e.mic }

/-- A record of a slot holds an entry. -/
def FloorRec.holdsAny (r : FloorRec) : Bool := !r.queue.isEmpty || !r.grants.isEmpty

/-- Both lists of several records, one after another. -/
def joinRecords (rs : List FloorRec) : FloorRec := { queue := rs.flatMap (·.queue), grants := rs.flatMap (·.grants) }

/-- Queue order of a merge: age, largest first, ties to the lower source index (R121). -/
def olderEntry (x y : QueueEntry) : Bool := if x.age ≠ y.age then decide (y.age < x.age) else decide (x.mic ≤ y.mic)

/-- Grant order of a merge: elapsed count, largest first, ties to the lower source index (R121). -/
def olderGrant (x y : GrantEntry) : Bool :=
  if x.elapsed ≠ y.elapsed then decide (y.elapsed < x.elapsed) else decide (x.mic ≤ y.mic)

/-- Gathered entries in the order of R121: that of the one old record, or by count. -/
def mergeRecords (rs : List FloorRec) : FloorRec :=
  let j := joinRecords rs
  if (rs.filter FloorRec.holdsAny).length ≤ 1 then j
  else
    { queue := j.queue.insertionSort fun x y => olderEntry x y = true
      grants := j.grants.insertionSort fun x y => olderGrant x y = true }

/-- Sources of a list in ascending index (R120). -/
def ascending (l : List (Fin 16)) : List (Fin 16) := mics.filter fun m => decide (m ∈ l)

/-- The floor record of a changed partition, rebuilt (R120, R121). `discards`: at the switch of an APPLY its mode differs
from that of the old partition holding its lead section. -/
def rebuildFloor (old s : State) (discards : Bool) (p : Fin 4) : FloorChange :=
  let parts := slots.map (gatherFrom old s p)
  let all := joinRecords parts
  let kept := parts.map (withoutChairs s)
  let chairs := ascending (((all.grants.map (·.mic)) ++ all.queue.map (·.mic)).filter s.isChair)
  let removed := chairs.map fun m => Notice.floor p m .removed
  let rest := joinRecords kept
  if s.mode p ≠ .chaired ∨ discards = true then
    (emptyFloor, removed
      ++ (ascending (rest.grants.map (·.mic))).map (fun m => Notice.floor p m .cleared)
      ++ (ascending (rest.queue.map (·.mic))).map fun m => Notice.floor p m .cleared)
  else
    let merged := mergeRecords kept
    let limit := (s.lead p).speakerLimit
    ({ merged with grants := merged.grants.take limit },
      removed ++ (merged.grants.drop limit).map fun g => Notice.floor p g.mic .revoked)

/-- The floor record of each slot after a switch (R120): rebuilt, kept with the writes of the switch acting on it (R116), or
emptied. -/
def switchFloor (old s : State) (placed : Bool) (p : Fin 4) : FloorChange :=
  if partitionChanged old s p then
    rebuildFloor old s (placed && decide (old.mode (old.rg.map[p]) ≠ s.mode p)) p
  else if isLead s.rg.map p then floorAfterWrite s s p
  else (emptyFloor, [])

/-- The gates after a switch: CLOSED in every changed partition (R102). -/
def switchGates (old s : State) : Vector Gate 16 :=
  tab fun m => if partitionChanged old s (s.micPart m) then shutGate else s.gates[m]

/-- The evaluations of unchanged partitions stand with their counts (R102). -/
def switchCounts (old s : State) : Vector (Option Nat) 4 :=
  tab fun p => if isLead s.rg.map p && !partitionChanged old s p then s.ahead.counts[p] else none

/-- The quiet flags after a switch: kept in unchanged partitions alone (R84). -/
def switchQuiet (old s : State) : Vector Bool 4 :=
  tab fun p => s.mute.quiet[p] && isLead s.rg.map p && !partitionChanged old s p

/-- The per-partition records rebuilt by their owners, and what follows in the mute and envelope units (R30, R66, R81). -/
def rebuildRecords (old : State) (placed : Bool) (s : State) : State :=
  let changes : List FloorChange := slots.map (switchFloor old s placed)
  let s1 : State :=
    { s with
      gates := switchGates old s
      ahead := { s.ahead with counts := switchCounts old s }
      floors := tab fun p => (switchFloor old s placed p).1
      mute := { s.mute with quiet := switchQuiet old s } }
  settleHolds old (s1.post (changes.flatMap Prod.snd))

/-- The BATCH notices of the pending changes, each to its port (R29, R152). -/
def batchNotices (l : List PendingBatch) (s : State) : State :=
  l.foldl (fun t c => t.postTo c.port (.batchApplied c.batch.entries.length true)) s

/-- The walls after the switch wrote its overrides, with one WALL notice for each effective change (R19, R29), in ascending wall
number (log 18). -/
def switchWalls (s : State) : State :=
  let walls : Vector WallRec 3 :=
    tab fun w => { s.walls[w] with effective := effectiveOf s.live.wall[w] (s.walls[w]).sensed }
  let s1 := { s with walls := walls }
  s1.post (((List.finRange 3).filter fun w => decide ((s.walls[w]).effective ≠ (walls[w]).effective)).map s1.wallNotice)

/-- The buffer that an APPLY locked is freed (R169). -/
def freeApplied (from? : Option (Fin 2)) (s : State) : State :=
  match from? with
  | some b => { s with scene := { s.scene with bufs := put s.scene.bufs b { s.scene.bufs[b] with lock := .free } } }
  | none => s

/-- The regroup machine after a switch (R29), with the slots that it changed (R102). -/
def Regroup.afterSwitch (g : Regroup) (changed : Vector Bool 4) : Regroup :=
  { g with
    state := .fadingIn
    map := g.pendMap
    changes := []
    affected := same 26 false
    applyDue := false
    switched := true
    fresh := true
    pre := true
    tested := true
    bySwitch := true
    noEval := changed }

/-- The switch itself, the committed lists being applied (R29). -/
def switchNow (s : State) : State :=
  let s1 := { s with live := s.pendingImage }
  let s2 := switchWalls (batchNotices s.rg.changes s1)
  let s3 := { s2 with rg := s2.rg.afterSwitch (same 4 false) }
  let changed : Vector Bool 4 := tab (partitionChanged s s3)
  let s4 := { s2 with rg := s2.rg.afterSwitch changed }
  rebuildRecords s s.rg.applyFrom.isSome (freeApplied s.rg.applyFrom s4)

/-- Every bus of the affected set stands at 0 in FADING_OUT (R28). -/
def Regroup.switchDue (g : Regroup) : Bool :=
  decide (g.state = .fadingOut) && (List.finRange 26).all fun b => !g.affected[b] || decide (g.r[b] = 0)

/-- The other slots' pieces of floor work, where one was taken ahead of the boundary: a switch there finds every entry advanced
once, or none (R120; log 1). -/
def levelPieces (s : State) : State := if slots.any fun p => s.ahead.floors[p] then takePieces s else s

/-- The switch test of a boundary (R28, R29), taken once (R32): the committed lists due there are applied first. -/
def regroupSwitch (s : State) : State :=
  if s.rg.switchDue && !s.rg.tested then
    let s1 := applyCommitted .b (applyCommitted .a (levelPieces s))
    switchNow s1
  else s

/-! ## The end of a regroup (R31) -/

/-- Every bus of the touched set stands at 32768 in FADING_IN (R31). -/
def Regroup.risen (g : Regroup) : Bool :=
  decide (g.state = .fadingIn) && (List.finRange 26).all fun b => !g.touched[b] || decide (g.r[b] = Config.unity)

/-- The boundary concerned comes after the one at which FADING_IN was entered (R31). -/
def Regroup.laterBoundary (g : Regroup) : Bool := !(g.fresh && g.pre)

/-- STEADY again (R23, R31), the boundary's test being taken (R32). -/
def Regroup.settle (g : Regroup) : Regroup :=
  { g with
    state := .steady
    pendMap := g.map
    affected := same 26 false
    touched := same 26 false
    applyMark := none
    switched := false
    fresh := false
    pre := false
    tested := true
    bySwitch := false }

/-- The notices that end a regroup (R31). -/
def Regroup.doneNotices (g : Regroup) : List Notice :=
  .regroupDone g.map g.switched
    :: match g.applyMark with
      | some b => [.scene .applied (some b) none]
      | none => []

/-- The completion test of a boundary (R31). -/
def regroupDone (s : State) : State :=
  if s.rg.risen && s.rg.laterBoundary then
    State.post { s with rg := s.rg.settle } s.rg.doneNotices
  else s

/-- A boundary begins: a FADING_IN that was not entered at it stops being fresh (R26, R31). -/
def regroupBoundary (s : State) : State := { s with rg := { s.rg with fresh := s.rg.fresh && s.rg.pre } }

/-- The bus ramp code is read for the frame that follows (R26). -/
def readBusStep (s : State) : State := { s with rg := { s.rg with step := rampStep s.live.busCode } }

/-- A boundary ends: the marks that concern it alone are gone (R31, R32, R102; log 1). -/
def regroupBoundaryEnd (s : State) : State :=
  { s with rg := { s.rg with pre := false, tested := false, noEval := same 4 false }, ahead := noneAhead }

end Sys2Proof.Machine
end

