-- ==== Sys2Proof/Machine/Scenes.lean ====
section
/-! DEFINITION. The scene unit (chapter 10): page judgment, buffers, the store engine's operations, CAPTURE and APPLY. -/

namespace Sys2Proof.Machine

/-! ## Pages (R161, R162) -/

/-- The fields of a scene image in the order of R162. The excluded crosspoints are no fields of it (R46). -/
def imageFields (img : Image) : List Nat :=
  (((List.finRange 676).filter fun i => !excluded i).map fun i => img.xpt[i])
    ++ (sources.flatMap fun i => sourceFields i img.src[i])
    ++ (sources.flatMap fun b => busFields img.bus[b])
    ++ (slots.flatMap fun q => sectionFields img.sec[q])
    ++ ((List.finRange 8).map fun g => setBits img.grp[g])
    ++ ((List.finRange 3).map fun w => overrideCode img.wall[w])
    ++ [img.muteCode, img.busCode]

/-- The fields of a page's contents in the order of R162. -/
def Contents.fields (c : Contents) : List Nat :=
  labelFields c.label ++ imageFields c.image ++ c.powerOn.toList.flatMap powerOnFields

/-- The check over a page's contents (R161, R162; the layout of the bytes is free, log 13). -/
def Contents.check (c : Contents) : BitVec 16 := crc16 (Config.pageLayout c.fields)

/-- The check of a page matches its contents (R162). -/
def Page.matched (g : Page) : Bool := decide (g.check = g.contents.check)

/-- A page is judged valid: its valid flag is 01h and its check matches (R162). -/
def Page.valid (g : Page) : Bool := decide (g.flag = 1) && g.matched

/-- The mark and the valid flag made invalid, as at the start of an erase (R167, R168). -/
def Page.invalidate (g : Page) : Page := { g with mark := false, flag := 0 }

/-- A page replaced. -/
def State.setPage (s : State) (k : Fin 32) (g : Page) : State :=
  { s with scene := { s.scene with pages := put s.scene.pages k g } }

/-- A buffer replaced. -/
def State.setBuf (s : State) (b : Fin 2) (x : Buffer) : State :=
  { s with scene := { s.scene with bufs := put s.scene.bufs b x } }

/-- The store engine's job replaced; none is IDLE. -/
def State.setJob (s : State) (j : Option Job) : State := { s with scene := { s.scene with job := j } }

/-- A page whose programming failed or was broken off: invalid (R167, R168), its label and check words values that the spec does
not state, its contents those from before the operation (log 14, log 32). DESIGN CHOICE: where a start-up event broke it off the
valid flag is 0, of the two forms that R168 leaves (log 32). -/
def brokenPage (count : Nat) (g : Page) (free : Nat) : Page :=
  { g.invalidate with
    count := count
    label := tab fun i => Config.freeWord (free + i.val)
    check := (Config.freeWord (free + 4)).setWidth 16 }

/-- How many free values a broken page takes. -/
def brokenWords : Nat := 5

/-- A page left broken, the free values used up. -/
def breakPage (k : Fin 32) (count : Nat) (s : State) : State :=
  { s.setPage k (brokenPage count s.scene.pages[k] s.freeCount) with freeCount := s.freeCount + brokenWords }

/-- The store count as the engine reads it: a field above 999999 is read as 0 (R167). -/
def keptCount (g : Page) : Nat := if Config.storeCountTop < g.count then 0 else g.count

/-! ## Requests (R164 to R169) -/

/-- The buffer is held by an operation. -/
def State.locked (s : State) (b : Fin 2) : Bool := decide ((s.scene.bufs[b]).lock ≠ .free)

/-- The store engine is BUSY. -/
def State.engineBusy (s : State) : Bool := s.scene.job.isSome

/-- A buffer locked. -/
def lockBuf (b : Fin 2) (l : Lock) (s : State) : State := s.setBuf b { s.scene.bufs[b] with lock := l }

/-- The engine started on a page and a buffer. -/
def startJob (op : EngineOp) (k : Fin 32) (b : Option (Fin 2)) (record : Option PowerOn) (s : State) : State :=
  s.setJob (some { op := op, page := k, buffer := b, erased := false, kept := keptCount s.scene.pages[k],
                   powerOn := record })

/-- A taken request. -/
def State.okReply (s : State) : Reply := { state := s, status := .ok }

/-- LOAD (R164, R165). -/
def loadPage (k : Fin 32) (b : Fin 2) (s : State) : Reply :=
  if s.locked b then s.refuse .bufferBusy
  else if s.engineBusy then s.refuse .busy
  else if !(s.scene.pages[k]).mark then s.refuse .pageInvalid
  else (startJob .load k (some b) none (lockBuf b .engine s)).okReply

/-- CAPTURE (R164, R166). -/
def captureBuf (b : Fin 2) (s : State) : Reply :=
  if s.locked b then s.refuse .bufferBusy else (lockBuf b .capture s).okReply

/-- The power-on record that a STORE of a buffer to page 0 writes (R167). -/
def storedPowerOn (s : State) (b : Fin 2) : PowerOn :=
  let buf := s.scene.bufs[b]
  let g := s.scene.pages[0]
  match (if buf.source = some 0 then buf.powerOn else if g.mark then g.contents.powerOn else none) with
  | some p => p
  | none => factoryPowerOn

/-- STORE (R164, R167). -/
def storeBuf (b : Fin 2) (k : Fin 32) (s : State) : Reply :=
  if s.locked b then s.refuse .bufferBusy
  else if (s.scene.bufs[b]).status = .empty then s.refuse .emptyBuffer
  else if s.engineBusy then s.refuse .busy
  else
    (startJob .store k (some b) (if k = 0 then some (storedPowerOn s b) else none) (lockBuf b .engine s)).okReply

/-- AMEND (R164, R167). -/
def amendPage (b : Fin 2) (k : Fin 32) (s : State) : Reply :=
  if s.locked b then s.refuse .bufferBusy
  else if (s.scene.bufs[b]).status ≠ .modified then s.refuse .emptyBuffer
  else if s.engineBusy then s.refuse .busy
  else if !(s.scene.pages[k]).mark then s.refuse .pageInvalid
  else (startJob .amend k (some b) none (lockBuf b .engine s)).okReply

/-- ERASE (R164, R168): its erase begins with the operation. -/
def erasePage (k : Fin 32) (s : State) : Reply :=
  if s.engineBusy then s.refuse .busy
  else
    let s1 := startJob .erase k none none s
    (s1.setPage k (s.scene.pages[k]).invalidate).okReply

/-- APPLY (R33, R164, R169). -/
def applyBuf (b : Fin 2) (s : State) : Reply :=
  if s.locked b then s.refuse .bufferBusy
  else if (s.scene.bufs[b]).status = .empty then s.refuse .emptyBuffer
  else if s.rg.state ≠ .steady then s.refuse .busy
  else
    let s1 := lockBuf b .apply s
    (regroupCause false { s1 with rg := { s1.rg with applyMark := some b, applyDue := true } }).okReply

/-! ## Completions -/

/-- A page operation ends: its buffer's lock released, the engine IDLE, the SCENE notice posted (R164). -/
def endJob (j : Job) (event : SceneEvent) (s : State) : State :=
  let s1 := match j.buffer with
    | some b => lockBuf b .free s
    | none => s
  (s1.setJob none).post [.scene event j.buffer (some j.page)]

/-- The buffer that a LOAD leaves when the check matches (R165). -/
def loadedBuf (k : Fin 32) (g : Page) (x : Buffer) : Buffer :=
  { x with
    status := .loaded
    source := some k
    powerOn := if k = 0 then g.contents.powerOn else none
    dirty := []
    label := g.contents.label
    image := g.contents.image }

/-- LOAD_COMPLETE (R165): the check matches when the read returned the contents and they match the page's check. -/
def loadComplete (readOk : Bool) (s : State) : State :=
  match s.scene.job with
  | some j =>
    match j.op, j.buffer with
    | .load, some b =>
      let g := s.scene.pages[j.page]
      if readOk && g.matched then endJob j .loaded (s.setBuf b (loadedBuf j.page g s.scene.bufs[b]))
      else
        endJob j .checkFailed ((s.setPage j.page { g with mark := false }).setBuf b
          { s.scene.bufs[b] with status := .empty, source := none, powerOn := none, dirty := [] })
    | _, _ => s
  | none => s

/-- ERASE_STAGE (R167): the mark and the valid flag become invalid, for an AMEND after its read passed the check. -/
def eraseStage (s : State) : State :=
  match s.scene.job with
  | some j =>
    let g := s.scene.pages[j.page]
    if decide (j.op = .store) || (decide (j.op = .amend) && g.matched) then
      (s.setPage j.page g.invalidate).setJob (some { j with erased := true })
    else s
  | none => s

/-- A page programmed with new contents and verified without difference (R167). -/
def programmed (kept : Nat) (c : Contents) : Page :=
  { mark := true, flag := 1, label := c.label, count := min (kept + 1) Config.storeCountTop, check := c.check,
    contents := c }

/-- The outcome of program and verify (R167). -/
def programPage (j : Job) (event : SceneEvent) (c : Contents) (verified : Bool) (s : State) : State :=
  if verified then endJob j event (s.setPage j.page (programmed j.kept c))
  else endJob j .failed (breakPage j.page j.kept s)

/-- STORE_COMPLETE (R167). -/
def storeComplete (verified : Bool) (s : State) : State :=
  match s.scene.job with
  | some j =>
    match j.op, j.buffer with
    | .store, some b =>
      let x := s.scene.bufs[b]
      programPage j .stored { label := x.label, image := x.image, powerOn := j.powerOn } verified s
    | _, _ => s
  | none => s

/-- The value of one key taken from another image (R167). -/
def Image.copyKey (src dst : Image) (key : TableId × Nat) : Image :=
  match key.1 with
  | .crosspoint => match index? 676 key.2 with | some i => dst.write (.xpt i src.xpt[i]) | none => dst
  | .source => match index? 26 key.2 with | some i => dst.write (.src i src.src[i]) | none => dst
  | .bus => match index? 26 key.2 with | some i => dst.write (.bus i src.bus[i]) | none => dst
  | .sect => match index? 4 key.2 with | some i => dst.write (.sec i src.sec[i]) | none => dst
  | .group => match index? 8 key.2 with | some i => dst.write (.grp i src.grp[i]) | none => dst
  | .wall => match index? 3 key.2 with | some i => dst.write (.wall i src.wall[i]) | none => dst
  | .device => dst.write (.dev src.muteCode src.busCode)
  | _ => dst

/-- The contents that an AMEND writes (R167). -/
def amendedContents (k : Fin 32) (x : Buffer) (c : Contents) : Contents :=
  let device := x.dirty.any fun key => decide (key = (TableId.device, 0))
  { label := if device then x.label else c.label
    image := x.dirty.foldl (Image.copyKey x.image) c.image
    powerOn := if device && decide (k = 0) && x.powerOn.isSome then x.powerOn else c.powerOn }

/-- AMEND_COMPLETE (R167): a failed first read ends it before the erase stage. -/
def amendComplete (readOk verified : Bool) (s : State) : State :=
  match s.scene.job with
  | some j =>
    match j.op, j.buffer with
    | .amend, some b =>
      let g := s.scene.pages[j.page]
      if j.erased || (readOk && g.matched) then
        programPage j .amended (amendedContents j.page s.scene.bufs[b] g.contents) verified s
      else endJob j .checkFailed (s.setPage j.page { g with mark := false })
    | _, _ => s
  | none => s

/-- An erased page: the contents and the label cleared, the store count kept (R168). -/
def erasedPage (g : Page) : Page :=
  { g.invalidate with label := noLabel, contents := { label := noLabel, image := factoryImage, powerOn := none } }

/-- ERASE_COMPLETE (R168). -/
def eraseComplete (s : State) : State :=
  match s.scene.job with
  | some j =>
    match j.op with
    | .erase => endJob j .erased (s.setPage j.page (erasedPage s.scene.pages[j.page]))
    | _ => s
  | none => s

/-- CAPTURE_COPY (R166). -/
def captureCopy (b : Fin 2) (s : State) : State :=
  if (s.scene.bufs[b]).lock = .capture then
    (s.setBuf b { status := .captured, source := none, powerOn := none, dirty := [], lock := .free, label := noLabel,
                  image := s.live }).post [.scene .captured (some b) none]
  else s

end Sys2Proof.Machine
end

