-- ==== Sys2Proof/Machine/StartUp.lean ====
section
/-! DEFINITION. Start-up and the reset pin (R170). -/

namespace Sys2Proof.Machine

/-- A start-up event ends the page operation in flight: a STORE, an ERASE, or an AMEND whose erase stage has begun leaves its
page broken (R168). -/
def breakJob (s : State) : State :=
  match s.scene.job with
  | some j =>
    match j.op with
    | .load => s
    | .amend => if j.erased then breakPage j.page (s.scene.pages[j.page]).count s else s
    | .store => breakPage j.page (s.scene.pages[j.page]).count s
    | .erase => breakPage j.page (s.scene.pages[j.page]).count s
  | none => s

/-- Every page's mark set by judging it (R162). -/
def judgePages (pages : Vector Page 32) : Vector Page 32 := tab fun k => { pages[k] with mark := (pages[k]).valid }

/-- The event's result, page 0 being used or not (R170). -/
def startFrom (cause : StartCause) (pins : Pins) (pages : Vector Page 32) (queue : List Instr) (free : Nat) : State :=
  let g := pages[0]
  if g.mark then
    startState queue pins g.contents.image (g.contents.powerOn.getD factoryPowerOn) pages free (.start cause false)
  else startState queue pins factoryImage factoryPowerOn pages free (.start cause true)

/-- The start-up event, taken whole (R170). -/
def startUp (cause : StartCause) (pins : Pins) (s : State) : State :=
  let s1 := breakJob s
  startFrom cause pins (judgePages s1.scene.pages) s.pending s1.freeCount

/-- Cause of a START_UP row. -/
def causeOf : PinCause → StartCause
  | .power => .power
  | .pin => .pin

/-- RESET_N driven low (R170): the part is held, no link frame is sent, and the TDM and line outputs carry zeros. -/
def holdReset (s : State) : State :=
  { s with
    held := true
    down := same 16 none
    audio := { s.audio with tdmOut := same 8 0, lineOut := same 2 0 } }

end Sys2Proof.Machine
end

