-- ==== Sys2Proof/Machine/Requests.lean ====
section
/-! DEFINITION. The request units (chapter 9): classes, the checks of R144, and what each request does. -/

namespace Sys2Proof.Machine

/-! ## Classes (R144) -/

/-- Request classes (R144). -/
inductive ReqClass where
  | read | config | conference | system | any
  deriving DecidableEq, Repr

/-- A class is allowed by an access profile (R144). -/
def allows : Profile → ReqClass → Bool
  | _, .read => true
  | _, .any => true
  | .full, _ => true
  | .config, .config => true
  | .conference, .conference => true
  | _, _ => false

/-- The class of STORE, AMEND and ERASE by their page operand (R144). -/
def pageClass (page : Nat) : ReqClass := if page = 0 then .system else .config

/-- The class of a request (R144). -/
def Request.reqClass : Request → ReqClass
  | .select _ _ _ => .read
  | .showEntry => .read
  | .notices => .read
  | .flags _ _ => .read
  | .enter _ => .config
  | .mask _ => .config
  | .beginBatch => .config
  | .commit => .config
  | .abandon => .config
  | .wall _ _ => .config
  | .link _ _ => .config
  | .load _ _ => .config
  | .capture _ => .config
  | .apply _ => .config
  | .store _ k => pageClass k
  | .amend _ k => pageClass k
  | .erase k => pageClass k
  | .hold _ => .conference
  | .free _ => .conference
  | .freeAll => .conference
  | .gmute _ => .conference
  | .gunmute _ => .conference
  | .quiet _ _ => .conference
  | .dismiss _ => .conference
  | .ask _ => .conference
  | .withdraw _ => .conference
  | .release _ => .conference
  | .grant _ => .conference
  | .grantNext _ => .conference
  | .revoke _ => .conference
  | .clearQ _ => .conference
  | .clear => .system
  | .lower _ => .any

/-- The class of a request that is known by its name and operands only (R144 step 2). -/
def wireClass (name : ReqName) (ops : List Nat) : ReqClass :=
  match name with
  | .select => .read
  | .showEntry => .read
  | .notices => .read
  | .flags => .read
  | .store => pageClass (ops.getD 1 1)
  | .amend => pageClass (ops.getD 1 1)
  | .erase => pageClass (ops.getD 0 1)
  | .enter => .config
  | .mask => .config
  | .beginBatch => .config
  | .commit => .config
  | .abandon => .config
  | .wall => .config
  | .link => .config
  | .load => .config
  | .capture => .config
  | .apply => .config
  | .clear => .system
  | .lower => .any
  | .hold => .conference
  | .free => .conference
  | .freeAll => .conference
  | .gmute => .conference
  | .gunmute => .conference
  | .quiet => .conference
  | .dismiss => .conference
  | .ask => .conference
  | .withdraw => .conference
  | .release => .conference
  | .grant => .conference
  | .grantNext => .conference
  | .revoke => .conference
  | .clearQ => .conference

/-! ## Serving a request (R143, R144, R150, R153, R155) -/

/-- What every request received on a port does, taken or refused: the batch's idle count back to 0, the keep-set used up, and
on Port A the follow entry cleared (R150, R153, R155). -/
def received (p : Port) (s : State) : State :=
  let r := s.port p
  let s1 := s.setPort p { r with batch := r.batch.map fun b => { b with idle := 0 }, keep := none }
  match p with
  | .a => { s1 with lineA := { s1.lineA with followEntry := none, followReady := false } }
  | .b => s1

/-- The data of an answer: that of the reply; for a refusal the entry concerned, or else the cursor (R155, R157; log 9). -/
def answerData (c : Cursor) (r : Reply) : List Nat := if r.status.taken || !r.data.isEmpty then r.data else c.data

/-- A request served: its class checked, its body taken with the keep-set it found, and its answer given. -/
def serve (p : Port) (code : Byte) (cls : ReqClass) (body : Option Set26 → State → Reply) (s : State) : State :=
  let r := if allows (s.port p).profile cls then body (s.port p).keep (received p s) else (received p s).refuse .access
  respond p code r.status (answerData (s.port p).cursor r) r.state

/-! ## Cursor requests (R146, R147) -/

/-- The cursor that a SELECT names; none is BAD_OPERAND (R146). -/
def cursorOf (t v k : Nat) : Option Cursor :=
  match tableOf t, viewOf v with
  | some table, some view =>
    if k < entryCount table && (!isStatus table || decide (view = .live)) then
      some { table := table, view := view, index := k }
    else none
  | _, _ => none

/-- SELECT (R146). -/
def doSelect (p : Port) (t v k : Nat) (s : State) : Reply :=
  match cursorOf t v k with
  | some c => (s.setPort p { s.port p with cursor := c }).okReply
  | none => s.refuse .badOperand

/-- A taken SHOW makes its entry the follow entry while FOLLOW is On (R155). -/
def followShown (p : Port) (c : Cursor) (content : Option (List Nat)) (s : State) : State :=
  match p with
  | .a =>
    if s.lineA.follow then { s with lineA := { s.lineA with followEntry := some { cursor := c, sent := content } } }
    else s
  | .b => s

/-- SHOW (R147). -/
def doShow (p : Port) (s : State) : Reply :=
  let c := (s.port p).cursor
  let content := s.entryAt c
  { state := followShown p c content (s.advance p)
    status := if content.isSome then .ok else .empty
    data := content.getD [] }

/-! ## ENTER (R148 to R151, R163) -/

/-- The value pending for a group in the port's own open batch (R150). -/
def pendingGroup (b : Option OpenBatch) (g : Fin 8) : Option Set26 :=
  match b with
  | some ob => ob.entries.findSome? fun e => match e with | .grp i m => if i = g then some m else none | _ => none
  | none => none

/-- The old membership of a group entry at the moment an ENTER is taken (R150). -/
def State.oldMembership (s : State) (p : Port) (v : View) (g : Fin 8) : Set26 :=
  match v with
  | .live => (pendingGroup (s.port p).batch g).getD s.live.grp[g]
  | .sb b => (s.scene.bufs[b]).image.grp[g]

/-- An entry as the keep-set leaves it (R150). -/
def mergeKeep (p : Port) (keep : Option Set26) (v : View) (e : Entry) (s : State) : Entry :=
  match keep, e with
  | some k, .grp g m => .grp g (tab fun i => if k[i] then (s.oldMembership p v g)[i] else m[i])
  | _, _ => e

/-- A batch list with an entry joined, or none where it is full (R151). -/
def joinEntries (es : List Entry) (e : Entry) : Option (List Entry) :=
  if es.any fun x => decide (x.key = e.key) then some (es.map fun x => if x.key = e.key then e else x)
  else if es.length < Config.batchCap then some (es ++ [e])
  else none

/-- An entry to a LIVE configuration table, by ENTER or WALL: refused, joined to the open batch, or committed as a batch of
one (R33, R148, R151, R152). -/
def enterLive (p : Port) (e : Entry) (s : State) : Except Status State :=
  if s.rg.applyMark.isSome then .error .busy
  else match (s.port p).batch with
    | some ob =>
      match joinEntries ob.entries e with
      | some es => .ok (s.setPort p { s.port p with batch := some { ob with entries := es } })
      | none => .error .batchFull
    | none =>
      match commitBatch p { entries := [e], byCommit := false } s with
      | some s1 => .ok s1
      | none => .error .busy

/-- A buffer after an ENTER wrote it: its key dirty, its status MODIFIED (R163). -/
def Buffer.touch (x : Buffer) (key : TableId × Nat) : Buffer :=
  { x with dirty := (if key ∈ x.dirty then x.dirty else x.dirty ++ [key]), status := .modified }

/-- An ENTER to a buffer view (R163): the write `f`, its key, and whether the position is excluded. -/
def enterBuffer (p : Port) (b : Fin 2) (key : TableId × Nat) (skip : Bool) (done : Status) (f : Buffer → Buffer)
    (s : State) : Reply :=
  let x := s.scene.bufs[b]
  if s.locked b then s.refuse .bufferBusy
  else if x.status = .empty then s.refuse .emptyBuffer
  else if skip then (s.advance p).refuse .excluded
  else { state := (s.setBuf b ((f x).touch key)).advance p, status := done }

/-- The clip counter of a meters entry cleared (R51). -/
def clearClip (k : Nat) (s : State) : State :=
  { s with mix := { s.mix with
      srcClip := tab fun i => if i.val = k then 0 else s.mix.srcClip[i]
      busClip := tab fun b => if 26 + b.val = k then 0 else s.mix.busClip[b] } }

/-- An entry is an excluded crosspoint (R46). -/
def Entry.skips : Entry → Bool
  | .xpt i _ => excluded i
  | _ => false

/-- ENTER of a configuration entry in the view at the cursor (R148, R163). An excluded LIVE crosspoint is EXCLUDED under the apply
mark too (log 35). -/
def enterEntry (p : Port) (v : View) (e : Entry) (done : Status) (s : State) : Reply :=
  match v with
  | .live =>
    if e.skips then (s.advance p).refuse .excluded
    else match enterLive p e s with
      | .ok s1 => { state := s1.advance p, status := done }
      | .error st => s.refuse st
  | .sb b => enterBuffer p b e.key e.skips done (fun x => { x with image := x.image.write e }) s

/-- A buffer's device entry written (R163). -/
def writeDevice (m c : Nat) (record : Option PowerOn) (label : Label) (x : Buffer) : Buffer :=
  { x with
    image := x.image.write (.dev m c)
    label := label
    powerOn := match record with | some r => some r | none => x.powerOn }

/-- ENTER (R148). -/
def doEnter (p : Port) (ops : List Nat) (keep : Option Set26) (s : State) : Reply :=
  let c := (s.port p).cursor
  match readForm s c ops with
  | none => s.refuse .badOperand
  | some (val, clamped) =>
    let done : Status := if clamped then .clamped else .ok
    match val with
    | .readOnly => (s.advance p).refuse .readOnly
    | .clip n =>
      if n = 0 then ((clearClip c.index s).advance p).okReply else (s.advance p).refuse .readOnly
    | .device m b record label =>
      match c.view with
      | .live => s.refuse .badOperand
      | .sb x => enterBuffer p x (.device, 0) false done (writeDevice m b record label) s
    | .entry e => enterEntry p c.view (mergeKeep p keep c.view e s) done s

/-! ## Batches, keep-set, profile (R145, R150 to R152) -/

/-- MASK (R150). -/
def doMask (p : Port) (n : Nat) (s : State) : Reply :=
  match sourceSet n with
  | some k => (s.setPort p { s.port p with keep := some k }).okReply
  | none => s.refuse .badOperand

/-- BEGIN (R151). -/
def doBegin (p : Port) (s : State) : Reply :=
  if (s.port p).batch.isSome then s.refuse .busy
  else (s.setPort p { s.port p with batch := some { entries := [], idle := 0 } }).okReply

/-- COMMIT (R24, R33, R151, R152). -/
def doCommit (p : Port) (s : State) : Reply :=
  match (s.port p).batch with
  | none => s.refuse .noBatch
  | some ob =>
    match commitBatch p { entries := ob.entries, byCommit := true } (s.setPort p { s.port p with batch := none }) with
    | some s1 => s1.okReply
    | none => s.refuse .busy

/-- ABANDON (R151). -/
def doAbandon (p : Port) (s : State) : Reply :=
  if (s.port p).batch.isSome then (s.setPort p { s.port p with batch := none }).okReply else s.refuse .noBatch

/-- WALL (R19, R148). A refusal by the state of the walls' entries carries the wall's entry; BAD_OPERAND carries the cursor, as
ACCESS does (log 9). -/
def doWall (p : Port) (w : Nat) (o : Override) (s : State) : Reply :=
  match index? 3 w with
  | none => s.refuse .badOperand
  | some i =>
    match enterLive p (.wall i o) s with
    | .ok s1 => s1.okReply
    | .error st => { state := s, status := st, data := [tableCode .wall, w] }

/-- A profile allows no class that another does not (R145). -/
def lowerAllowed (present named : Profile) : Bool :=
  [ReqClass.read, .config, .conference, .system].all fun c => !allows named c || allows present c

/-- LOWER (R145). -/
def doLower (p : Port) (named : Profile) (s : State) : Reply :=
  let r := s.port p
  if lowerAllowed r.profile named then
    let keepsConfig := allows named .config || !allows r.profile .config
    (s.setPort p { r with
      profile := named
      batch := if keepsConfig then r.batch else none
      keep := if keepsConfig then r.keep else none }).okReply
  else s.refuse .access

/-! ## NOTICES and FLAGS (R155, R156, R158) -/

/-- Notices waiting on a port, counting an OVERFLOW notice (R156, R158). -/
def State.waiting (s : State) (p : Port) : Nat := (s.port p).queue.length + bit (s.port p).overflow

/-- NOTICES (R156, R158): on Port A the waiting notices are released for sending. -/
def doNotices (p : Port) (s : State) : Reply :=
  let s1 : State := match p with
    | .a => { s with lineA := { s.lineA with released := s.portA.queue.length } }
    | .b => s
  { state := s1, status := .ok, data := [s.waiting p] }

/-- Port A's flags after FLAGS (R155): ECHO On clears FOLLOW, FOLLOW On clears ECHO. -/
def LineA.setFlag (a : LineA) (f : PortFlag) (on : Bool) : LineA :=
  match f with
  | .echo => { a with echo := on, follow := a.follow && !on }
  | .follow => { a with follow := on, echo := a.echo && !on }
  | .autoReport => { a with autoReport := on }

/-- FLAGS (R155), refused BAD_REQUEST on Port B. -/
def doFlags (p : Port) (f : PortFlag) (on : Bool) (s : State) : Reply :=
  match p with
  | .a =>
    let a := s.lineA.setFlag f on
    { state := { s with lineA := a }, status := .ok, data := [bit a.echo, bit a.follow, bit a.autoReport] }
  | .b => s.refuse .badRequest

/-! ## Conference requests (R72 to R86) -/

/-- HOLD (R73). -/
def doHold (p : Port) (t : Target) (s : State) : Reply :=
  match s.targetSet t with
  | some set => (placeHolds p set s).okReply
  | none => s.refuse .badOperand

/-- FREE (R74). -/
def doFree (p : Port) (t : Target) (s : State) : Reply :=
  match s.targetSet t with
  | some set => if s.anyHeldBy p set then (releaseHolds p set s).okReply else s.refuse .notHeld
  | none => s.refuse .badOperand

/-- GMUTE and GUNMUTE (R80). -/
def doGroupMute (g : Nat) (on : Bool) (s : State) : Reply :=
  match index? 8 g with
  | some i => (setGroupMuted i on s).okReply
  | none => s.refuse .badOperand

/-- QUIET (R82). -/
def doQuiet (n : Nat) (on : Bool) (s : State) : Reply :=
  match index? 4 n with
  | some p =>
    if isLead s.rg.map p then
      { state := if s.mute.quiet[p] = on then s else turnQuiet p on s, status := .ok, data := [bit on] }
    else s.refuse .badOperand
  | none => s.refuse .badOperand

/-- DISMISS (R86): a source target must name a microphone. -/
def doDismiss (t : Target) (s : State) : Reply :=
  match t, s.targetSet t with
  | .source n, some set => if n < 16 then (dismissAsks set s).okReply else s.refuse .badOperand
  | _, some set => (dismissAsks set s).okReply
  | _, none => s.refuse .badOperand

/-! ## Scene requests (R164) -/

/-- A request on a page and a buffer, after the checks of their ranges. -/
def onPageBuf (k b : Nat) (f : Fin 32 → Fin 2 → State → Reply) (s : State) : Reply :=
  match index? 32 k, index? 2 b with
  | some k', some b' => f k' b' s
  | _, _ => s.refuse .badOperand

/-- A request on a buffer. -/
def onBuf (b : Nat) (f : Fin 2 → State → Reply) (s : State) : Reply :=
  match index? 2 b with
  | some b' => f b' s
  | none => s.refuse .badOperand

/-- A request on a page. -/
def onPage (k : Nat) (f : Fin 32 → State → Reply) (s : State) : Reply :=
  match index? 32 k with
  | some k' => f k' s
  | none => s.refuse .badOperand

/-! ## The body of each request -/

/-- What a request does once its class is allowed (R144 steps 3 and 4). -/
def Request.body (p : Port) (r : Request) (keep : Option Set26) : State → Reply :=
  match r with
  | .select t v k => doSelect p t v k
  | .showEntry => doShow p
  | .enter ops => doEnter p ops keep
  | .mask n => doMask p n
  | .beginBatch => doBegin p
  | .commit => doCommit p
  | .abandon => doAbandon p
  | .wall w o => doWall p w o
  | .notices => doNotices p
  | .flags f on => doFlags p f on
  | .lower n => doLower p n
  | .hold t => doHold p t
  | .free t => doFree p t
  | .freeAll => fun s => (freeEverything p s).okReply
  | .gmute g => doGroupMute g true
  | .gunmute g => doGroupMute g false
  | .quiet n on => doQuiet n on
  | .dismiss t => doDismiss t
  | .ask n => doAsk n
  | .withdraw n => doWithdraw n
  | .release n => doRelease n
  | .grant n => doGrant n
  | .grantNext n => doGrantNext n
  | .revoke n => doRevoke n
  | .clearQ n => doClearQ n
  | .link i req => doLink i req
  | .load k b => onPageBuf k b loadPage
  | .capture b => onBuf b captureBuf
  | .store b k => onPageBuf k b fun k' b' => storeBuf b' k'
  | .amend b k => onPageBuf k b fun k' b' => amendPage b' k'
  | .erase k => onPage k erasePage
  | .apply b => onBuf b applyBuf
  | .clear => State.okReply

/-- Name of a request. -/
def Request.name : Request → ReqName
  | .select _ _ _ => .select
  | .showEntry => .showEntry
  | .enter _ => .enter
  | .mask _ => .mask
  | .beginBatch => .beginBatch
  | .commit => .commit
  | .abandon => .abandon
  | .wall _ _ => .wall
  | .notices => .notices
  | .flags _ _ => .flags
  | .lower _ => .lower
  | .hold _ => .hold
  | .free _ => .free
  | .freeAll => .freeAll
  | .gmute _ => .gmute
  | .gunmute _ => .gunmute
  | .quiet _ _ => .quiet
  | .dismiss _ => .dismiss
  | .ask _ => .ask
  | .withdraw _ => .withdraw
  | .release _ => .release
  | .grant _ => .grant
  | .grantNext _ => .grantNext
  | .revoke _ => .revoke
  | .clearQ _ => .clearQ
  | .link _ _ => .link
  | .load _ _ => .load
  | .capture _ => .capture
  | .store _ _ => .store
  | .amend _ _ => .amend
  | .erase _ => .erase
  | .apply _ => .apply
  | .clear => .clear

/-- A request served on a port (R144). -/
def request (p : Port) (r : Request) : State → State := serve p (requestCode r.name) r.reqClass (r.body p)

/-- The levels that a CLEAR samples at the wall sense lines (R18, R170): free, since no operand carries them (log 23). -/
def State.freeSense (s : State) : Sense := tab fun w => if Config.senseHigh s.freeCount w then .high else .low

/-- CLEAR (R144, R170): allowed, it is the start-up event with cause CLEAR on the sense levels sampled at it (R18), whose START
stands for the response. DESIGN CHOICE: the Port B address pins keep the value they had at START_UP (log 23). -/
def requestClear (p : Port) (s : State) : State :=
  if allows (s.port p).profile .system then
    startUp .clear { sense := s.freeSense, address := s.pins.address } { s with freeCount := s.freeCount + 1 }
  else request p .clear s

/-- A request refused BAD_REQUEST, or discarded in framing with another status (R144, R154, R157). It is a request
received. -/
def refuseRequest (p : Port) (code : Byte) (st : Status) (s : State) : State :=
  respond p code st (s.port p).cursor.data (received p s)

/-- A request as a line or a record spells it (R144): name, class, then operands. -/
def wireRequest (p : Port) (name : ReqName) (ops : List Nat) (s : State) : State :=
  match p, name with
  | .b, .flags => refuseRequest p (requestCode name) .badRequest s
  | _, _ =>
    match readRequest name ops with
    | some .clear => requestClear p s
    | some r => request p r s
    | none => serve p (requestCode name) (wireClass name ops) (fun _ s1 => s1.refuse .badOperand) s

end Sys2Proof.Machine
end

