-- ==== Sys2Proof/Machine/Framing.lean ====
section
/-! DEFINITION. Port framing (9.6, 9.7): Port A's characters, lines and sent lines; Port B's write and read transactions. -/

namespace Sys2Proof.Machine

/-! ## Port A: characters (R154, R155) -/

/-- A character enters the receive buffer, or is discarded with the overrun mark set where 128 are held (R154). -/
def LineA.receive (a : LineA) (c : Byte) : LineA :=
  if a.rx.length < Config.rxCap then { a with rx := a.rx ++ [c] } else { a with overrun := true }

/-- A character taken into the receive buffer is echoed under ECHO, at once or after the line being sent (R155). -/
def LineA.sendBack (a : LineA) (c : Byte) : LineA :=
  if a.sending.isSome then { a with echoWait := a.echoWait ++ [c], echoOut := [] } else { a with echoOut := [c] }

/-- A partly received line has been echoed from its first character, other than a line feed, to its carriage return (R155;
log 24). -/
def LineA.openLine (a : LineA) (c : Byte) (echoed : Bool) : LineA :=
  if c = 0x0D then { a with echoOpen := false }
  else if echoed && decide (c ≠ 0x0A) then { a with echoOpen := true }
  else a

/-- PORT_A_CHARACTER_RECEIVED (R154, R155). -/
def receiveChar (c : Byte) (s : State) : State :=
  let a := s.lineA
  let echoed := a.echo && decide (a.rx.length < Config.rxCap)
  let b := a.receive c
  let d := if echoed then b.sendBack c else { b with echoOut := [] }
  { s with lineA := d.openLine c echoed }

/-! ## Port A: lines (R154) -/

/-- The words of a line, separated by one or more spaces (9.6); `cur` is the word being read. DESIGN CHOICE: spaces before the first
word and after the last are dropped, and the line is taken as without them (log 24). -/
def splitWords : List Byte → List Byte → List (List Byte)
  | [], cur => if cur.isEmpty then [] else [cur]
  | c :: cs, cur =>
    if c = 0x20 then (if cur.isEmpty then splitWords cs [] else cur :: splitWords cs [])
    else splitWords cs (cur ++ [c])

/-- A hexadecimal digit, in capitals. -/
def digitValue (c : Byte) : Option Nat :=
  if 0x30 ≤ c ∧ c ≤ 0x39 then some (c.toNat - 0x30)
  else if 0x41 ≤ c ∧ c ≤ 0x46 then some (c.toNat - 0x37)
  else none

/-- A hexadecimal number. -/
def digitsValue : List Byte → Nat → Option Nat
  | [], n => some n
  | c :: cs, n =>
    match digitValue c with
    | some d => digitsValue cs (n * 16 + d)
    | none => none

/-- An operand of a line: 1 to 8 hexadecimal digits (9.6). -/
def wordOperand (w : List Byte) : Option Nat := if w.isEmpty || decide (8 < w.length) then none else digitsValue w 0

/-- The operands of a line, none where one is not hexadecimal or too long. -/
def wordOperands : List (List Byte) → Option (List Nat)
  | [] => some []
  | w :: ws =>
    match wordOperand w, wordOperands ws with
    | some n, some ns => some (n :: ns)
    | _, _ => none

/-- A line without a word is empty; otherwise it is a request, or refused BAD_REQUEST (R144, R154). -/
def takeWords (words : List (List Byte)) (s : State) : State :=
  match words with
  | [] => s
  | w :: ws =>
    match requestOfText w, wordOperands ws with
    | some name, some ops => wireRequest .a name ops s
    | _, _ => refuseRequest .a 0 .badRequest s

/-- The line buffer emptied, with its carriage return gone from the receive buffer. -/
def LineA.endLine (a : LineA) (rest : List Byte) : LineA := { a with rx := rest, buf := [], long := false, overrun := false }

/-- PORT_A_LINE_END: a complete line is considered (R154). Nothing while its carriage return is not at the front of the
receive buffer, or a response waits to be sent. -/
def endOfLine (s : State) : State :=
  let a := s.lineA
  match a.rx with
  | c :: rest =>
    if c = 0x0D ∧ a.responses.isEmpty then
      let s1 := { s with lineA := a.endLine rest }
      if a.overrun then refuseRequest .a 0 .overrun s1
      else if a.long then refuseRequest .a 0 .long s1
      else takeWords (splitWords a.buf []) s1
    else s
  | [] => s

/-- PORT_A_LINE_SENT (R155, R156): a notice line's notice leaves the queue, an OVERFLOW line clears the flag, and waiting
echoed characters follow. -/
def lineSent (s : State) : State :=
  match s.lineA.sending with
  | none => s
  | some l =>
    let a := { s.lineA with sending := none, echoWait := [], echoOut := s.lineA.echoWait }
    match l with
    | .notice _ =>
      { s with
        lineA := { a with released := a.released - 1 }
        portA := { s.portA with queue := s.portA.queue.drop 1 } }
    | .overflow => { s with lineA := a, portA := { s.portA with overflow := false } }
    | .response _ _ => { s with lineA := a }
    | .follow _ _ _ => { s with lineA := a }

/-! ## Port B (R157, R158) -/

/-- Port B's address: 68h plus the value of its address pins (9.7). -/
def State.addressB (s : State) : Nat := Config.portBBase + s.pins.address.val

/-- The operands of a record, four bytes each, most significant first (R157). -/
def recordOperands : Nat → List Byte → List Nat
  | 0, _ => []
  | n + 1, bs => fromBigEndian (bs.take 4) :: recordOperands n (bs.drop 4)

/-- A record whose stated length has been received, with nothing beyond it (R144, R157). -/
def takeRecord (code : Byte) (operands : List Byte) (s : State) : State :=
  if operands.length % 4 = 0 then
    match requestOfCode code with
    | some name => wireRequest .b name (recordOperands (operands.length / 4) operands) s
    | none => refuseRequest .b code .badRequest s
  else refuseRequest .b code .badRequest s

/-- PORT_B_WRITE_TRANSACTION (R157). A write to another address is not the part's (log 31). DESIGN CHOICE: a record cut short whose
stated length is no multiple of 4 is TRUNCATED (log 42). -/
def portBWrite (address : Fin 128) (bytes : List Byte) (s : State) : State :=
  if address.val = s.addressB then
    match bytes with
    | [] => s
    | [code] => refuseRequest .b code .truncated s
    | code :: len :: ops =>
      if ops.length < len.toNat then refuseRequest .b code .truncated s
      else if len.toNat < ops.length then refuseRequest .b code .badRequest s
      else takeRecord code ops s
  else s

/-- How many notices, and of how many bytes, are read whole within `n` bytes (R158). -/
def readWhole : List Notice → Nat → Nat
  | [], _ => 0
  | q :: qs, n => if q.bytes.length ≤ n then readWhole qs (n - q.bytes.length) + 1 else 0

/-- The bytes that a read finds before the zeros: response, OVERFLOW where its flag is set, notices (R158). -/
def State.readStream (s : State) : List Byte :=
  s.recB.bytes ++ (if s.portB.overflow then overflowBytes else []) ++ s.portB.queue.flatMap Notice.bytes

/-- PORT_B_READ_TRANSACTION (R158). A read at another address is not the part's (log 31). -/
def portBRead (address : Fin 128) (count : Nat) (s : State) : State :=
  if address.val = s.addressB then
    let out := s.readStream.take count
    let head := s.recB.bytes.length + if s.portB.overflow then overflowBytes.length else 0
    let gone := if head ≤ count then readWhole s.portB.queue (count - head) else 0
    { s with
      recB := { s.recB with readOut := out ++ List.replicate (count - out.length) 0 }
      portB := { s.portB with
        queue := s.portB.queue.drop gone
        overflow := s.portB.overflow && decide (count < head) } }
  else s

end Sys2Proof.Machine
end

