-- ==== Sys2Proof/Machine/Mix.lean ====
section
/-! DEFINITION. The mix engine (chapter 3): the snapshot of a boundary, and what a sample period receives, computes and
sends. -/

namespace Sys2Proof.Machine

/-! ## Snapshot (R37, R38, R48) -/

/-- The factor table of R38, at n = max(1, count). -/
def factorOf (count : Nat) : Nat :=
  match count with
  | 0 => 32768
  | 1 => 32768
  | 2 => 23170
  | 3 => 18918
  | 4 => 16384
  | 5 => 14654
  | 6 => 13377
  | 7 => 12385
  | _ => 11585

/-- The open count of a slot that the mix engine holds: that of the evaluation taken for the coming boundary, so that a gate
closed after it does not count before the next snapshot (R98, R99), else that of the gates as they stand. -/
def State.handedCount (s : State) (p : Fin 4) : Nat := (s.ahead.counts[p]).getD (s.openCount p)

/-- The factor N of a source (R37). -/
def State.factor (s : State) (i : Fin 26) : Nat :=
  match sourceMic i with
  | some m => if s.mode (s.micPart m) = .gated then factorOf (s.handedCount (s.micPart m)) else Config.unity
  | none => Config.unity

/-- The snapshot of the live tables, the map in force, the modes and the factors (R48). -/
def State.snapshot (s : State) : Snapshot :=
  { trim := tab fun i => (s.live.src[i]).trim
    xpt := s.live.xpt
    gain := tab fun b => (s.live.bus[b]).gain
    srcSect := tab fun i => (s.live.src[i]).sect
    busSect := tab fun b => (s.live.bus[b]).sect
    map := s.rg.map
    modes := tab s.mode
    factor := tab s.factor }

/-- The snapshot taken (R48). -/
def takeSnapshot (s : State) : State := { s with mix := { s.mix with snap := some s.snapshot } }

/-! ## The computation of one sample period (R37, R40 to R44) -/

/-- Attenuation (R37). -/
def attenuation (e n : Nat) : Nat := e * n / 32768

/-- The rounded value of the source stage, before saturation (R40). -/
def sourceRounded (x : Sample) (trim a : Nat) : Int := roundAt 30 (x.toInt * trim * a)

/-- Index of a crosspoint (R45). -/
def xptIndex (b i : Fin 26) : Fin 676 := ⟨b.val * 26 + i.val, by have := b.isLt; have := i.isLt; omega⟩

/-- The accumulation of a bus over its contributing sources, exact (R41, R42). -/
def accumulate (k : Snapshot) (y : Vector Sample 26) (b : Fin 26) : Int :=
  ((sources.filter (contributes k.map k.srcSect k.busSect b)).map
    fun i => (y[i]).toInt * (k.xpt[xptIndex b i] : Int)).sum

/-- Gain of a bus (R43). -/
def busGain (gain r : Nat) : Nat := gain * r / 32768

/-- The rounded value of the bus stage, before saturation (R44). -/
def busRounded (acc : Int) (g : Nat) : Int := roundAt 30 (acc * g)

/-- The rounded source stages of sample period `j` (R36, R40). -/
def State.sourceStage (s : State) (k : Snapshot) (j : Fin 48) (i : Fin 26) : Int :=
  sourceRounded (s.audio.input[i])[j] k.trim[i] (attenuation (s.env[i]).value k.factor[i])

/-- The saturated source stages of sample period `j` (R40). -/
def State.stageValues (s : State) (k : Snapshot) (j : Fin 48) : Vector Sample 26 :=
  tab fun i => saturate (s.sourceStage k j i)

/-- The rounded bus stages of sample period `j` (R44). -/
def State.busStage (s : State) (k : Snapshot) (j : Fin 48) (b : Fin 26) : Int :=
  busRounded (accumulate k (s.stageValues k j) b) (busGain k.gain[b] s.rg.r[b])

/-- The 26 source stages, accumulations and bus stages of sample period `j`, with their clips (R36, R51). -/
def computePeriod (k : Snapshot) (j : Fin 48) (s : State) : State :=
  { s with
    audio := { s.audio with
      computed := tab fun b => put s.audio.computed[b] j (saturate (s.busStage k j b)) }
    mix := { s.mix with
      srcClip := tab fun i =>
        if outOfRange (s.sourceStage k j i) then countUp Config.maxCount s.mix.srcClip[i] else s.mix.srcClip[i]
      busClip := tab fun b =>
        if outOfRange (s.busStage k j b) then countUp Config.maxCount s.mix.busClip[b] else s.mix.busClip[b] } }

/-! ## Envelopes (R26, R55) -/

/-- Target of a bus regroup envelope (R26). -/
def Regroup.target (g : Regroup) (b : Fin 26) : Nat :=
  match g.state with
  | .steady => Config.unity
  | .fadingOut => if g.affected[b] then 0 else Config.unity
  | .fadingIn => if g.fresh && g.bySwitch && g.touched[b] then 0 else Config.unity

/-- Every source envelope and every bus regroup envelope takes its step (R26, R55). -/
def stepEnvelopes (s : State) : State :=
  { s with
    env := tab fun i => (s.env[i]).step
    rg := { s.rg with r := tab fun b => stepToward s.rg.r[b] (s.rg.target b) s.rg.step } }

/-! ## SAMPLE_PERIOD -/

/-- The position of a sample period in its frame. A period past the 48th is taken as another period 47 (log 22). -/
def State.period (s : State) : Fin 48 := ⟨min s.periods 47, by omega⟩

/-- The far-end and line ports receive and send one sample period (R9, R12, R13). -/
def portPeriod (tdm : Vector SlotWord 8) (chan : Vector SlotWord 2) (s : State) : State :=
  let j := s.period
  let a := s.audio
  let good := decide (slotMarker tdm[0] = Config.marker ∧ s.periods < Config.framePeriods)
  { s with
    periods := min (s.periods + 1) Config.framePeriods
    audio := { a with
      tdmIn := tab fun k => put a.tdmIn[k] j (slotSample tdm[k])
      tdmGood := if good then a.tdmGood + 1 else a.tdmGood
      lineIn := tab fun k => put a.lineIn[k] j (slotSample chan[k])
      tdmOut := tab fun k => sampleSlot (a.sending[16 + k.val]'(by have := k.isLt; omega))[j]
      lineOut := tab fun k => sampleSlot (a.sending[24 + k.val]'(by have := k.isLt; omega))[j] } }

/-- SAMPLE_PERIOD (R36): envelopes step, the mix is computed under the snapshot, the ports receive and send. Without a
snapshot nothing is computed and no envelope steps (R53, R68). -/
def samplePeriod (tdm : Vector SlotWord 8) (chan : Vector SlotWord 2) (s : State) : State :=
  match s.mix.snap with
  | none => portPeriod tdm chan s
  | some k => portPeriod tdm chan (computePeriod k s.period (stepEnvelopes s))

end Sys2Proof.Machine
end

