-- ==== Sys2Proof/Machine/Boundary.lean ====
section
/-! DEFINITION. The frame boundary (R4): every block's once-per-frame work in one fixed order (log 3), GATE_HOLD_EXPIRY ahead
of it, and the idle count of open batches. -/

namespace Sys2Proof.Machine

/-! ## Idle batches (R153) -/

/-- An open batch abandoned, with its notice to its own port (R153). -/
def abandonBatch (p : Port) (ob : OpenBatch) (s : State) : State :=
  (s.setPort p { s.port p with batch := none }).postTo p (.batchAbandoned ob.entries.length)

/-- The idle count of a port's open batch at a boundary (R153). -/
def idleBoundary (p : Port) (s : State) : State :=
  match (s.port p).batch with
  | some ob =>
    if Config.idleTop ≤ ob.idle + 1 then abandonBatch p ob s
    else s.setPort p { s.port p with batch := some { ob with idle := ob.idle + 1 } }
  | none => s

/-- BATCH_IDLE_TIMEOUT: the count reaches 2000 at the boundary about to be taken (R153; log 1). -/
def batchIdleTimeout (p : Port) (s : State) : State :=
  match (s.port p).batch with
  | some ob => if ob.idle + 1 = Config.idleTop then abandonBatch p ob s else s
  | none => s

/-! ## GATE_HOLD_EXPIRY -/

/-- The record of a link as the boundary about to be taken will leave it, with every link event of that boundary taken (R6). -/
def State.linkAhead (s : State) (m : Fin 16) : LinkRec := (linkBoundary s m).links[m]

/-- The frame peak of a microphone at that boundary (R14): 0 where its link leaves ACTIVE there, in whichever order (R6). -/
def State.nextPeak (s : State) (m : Fin 16) : Nat := framePeak (s.linkAhead m).delivered

/-- Its noise tracker there, unchanged where its link leaves ACTIVE (R15). -/
def State.nextNoise (s : State) (m : Fin 16) : Nat :=
  let n := s.audio.noise[micSource m]
  if (s.linkAhead m).whole then trackNoise n (s.nextPeak m) else n

/-- The view of a slot on the levels that the boundary about to be taken will measure. -/
def State.nextView (s : State) (p : Fin 4) : GateView := s.gateView p s.nextPeak s.nextNoise

/-- The open count of slot `p` handed to the mix engine (R98), the slot being evaluated for the coming boundary. -/
def handCount (p : Fin 4) (s : State) : State :=
  { s with ahead := { s.ahead with counts := put s.ahead.counts p (some (s.openCount p)) } }

/-- An OPEN microphone's hold counter reaches 0 at the boundary about to be taken (R93, R94). The evaluation of its slot is taken
whole (R92), on the levels that boundary will measure, and FRAME_BOUNDARY does not take it again (log 1). Nothing where the
counter does not reach 0 there. -/
def gateHoldExpiry (m : Fin 16) (s : State) : State :=
  let p := s.micPart m
  let v := s.nextView p
  if s.evaluationDue p && expires v s.gates m then handCount p (evaluateOn v s) else s

/-! ## FOLLOW (R155) -/

/-- The follow entry compared with the content last sent for it (R155). -/
def followCompare (s : State) : State :=
  match s.lineA.follow, s.lineA.followEntry with
  | true, some f =>
    if s.entryAt f.cursor = f.sent then s else { s with lineA := { s.lineA with followReady := true } }
  | _, _ => s

/-! ## FRAME_BOUNDARY -/

/-- The indicator states of the sixteen microphones (R88, R89). -/
def State.indicators (s : State) : Vector Indicator 16 := tab s.indicator

/-- The links' events at the boundary, the handover of frames, and the wall samples (R6, R10 to R18, R127 to R137). DESIGN CHOICE:
the links take their events, and post their notices, in ascending link number; the walls are sampled, and their causes taken, in
ascending number (log 18). -/
def boundaryInputs (sense : Sense) (s : State) : State :=
  let s1 := regroupBoundary { s with pins := { s.pins with sense := sense }, periods := 0 }
  let s2 := closeFrames (handover (mics.foldl linkBoundary s1))
  (List.finRange 3).foldl (sampleWall sense) s2

/-- The gating unit's evaluations and the floor unit's work (R92, R115). DESIGN CHOICE: the slots take theirs, and post their
notices, in ascending number (log 18). -/
def boundaryDecisions (s : State) : State :=
  takePieces (slots.foldl gateEvaluation s)

/-- Committed batches, the switch and completion tests, captures and FOLLOW (R29, R31, R152, R153, R155, R166). DESIGN
CHOICE: of two captures due at one boundary, that of SB0 is taken first (log 18). -/
def boundaryConfiguration (s : State) : State :=
  let s1 := idleBoundary .b (idleBoundary .a s)
  let s2 := readBusStep (applyCommitted .b (applyCommitted .a s1))
  let s3 := regroupBoundaryEnd (regroupDone (regroupSwitch s2))
  followCompare (captureCopy 1 (captureCopy 0 s3))

/-- FRAME_BOUNDARY (R4), with the indicator read before or after the boundary's decisions (R89). -/
def frameBoundary (sense : Sense) (readFirst : Bool) (s : State) : State :=
  let s1 := boundaryInputs sense s
  let s2 := takeSnapshot (boundaryDecisions s1)
  let s3 := startDownstream (if readFirst then s1.indicators else s2.indicators) s2
  boundaryConfiguration s3

end Sys2Proof.Machine
end

