-- ==== Sys2Proof/Machine/Running.lean ====
section
/-! DEFINITION. What every command but START_UP and RESET_N_ASSERTED has in common: while RESET_N is low the part is held
(R170); otherwise the command has its effect, and Port A's transmitter and request unit go on (R154, R155). -/

namespace Sys2Proof.Machine
open Host

/-- A command's effect on a part that may be held in reset (R170). -/
def running (f : State → State) (s : State) : Host.Outcome State Fault Refusal :=
  if s.held then .next s else .next (settleLine (f s))

end Sys2Proof.Machine
end

