-- ==== Sys2Proof/Machine/ClockRows.lean ====
section
/-! DEFINITION. Start-up, the reset pin, the clock, and the rows of events that a boundary brings (log 1). -/

namespace Sys2Proof.Machine
open Host

/-- START_UP (R170). -/
def execStartUp (cause : PinCause) (sense : Sense) (address : Fin 8) (s : State) : Host.Outcome State Fault Refusal :=
  .next (settleLine (startUp (causeOf cause) { sense := sense, address := address } s))

/-- RESET_N_ASSERTED (R170). -/
def execResetAsserted (s : State) : Host.Outcome State Fault Refusal :=
  .next (holdReset s)

/-- SAMPLE_PERIOD (R36). -/
def execSamplePeriod (tdm : Vector SlotWord 8) (chan : Vector SlotWord 2) (s : State) : Host.Outcome State Fault Refusal :=
  running (samplePeriod tdm chan) s

/-- FRAME_BOUNDARY (R4). -/
def execFrameBoundary (sense : Sense) (readFirst : Bool) (s : State) : Host.Outcome State Fault Refusal :=
  running (frameBoundary sense readFirst) s

/-- BAD_FRAME_RUN (R130). -/
def execBadFrameRun (link : Fin 16) (s : State) : Host.Outcome State Fault Refusal :=
  running (badFrameRun link) s

/-- WALL_SENSE_CHANGE (R18). -/
def execWallSenseChange (wall : Fin 3) (s : State) : Host.Outcome State Fault Refusal :=
  running (wallSenseChange wall) s

/-- GATE_HOLD_EXPIRY (R94). -/
def execGateHoldExpiry (mic : Fin 16) (s : State) : Host.Outcome State Fault Refusal :=
  running (gateHoldExpiry mic) s

/-- QUEUE_EXPIRY (R112). -/
def execQueueExpiry (mic : Fin 16) (s : State) : Host.Outcome State Fault Refusal :=
  running (queueExpiry mic) s

/-- SPEECH_WARN (R113). -/
def execSpeechWarn (mic : Fin 16) (s : State) : Host.Outcome State Fault Refusal :=
  running (speechWarning mic) s

/-- SPEECH_EXPIRY (R114). -/
def execSpeechExpiry (mic : Fin 16) (s : State) : Host.Outcome State Fault Refusal :=
  running (speechExpiry mic) s

/-- ATTEMPT_FAIL (R128). -/
def execAttemptFail (link : Fin 16) (s : State) : Host.Outcome State Fault Refusal :=
  running (attemptFail link) s

/-- DOZE_HANDSHAKE_TIMEOUT (R131). -/
def execDozeHandshakeTimeout (link : Fin 16) (s : State) : Host.Outcome State Fault Refusal :=
  running (dozeTimeout link) s

/-- DETACH_HANDSHAKE_TIMEOUT (R134). -/
def execDetachHandshakeTimeout (link : Fin 16) (s : State) : Host.Outcome State Fault Refusal :=
  running (detachTimeout link) s

/-- RESIDENCY_MET (R136). -/
def execResidencyMet (link : Fin 16) (s : State) : Host.Outcome State Fault Refusal :=
  running (residencyMet link) s

/-- AUTO_UP (R137). -/
def execAutoUp (link : Fin 16) (s : State) : Host.Outcome State Fault Refusal :=
  running (autoUpEvent link) s

/-- BATCH_APPLICATION (R152). -/
def execBatchApplication (port : Port) (s : State) : Host.Outcome State Fault Refusal :=
  running (applyCommitted port) s

/-- BATCH_IDLE_TIMEOUT (R153). -/
def execBatchIdleTimeout (port : Port) (s : State) : Host.Outcome State Fault Refusal :=
  running (batchIdleTimeout port) s

/-- REGROUP_SWITCH (R29). -/
def execRegroupSwitch (s : State) : Host.Outcome State Fault Refusal :=
  running (regroupSwitch) s

/-- REGROUP_DONE (R31). -/
def execRegroupDone (s : State) : Host.Outcome State Fault Refusal :=
  running (regroupDone) s

end Sys2Proof.Machine
end

