-- ==== Sys2Proof/Machine/LinkRows.lean ====
section
/-! DEFINITION. Upstream frames and pod messages (R123 to R126). -/

namespace Sys2Proof.Machine
open Host

/-- UPSTREAM_FRAME_ARRIVAL (R123). -/
def execUpstreamFrameArrival (link : Fin 16) (bytes : List Byte) (s : State) : Host.Outcome State Fault Refusal :=
  running (upstreamArrival link bytes) s

/-- HELLO (R129). -/
def execHello (link : Fin 16) (kind : Byte) (buttons : Vector Bool 3) (slide : Option Slide) (s : State) : Host.Outcome State Fault Refusal :=
  running (fun t => takeHello (t.links[link]).lock kind buttons slide link t) s

/-- BUTTON_MUTE (R77). -/
def execButtonMute (link : Fin 16) (seq : Bool) (s : State) : Host.Outcome State Fault Refusal :=
  running (takeButton .mute seq link) s

/-- BUTTON_TALK (R87). -/
def execButtonTalk (link : Fin 16) (seq : Bool) (s : State) : Host.Outcome State Fault Refusal :=
  running (takeButton .talk seq link) s

/-- BUTTON_ALL (R83). -/
def execButtonAll (link : Fin 16) (seq : Bool) (s : State) : Host.Outcome State Fault Refusal :=
  running (takeButton .all seq link) s

/-- DOZE_ACK (R131). -/
def execDozeAck (link : Fin 16) (s : State) : Host.Outcome State Fault Refusal :=
  running (takeDozeAck link) s

/-- DOZE_NAK (R131). -/
def execDozeNak (link : Fin 16) (s : State) : Host.Outcome State Fault Refusal :=
  running (takeDozeNak link) s

/-- DETACH_ACK (R134). -/
def execDetachAck (link : Fin 16) (s : State) : Host.Outcome State Fault Refusal :=
  running (takeDetachAck link) s

/-- FAULT_REPORT (R136). -/
def execFaultReport (link : Fin 16) (code : Byte) (s : State) : Host.Outcome State Fault Refusal :=
  running (takeFaultReport code link) s

/-- WAKE (R132). -/
def execWake (link : Fin 16) (s : State) : Host.Outcome State Fault Refusal :=
  running (takeWake link) s

end Sys2Proof.Machine
end

