-- ==== Sys2Proof/Machine/PortRows.lean ====
section
/-! DEFINITION. Port framing and the requests of chapters 2, 5, 7, 8 and 9. -/

namespace Sys2Proof.Machine
open Host

/-- PORT_A_CHARACTER_RECEIVED (R154). -/
def execPortACharacterReceived (char : Byte) (s : State) : Host.Outcome State Fault Refusal :=
  running (receiveChar char) s

/-- PORT_A_LINE_END (R154). -/
def execPortALineEnd (s : State) : Host.Outcome State Fault Refusal :=
  running (endOfLine) s

/-- PORT_A_LINE_SENT (R156). -/
def execPortALineSent (s : State) : Host.Outcome State Fault Refusal :=
  running (lineSent) s

/-- PORT_B_WRITE_TRANSACTION (R157). -/
def execPortBWriteTransaction (address : Fin 128) (bytes : List Byte) (s : State) : Host.Outcome State Fault Refusal :=
  running (portBWrite address bytes) s

/-- PORT_B_READ_TRANSACTION (R158). -/
def execPortBReadTransaction (address : Fin 128) (count : Nat) (s : State) : Host.Outcome State Fault Refusal :=
  running (portBRead address count) s

/-- SELECT (R146). -/
def execSelect (port : Port) (table view index : Nat) (s : State) : Host.Outcome State Fault Refusal :=
  running (request port (.select table view index)) s

/-- SHOW (R147). -/
def execShowEntry (port : Port) (s : State) : Host.Outcome State Fault Refusal :=
  running (request port .showEntry) s

/-- ENTER (R148). -/
def execEnter (port : Port) (operands : List Nat) (s : State) : Host.Outcome State Fault Refusal :=
  running (request port (.enter operands)) s

/-- MASK (R150). -/
def execMask (port : Port) (sources : Nat) (s : State) : Host.Outcome State Fault Refusal :=
  running (request port (.mask sources)) s

/-- BEGIN (R151). -/
def execBeginBatch (port : Port) (s : State) : Host.Outcome State Fault Refusal :=
  running (request port .beginBatch) s

/-- COMMIT (R152). -/
def execCommit (port : Port) (s : State) : Host.Outcome State Fault Refusal :=
  running (request port .commit) s

/-- ABANDON (R151). -/
def execAbandon (port : Port) (s : State) : Host.Outcome State Fault Refusal :=
  running (request port .abandon) s

/-- WALL (R19). -/
def execWall (port : Port) (wall : Nat) (override : Override) (s : State) : Host.Outcome State Fault Refusal :=
  running (request port (.wall wall override)) s

/-- NOTICES (R156). -/
def execNotices (port : Port) (s : State) : Host.Outcome State Fault Refusal :=
  running (request port .notices) s

/-- FLAGS (R155). -/
def execFlags (port : Port) (flag : PortFlag) (on : Bool) (s : State) : Host.Outcome State Fault Refusal :=
  running (request port (.flags flag on)) s

/-- LOWER (R145). -/
def execLower (port : Port) (profile : Profile) (s : State) : Host.Outcome State Fault Refusal :=
  running (request port (.lower profile)) s

/-- HOLD (R73). -/
def execHold (port : Port) (target : Target) (s : State) : Host.Outcome State Fault Refusal :=
  running (request port (.hold target)) s

/-- FREE (R74). -/
def execFree (port : Port) (target : Target) (s : State) : Host.Outcome State Fault Refusal :=
  running (request port (.free target)) s

/-- FREEALL (R75, R76). -/
def execFreeAll (port : Port) (s : State) : Host.Outcome State Fault Refusal :=
  running (request port .freeAll) s

/-- GMUTE (R80). -/
def execGmute (port : Port) (group : Nat) (s : State) : Host.Outcome State Fault Refusal :=
  running (request port (.gmute group)) s

/-- GUNMUTE (R80). -/
def execGunmute (port : Port) (group : Nat) (s : State) : Host.Outcome State Fault Refusal :=
  running (request port (.gunmute group)) s

/-- QUIET (R82). -/
def execQuiet (port : Port) (partition : Nat) (on : Bool) (s : State) : Host.Outcome State Fault Refusal :=
  running (request port (.quiet partition on)) s

/-- DISMISS (R86). -/
def execDismiss (port : Port) (target : Target) (s : State) : Host.Outcome State Fault Refusal :=
  running (request port (.dismiss target)) s

/-- ASK (R106). -/
def execAsk (port : Port) (source : Nat) (s : State) : Host.Outcome State Fault Refusal :=
  running (request port (.ask source)) s

/-- WITHDRAW (R107). -/
def execWithdraw (port : Port) (source : Nat) (s : State) : Host.Outcome State Fault Refusal :=
  running (request port (.withdraw source)) s

/-- RELEASE (R108). -/
def execRelease (port : Port) (source : Nat) (s : State) : Host.Outcome State Fault Refusal :=
  running (request port (.release source)) s

/-- GRANT (R109). -/
def execGrant (port : Port) (source : Nat) (s : State) : Host.Outcome State Fault Refusal :=
  running (request port (.grant source)) s

/-- GRANT_NEXT (R109). -/
def execGrantNext (port : Port) (partition : Nat) (s : State) : Host.Outcome State Fault Refusal :=
  running (request port (.grantNext partition)) s

/-- REVOKE (R108). -/
def execRevoke (port : Port) (source : Nat) (s : State) : Host.Outcome State Fault Refusal :=
  running (request port (.revoke source)) s

/-- CLEARQ (R107). -/
def execClearQ (port : Port) (partition : Nat) (s : State) : Host.Outcome State Fault Refusal :=
  running (request port (.clearQ partition)) s

/-- LINK NOP (R139). -/
def execLinkNop (port : Port) (link : Nat) (s : State) : Host.Outcome State Fault Refusal :=
  running (request port (.link link .nop)) s

/-- LINK UP (R139). -/
def execLinkUp (port : Port) (link : Nat) (s : State) : Host.Outcome State Fault Refusal :=
  running (request port (.link link .up)) s

/-- LINK DOZE (R139). -/
def execLinkDoze (port : Port) (link : Nat) (s : State) : Host.Outcome State Fault Refusal :=
  running (request port (.link link .doze)) s

/-- LINK DETACH (R139). -/
def execLinkDetach (port : Port) (link : Nat) (s : State) : Host.Outcome State Fault Refusal :=
  running (request port (.link link .detach)) s

/-- LINK RETRAIN (R139). -/
def execLinkRetrain (port : Port) (link : Nat) (s : State) : Host.Outcome State Fault Refusal :=
  running (request port (.link link .retrain)) s

end Sys2Proof.Machine
end

