-- ==== Sys2Proof/Machine/SceneRows.lean ====
section
/-! DEFINITION. Scene requests, the store engine and CLEAR (chapter 10). -/

namespace Sys2Proof.Machine
open Host

/-- LOAD (R165). -/
def execLoad (port : Port) (page buffer : Nat) (s : State) : Host.Outcome State Fault Refusal :=
  running (request port (.load page buffer)) s

/-- LOAD_COMPLETE (R165). -/
def execLoadComplete (readOk : Bool) (s : State) : Host.Outcome State Fault Refusal :=
  running (loadComplete readOk) s

/-- CAPTURE (R166). -/
def execCapture (port : Port) (buffer : Nat) (s : State) : Host.Outcome State Fault Refusal :=
  running (request port (.capture buffer)) s

/-- CAPTURE_COPY (R166). -/
def execCaptureCopy (buffer : Fin 2) (s : State) : Host.Outcome State Fault Refusal :=
  running (captureCopy buffer) s

/-- STORE (R167). -/
def execStore (port : Port) (buffer page : Nat) (s : State) : Host.Outcome State Fault Refusal :=
  running (request port (.store buffer page)) s

/-- STORE_COMPLETE (R167). -/
def execStoreComplete (verified : Bool) (s : State) : Host.Outcome State Fault Refusal :=
  running (storeComplete verified) s

/-- AMEND (R167). -/
def execAmend (port : Port) (buffer page : Nat) (s : State) : Host.Outcome State Fault Refusal :=
  running (request port (.amend buffer page)) s

/-- AMEND_COMPLETE (R167). -/
def execAmendComplete (readOk verified : Bool) (s : State) : Host.Outcome State Fault Refusal :=
  running (amendComplete readOk verified) s

/-- ERASE (R168). -/
def execErase (port : Port) (page : Nat) (s : State) : Host.Outcome State Fault Refusal :=
  running (request port (.erase page)) s

/-- ERASE_COMPLETE (R168). -/
def execEraseComplete (s : State) : Host.Outcome State Fault Refusal :=
  running (eraseComplete) s

/-- APPLY (R169). -/
def execApply (port : Port) (buffer : Nat) (s : State) : Host.Outcome State Fault Refusal :=
  running (request port (.apply buffer)) s

/-- CLEAR (R170). -/
def execClear (port : Port) (s : State) : Host.Outcome State Fault Refusal :=
  running (requestClear port) s

/-- ERASE_STAGE (R167). -/
def execEraseStage (s : State) : Host.Outcome State Fault Refusal :=
  running (eraseStage) s

end Sys2Proof.Machine
end

