-- ==== Sys2Proof/Machine/Dispatch.lean ====
section
/-! DEFINITION. One arm per command: the meaning it calls. -/

namespace Sys2Proof.Machine
open Host

def exec (i : Instr) (s : State) : Host.Outcome State Fault Refusal :=
  match i with
  | .startUp cause sense address => Sys2Proof.Machine.execStartUp cause sense address s
  | .resetAsserted => Sys2Proof.Machine.execResetAsserted s
  | .samplePeriod tdm line => Sys2Proof.Machine.execSamplePeriod tdm line s
  | .frameBoundary sense readFirst => Sys2Proof.Machine.execFrameBoundary sense readFirst s
  | .badFrameRun link => Sys2Proof.Machine.execBadFrameRun link s
  | .wallSenseChange wall => Sys2Proof.Machine.execWallSenseChange wall s
  | .gateHoldExpiry mic => Sys2Proof.Machine.execGateHoldExpiry mic s
  | .queueExpiry mic => Sys2Proof.Machine.execQueueExpiry mic s
  | .speechWarn mic => Sys2Proof.Machine.execSpeechWarn mic s
  | .speechExpiry mic => Sys2Proof.Machine.execSpeechExpiry mic s
  | .attemptFail link => Sys2Proof.Machine.execAttemptFail link s
  | .dozeHandshakeTimeout link => Sys2Proof.Machine.execDozeHandshakeTimeout link s
  | .detachHandshakeTimeout link => Sys2Proof.Machine.execDetachHandshakeTimeout link s
  | .residencyMet link => Sys2Proof.Machine.execResidencyMet link s
  | .autoUp link => Sys2Proof.Machine.execAutoUp link s
  | .batchApplication port => Sys2Proof.Machine.execBatchApplication port s
  | .batchIdleTimeout port => Sys2Proof.Machine.execBatchIdleTimeout port s
  | .regroupSwitch => Sys2Proof.Machine.execRegroupSwitch s
  | .regroupDone => Sys2Proof.Machine.execRegroupDone s
  | .upstreamFrameArrival link bytes => Sys2Proof.Machine.execUpstreamFrameArrival link bytes s
  | .hello link kind buttons slide => Sys2Proof.Machine.execHello link kind buttons slide s
  | .buttonMute link seq => Sys2Proof.Machine.execButtonMute link seq s
  | .buttonTalk link seq => Sys2Proof.Machine.execButtonTalk link seq s
  | .buttonAll link seq => Sys2Proof.Machine.execButtonAll link seq s
  | .dozeAck link => Sys2Proof.Machine.execDozeAck link s
  | .dozeNak link => Sys2Proof.Machine.execDozeNak link s
  | .detachAck link => Sys2Proof.Machine.execDetachAck link s
  | .faultReport link code => Sys2Proof.Machine.execFaultReport link code s
  | .wake link => Sys2Proof.Machine.execWake link s
  | .portACharacterReceived char => Sys2Proof.Machine.execPortACharacterReceived char s
  | .portALineEnd => Sys2Proof.Machine.execPortALineEnd s
  | .portALineSent => Sys2Proof.Machine.execPortALineSent s
  | .portBWriteTransaction address bytes => Sys2Proof.Machine.execPortBWriteTransaction address bytes s
  | .portBReadTransaction address count => Sys2Proof.Machine.execPortBReadTransaction address count s
  | .select port table view index => Sys2Proof.Machine.execSelect port table view index s
  | .showEntry port => Sys2Proof.Machine.execShowEntry port s
  | .enter port operands => Sys2Proof.Machine.execEnter port operands s
  | .mask port sources => Sys2Proof.Machine.execMask port sources s
  | .beginBatch port => Sys2Proof.Machine.execBeginBatch port s
  | .commit port => Sys2Proof.Machine.execCommit port s
  | .abandon port => Sys2Proof.Machine.execAbandon port s
  | .wall port wall override => Sys2Proof.Machine.execWall port wall override s
  | .notices port => Sys2Proof.Machine.execNotices port s
  | .flags port flag on => Sys2Proof.Machine.execFlags port flag on s
  | .lower port profile => Sys2Proof.Machine.execLower port profile s
  | .hold port target => Sys2Proof.Machine.execHold port target s
  | .free port target => Sys2Proof.Machine.execFree port target s
  | .freeAll port => Sys2Proof.Machine.execFreeAll port s
  | .gmute port group => Sys2Proof.Machine.execGmute port group s
  | .gunmute port group => Sys2Proof.Machine.execGunmute port group s
  | .quiet port partition on => Sys2Proof.Machine.execQuiet port partition on s
  | .dismiss port target => Sys2Proof.Machine.execDismiss port target s
  | .ask port source => Sys2Proof.Machine.execAsk port source s
  | .withdraw port source => Sys2Proof.Machine.execWithdraw port source s
  | .release port source => Sys2Proof.Machine.execRelease port source s
  | .grant port source => Sys2Proof.Machine.execGrant port source s
  | .grantNext port partition => Sys2Proof.Machine.execGrantNext port partition s
  | .revoke port source => Sys2Proof.Machine.execRevoke port source s
  | .clearQ port partition => Sys2Proof.Machine.execClearQ port partition s
  | .linkNop port link => Sys2Proof.Machine.execLinkNop port link s
  | .linkUp port link => Sys2Proof.Machine.execLinkUp port link s
  | .linkDoze port link => Sys2Proof.Machine.execLinkDoze port link s
  | .linkDetach port link => Sys2Proof.Machine.execLinkDetach port link s
  | .linkRetrain port link => Sys2Proof.Machine.execLinkRetrain port link s
  | .load port page buffer => Sys2Proof.Machine.execLoad port page buffer s
  | .loadComplete readOk => Sys2Proof.Machine.execLoadComplete readOk s
  | .capture port buffer => Sys2Proof.Machine.execCapture port buffer s
  | .captureCopy buffer => Sys2Proof.Machine.execCaptureCopy buffer s
  | .store port buffer page => Sys2Proof.Machine.execStore port buffer page s
  | .storeComplete verified => Sys2Proof.Machine.execStoreComplete verified s
  | .amend port buffer page => Sys2Proof.Machine.execAmend port buffer page s
  | .amendComplete readOk verified => Sys2Proof.Machine.execAmendComplete readOk verified s
  | .erase port page => Sys2Proof.Machine.execErase port page s
  | .eraseComplete => Sys2Proof.Machine.execEraseComplete s
  | .apply port buffer => Sys2Proof.Machine.execApply port buffer s
  | .clear port => Sys2Proof.Machine.execClear port s
  | .eraseStage => Sys2Proof.Machine.execEraseStage s

end Sys2Proof.Machine
end

