-- ==== Sys2Proof/Safety.lean ====
section
/-! DEFINITION. What the spec promises of every state that a run reaches, as predicates, and the runs that claims speak of. -/

namespace Sys2Proof.Machine
open Host

/-- `t` is reached from `s` by steps that each answer a next state. -/
inductive Reaches : State → State → Prop where
  | here (s : State) : Reaches s s
  | next {s t u : State} : Reaches s t → step t = .next u → Reaches s u

/-- A run never stops: no step answers a fault or a refusal. -/
def SafeFrom (s : State) : Prop := ∀ t, Reaches s t → ∃ u, step t = .next u

/-- Every envelope's target is the one that R57 and R58 derive from the rest of the state (R59). -/
def TargetsDerived (s : State) : Prop := ∀ i : Fin 26, (s.env[i]).target = s.targetOf i

/-- A microphone that carries a hold has its gate CLOSED (R99). -/
def HeldGatesClosed (s : State) : Prop := ∀ m : Fin 16, s.heldSource (micSource m) = true → (s.gates[m]).state = .closed

/-- A notice queue holds at most 32 notices and an open batch at most 64 entries (R159). -/
def PortBounded (r : PortRec) : Prop :=
  r.queue.length ≤ Config.queueCap ∧ ∀ ob, r.batch = some ob → ob.entries.length ≤ Config.batchCap

/-- Both ports are bounded (R159). -/
def QueuesBounded (s : State) : Prop := PortBounded s.portA ∧ PortBounded s.portB

/-- What STEADY means for the rest of the regroup machine, and where changes may wait at all (R23, R28, R29). -/
def RegroupClean (g : Regroup) : Prop :=
  (g.state ≠ .fadingOut → g.changes = []) ∧
  (g.state = .steady → g.pendMap = g.map ∧ g.affected = same 26 false ∧ g.touched = same 26 false)

/-- A map that some effective wall states give (R20). -/
def LegalMap (map : PartMap) : Prop := ∃ eff : Vector WallState 3, map = mapOf eff

/-- The map in force and the pending map are maps of R20. -/
def MapsLegal (s : State) : Prop := LegalMap s.rg.map ∧ LegalMap s.rg.pendMap

/-- Counts and envelopes of the audio and partition blocks stay in their ranges (R15, R18, R23, R51). -/
def CountsInRange (s : State) : Prop :=
  (∀ b : Fin 26, s.rg.r[b] ≤ Config.unity) ∧
  (∀ i : Fin 26, s.mix.srcClip[i] ≤ Config.maxCount ∧ s.mix.busClip[i] ≤ Config.maxCount) ∧
  (∀ w : Fin 3, (s.walls[w]).count ≤ Config.debounceTop) ∧
  (∀ i : Fin 26, s.audio.noise[i] ≤ Config.noiseTop)

/-- A port may make requests of a class, and the part is out of reset (R144, R170). -/
def Ready (s : State) (p : Port) (c : ReqClass) : Prop := s.held = false ∧ allows (s.port p).profile c = true

/-- What a request leaves: the state `u` of its effect, its answer given on its port, and Port A's line moved on. -/
def answered (p : Port) (name : ReqName) (st : Status) (data : List Nat) (u : State) : State :=
  settleLine (respond p (requestCode name) st data u)

/-- A refusal that changed nothing but what every request received changes: its answer carries the cursor (R144, R155). -/
def refused (p : Port) (name : ReqName) (st : Status) (s : State) : State :=
  answered p name st (s.port p).cursor.data (received p s)

/-- Steps needed for a ramp of a given distance (R55): the least number of whole steps that covers it. -/
def rampLength (distance step : Nat) : Nat := (distance + step - 1) / step

/-- The bounds of a floor record (R104): no source twice or in both lists, at most `limit` grants. -/
def FloorRec.Bounded (r : FloorRec) (limit : Nat) : Prop :=
  (r.queue.map (·.mic) ++ r.grants.map (·.mic)).Nodup ∧ r.grants.length ≤ limit

/-- The port and the request of a command that is a request; none for events and completions. -/
def portRequest : Instr → Option (Port × Request)
  | .select p t v k => some (p, .select t v k)
  | .showEntry p => some (p, .showEntry)
  | .enter p ops => some (p, .enter ops)
  | .mask p n => some (p, .mask n)
  | .beginBatch p => some (p, .beginBatch)
  | .commit p => some (p, .commit)
  | .abandon p => some (p, .abandon)
  | .wall p w o => some (p, .wall w o)
  | .notices p => some (p, .notices)
  | .flags p f on => some (p, .flags f on)
  | .lower p n => some (p, .lower n)
  | .hold p t => some (p, .hold t)
  | .free p t => some (p, .free t)
  | .freeAll p => some (p, .freeAll)
  | .gmute p g => some (p, .gmute g)
  | .gunmute p g => some (p, .gunmute g)
  | .quiet p n on => some (p, .quiet n on)
  | .dismiss p t => some (p, .dismiss t)
  | .ask p n => some (p, .ask n)
  | .withdraw p n => some (p, .withdraw n)
  | .release p n => some (p, .release n)
  | .grant p n => some (p, .grant n)
  | .grantNext p n => some (p, .grantNext n)
  | .revoke p n => some (p, .revoke n)
  | .clearQ p n => some (p, .clearQ n)
  | .linkNop p i => some (p, .link i .nop)
  | .linkUp p i => some (p, .link i .up)
  | .linkDoze p i => some (p, .link i .doze)
  | .linkDetach p i => some (p, .link i .detach)
  | .linkRetrain p i => some (p, .link i .retrain)
  | .load p k b => some (p, .load k b)
  | .capture p b => some (p, .capture b)
  | .store p b k => some (p, .store b k)
  | .amend p b k => some (p, .amend b k)
  | .erase p k => some (p, .erase k)
  | .apply p b => some (p, .apply b)
  | .clear p => some (p, .clear)
  | _ => none

/-- The bounds of R104 on every floor record: within the speaker limit, no source twice, entries only in a CHAIRED slot in
use, only of its own microphones, none of a chair microphone. The second part rules out states in which a batch that needs
a switch stands in a committed list (R152). -/
def FloorsKept (s : State) : Prop :=
  (∀ q : Fin 4, FloorRec.Bounded s.floors[q] (s.lead q).speakerLimit ∧
    ∀ m : Fin 16, (s.floors[q]).queued m = true ∨ (s.floors[q]).granted m = true →
      s.slotIn .chaired q = true ∧ s.micPart m = q ∧ s.isChair m = false) ∧
  (∀ p : Port, ∀ b ∈ (s.port p).committed, b.needsSwitch s.live = false)

/-- No batch in a committed list needs a switch (R152). -/
def CommittedPlain (s : State) : Prop := ∀ p : Port, ∀ b ∈ (s.port p).committed, b.needsSwitch s.live = false

/-- A LAST_ON microphone is the only one of its partition that is not CLOSED (R94). -/
def LastOnAlone (s : State) : Prop :=
  ∀ m x : Fin 16, m ≠ x → s.micPart m = s.micPart x → (s.gates[m]).state = .lastOn → (s.gates[x]).state = .closed

/-! ## Words of the statements -/

/-- An event that leads from `s` to `u` makes the hold set of a microphone non-empty (R99). -/
def takesHold (s u : State) (m : Fin 16) : Bool := !s.heldSource (micSource m) && u.heldSource (micSource m)

/-- An event that leads from `s` to `u` leaves the hold set of a microphone empty (R85). -/
def losesHolds (s u : State) (m : Fin 16) : Bool := s.heldSource (micSource m) && !u.heldSource (micSource m)

/-- The HOLDS notices of an event that leads from `s` to `u`: one for each changed source, in ascending index (R71). -/
def holdsPosted (s u : State) : List Notice :=
  ((List.finRange 26).filter fun i => decide (s.holdSet i ≠ u.holdSet i)).map fun i => .holds i (u.holdSet i)

/-- The UNMUTE notices of the flags that lose their last hold with it (R85). -/
def asksCleared (s u : State) : List Notice :=
  ((List.finRange 16).filter fun m => (s.mute.recs[micSource m]).ask && losesHolds s u m).map fun m => .unmute m false .cleared

/-- Every envelope after an event that leads from `s` to `u`: a target changes with its ramp code, the value does not jump (R59
to R61). -/
def EnvelopesFollow (s u : State) : Prop :=
  ∀ i : Fin 26, u.env[i] =
    if u.targetOf i = (s.env[i]).target then s.env[i]
    else { value := (s.env[i]).value, target := u.targetOf i
           code := match sourceMic i with
             | some m => if s.holdSet i = u.holdSet i then (u.lead (u.micPart m)).gateCode else u.live.muteCode
             | none => u.live.muteCode }

/-- What goes with a change of hold sets from `s` to `u`: HOLDS and UNMUTE CLEARED on both queues, in this order (log 18), the
flags cleared, the gate of a microphone that takes its first hold closed, and the envelopes (R59, R60, R71, R85, R99). -/
def HoldsFollow (s u : State) : Prop :=
  (∀ q : Port, u.port q = (s.port q).postAll (holdsPosted s u ++ asksCleared s u))
  ∧ (∀ m : Fin 16, (u.mute.recs[micSource m]).ask = ((s.mute.recs[micSource m]).ask && !losesHolds s u m))
  ∧ (∀ m : Fin 16, u.gates[m] =
      if takesHold s u m = true ∧ (s.gates[m]).state ≠ .closed then { state := .closed, counter := 0 } else s.gates[m])
  ∧ EnvelopesFollow s u

/-- The link has left use for good, or has never been in it (R78, R85): PRIVACY and UNMUTE_ASK go with it. -/
def LinkState.out (st : LinkState) : Bool := decide (st = .down ∨ st = .detached ∨ st = .fault)

/-- What a change of link `i` from its state in `s` to that in `u` posts, in the order of R140: LINK, HOLDS, UNMUTE, and FLOOR
REMOVED for the entries that R118 removes. -/
def linkPosted (s u : State) (i : Fin 16) (cause : LinkCause) (code : Option Byte) : List Notice :=
  let st := (u.links[i]).state
  let p := s.micPart i
  [.link i (s.links[i]).state st cause code] ++ holdsPosted s u
    ++ (if st.out then (if (s.mute.recs[micSource i]).ask then [.unmute i false .link] else []) else asksCleared s u)
    ++ (if st.out || decide (st = .doze) then
          ((s.floors[p]).grants.filter fun g => decide (g.mic = i)).map (fun g => .floor p g.mic .removed)
            ++ ((s.floors[p]).queue.filter fun e => decide (e.mic = i)).map fun e => .floor p e.mic .removed
        else [])

/-- The notices of link `i`'s change of state are on both queues. -/
def LinkPosts (s u : State) (i : Fin 16) (cause : LinkCause) (code : Option Byte) : Prop :=
  ∀ q : Port, u.port q = (s.port q).postAll (linkPosted s u i cause code)

/-- No link changes its state between `s` and `t`, and no link in FAULT has a handshake pending. -/
def LinksStay (s t : State) : Prop :=
  ∀ i : Fin 16, (t.links[i]).state = (s.links[i]).state ∧ ((s.links[i]).state = .fault → (s.links[i]).handshake = .none)

/-- The walls and the regroup machine of `s` after the three samples of a boundary: each wall's count and sensed state, its
effective state where the sensed state changes, and the cause where that changes it (R18, R19, R24, R31). The walls come in
ascending number (log 18). -/
def wallsSampled (sense : Sense) (s : State) : State :=
  (List.finRange 3).foldl
    (fun v w =>
      let old := s.walls[w]
      let level := levelWall sense[w]
      let eff := effectiveOf s.live.wall[w] level
      let setWall : WallRec → State := fun r => { v with walls := v.walls.set w.val r }
      if level = old.sensed then setWall { old with count := 0 }
      else if old.count < 49 then setWall { old with count := old.count + 1 }
      else
        let u := setWall { sensed := level, count := 0, effective := eff }
        if eff = old.effective then u else regroupCause true u)
    { s with rg := { s.rg with fresh := s.rg.fresh && s.rg.pre } }

/-- The switch stands to be made: FADING_OUT, every affected bus at 0, the test of the boundary not yet taken (R28, R32; log 39). -/
def SwitchStands (g : Regroup) : Prop :=
  g.state = .fadingOut ∧ g.tested = false ∧ ∀ b : Fin 26, g.affected[b] = true → g.r[b] = 0

/-- The regroup stands to end: FADING_IN entered before the boundary concerned, every touched bus at 32768 (R31). -/
def EndStands (g : Regroup) : Prop :=
  g.state = .fadingIn ∧ (g.fresh = false ∨ g.pre = false) ∧ ∀ b : Fin 26, g.touched[b] = true → g.r[b] = 32768

/-- No batch is committed and no switch can come at the boundary about to be taken. -/
def NoSwitchDue (s : State) : Prop := s.portA.committed = [] ∧ s.portB.committed = [] ∧ s.rg.state ≠ .fadingOut

end Sys2Proof.Machine
end

