-- ==== Sys2Proof/Certificates/Slice0/Obligations.lean ====
section
/-! DEFINITION. The statements for the provers. -/

open Sys2Proof Sys2Proof.Machine Host

/-! ## The queue, reset and the reset pin -/

/-- A step runs the command at the front of the queue on the rest of the queue; on an empty queue the part idles (log 2). -/
def Obligations.StepRunsFrontCommand : Prop :=
  (∀ (c : Instr) (rest : List Instr) (s : State), step { s with pending := c :: rest } = exec c { s with pending := rest })
  ∧ ∀ s : State, s.pending = [] → step s = .next s

/-- No command reads or changes the commands that wait behind it. -/
def Obligations.StepTakesOneCommand : Prop :=
  ∀ (c : Instr) (rest : List Instr) (s t : State), s.pending = c :: rest → step s = .next t → t.pending = rest

/-- R170: RESET_N driven low holds the part, ends the downstream frames and drives zeros, both attention lines are released,
and nothing else moves; a held part takes no command but START_UP and RESET_N_ASSERTED. -/
def Obligations.ResetPinHoldsThePart : Prop :=
  (∀ s : State,
    exec .resetAsserted s =
        .next { s with held := true, down := same 16 none, audio := { s.audio with tdmOut := same 8 0, lineOut := same 2 0 } }
    ∧ ∀ t p, exec .resetAsserted s = .next t → t.attention p = false)
  ∧ ∀ (c : Instr) (s : State), s.held = true → (∀ k w a, c ≠ .startUp k w a) → c ≠ .resetAsserted → exec c s = .next s

/-- R18 to R20, R23, R127, R137, R143, R162, R170: START_UP with no page operation in flight judges the pages and starts from page
0's image and power-on record, or from the factory defaults. The sensed states are the levels at the pins, the map in force is
that of the effective states, every link of the auto-up set is armed, and every unit stands at its start-up values. What Port A
was sending or had still to send is gone (the model's choice: log 44), and the numbering of the sample periods restarts (the model's
choice: log 40). -/
def Obligations.StartUpLoadsPageZero : Prop :=
  ∀ (cause : PinCause) (sense : Sense) (address : Fin 8) (s : State), s.scene.job = none →
    let g := s.scene.pages[0]
    let ok := decide (g.flag = 1 ∧ g.check = g.contents.check)
    let start : Notice := .start (causeOf cause) (!ok)
    ∃ t, exec (.startUp cause sense address) s = .next t
      ∧ t.held = false ∧ t.pins = { sense := sense, address := address } ∧ t.pending = s.pending ∧ t.periods = 0
      ∧ t.live = (if ok then g.contents.image else factoryImage)
      ∧ (∀ r : PowerOn, (ok = true ∧ g.contents.powerOn = some r) ∨ (ok = false ∧ r =
            { profileA := .full, profileB := .conference, rate := .r38400, echo := false, follow := false, autoReport := false
              autoUp := same 16 true }) →
          t.portA.profile = r.profileA ∧ t.portB.profile = r.profileB ∧ t.autoUp = r.autoUp ∧ t.rate = r.rate
          ∧ t.lineA =
            { echo := r.echo, follow := r.follow, autoReport := r.autoReport, rx := [], buf := [], long := false
              overrun := false, followEntry := none, followReady := false, responses := []
              sending := if r.autoReport then some (.notice start) else none
              released := 0, echoOpen := false, echoWait := [], echoOut := [] })
      ∧ (∀ q : Port, t.port q =
          { profile := (t.port q).profile, cursor := { table := .crosspoint, view := .live, index := 0 }, batch := none
            committed := [], keep := none, queue := [start], overflow := false })
      ∧ t.recB.status = .ok ∧ t.recB.code = 0 ∧ t.recB.data = []
      ∧ (∀ w : Fin 3,
          let level : WallState := match sense[w] with | .low => .closed | .high => .opened
          t.walls[w] = { sensed := level, count := 0, effective :=
            match t.live.wall[w] with | .follow => level | .opened => .opened | .closed => .closed })
      ∧ t.rg.map = mapOf (tab fun w => (t.walls[w]).effective) ∧ t.rg.pendMap = t.rg.map ∧ t.rg.state = .steady
      ∧ (∀ i : Fin 26, t.rg.pendSrc[i] = (t.live.src[i]).sect ∧ t.rg.pendBus[i] = (t.live.bus[i]).sect)
      ∧ t.rg.changes = [] ∧ t.rg.affected = same 26 false ∧ t.rg.touched = same 26 false ∧ t.rg.applyMark = none
      ∧ (∀ i : Fin 16, let l := t.links[i]
          l.state = .down ∧ l.requested = .nop ∧ l.armed = t.autoUp[i] ∧ l.autoPending = t.autoUp[i] ∧ l.autoWait = false
          ∧ l.dozeRefused = false ∧ l.handshake = .none ∧ l.hsTimer = 0 ∧ l.attemptCount = 0 ∧ l.attemptTimer = 0 ∧ l.run = 0
          ∧ l.lock = false ∧ l.badRun = 0 ∧ l.residency = 0 ∧ l.identity = none ∧ l.faultCode = none ∧ l.badCount = 0
          ∧ l.retrainCount = 0 ∧ l.faultCount = 0 ∧ l.lastBit = true ∧ l.wasActive = false ∧ l.arrival = none
          ∧ l.hsFresh = false ∧ l.attemptFresh = false ∧ l.residencyFresh = false)
      ∧ (∀ b : Fin 26, t.rg.r[b] = 0 ∧ t.audio.busPeak[b] = 0 ∧ t.mix.busClip[b] = 0)
      ∧ (∀ i : Fin 26, t.env[i] = { value := 0, target := if i.val < 16 then 0 else 32768, code := t.live.muteCode }
          ∧ t.audio.peak[i] = 0 ∧ t.audio.noise[i] = 8388607 ∧ t.mix.srcClip[i] = 0
          ∧ t.mute.recs[i] = { priv := false, chair := false, far := false, ask := false })
      ∧ t.mute.groupMuted = same 8 false ∧ t.mute.quiet = same 4 false
      ∧ (∀ m : Fin 16, t.gates[m] = { state := .closed, counter := 0 }) ∧ (∀ q : Fin 4, t.floors[q] = emptyFloor)
      ∧ t.mix.snap = none ∧ t.audio.sync = .lost ∧ t.audio.syncCount = 0
      ∧ t.audio.computed = same 26 silence ∧ t.audio.sending = same 26 silence
      ∧ (∀ k : Fin 32, t.scene.pages[k] =
          { s.scene.pages[k] with
            mark := decide ((s.scene.pages[k]).flag = 1 ∧ (s.scene.pages[k]).check = (s.scene.pages[k]).contents.check) })
      ∧ t.scene.job = none ∧ (∀ b : Fin 2, (t.scene.bufs[b]).status = .empty ∧ (t.scene.bufs[b]).lock = .free)

/-- R168, R170: what a start-up event makes of the page operation in flight. A STORE, an ERASE, or an AMEND whose erase stage
has begun leaves its page invalid, and that its valid flag reads 0 is the model's choice of the two that R168 leaves (log 32); the page
of a LOAD, or of an AMEND before its erase stage, and every other page, is as it was, its mark judged. START is the only notice,
and the buffers are EMPTY. -/
def Obligations.StartUpBreaksPageOperation : Prop :=
  ∀ (cause : PinCause) (sense : Sense) (address : Fin 8) (s : State) (j : Job), s.scene.job = some j →
    let broken : Prop := j.op = .store ∨ j.op = .erase ∨ (j.op = .amend ∧ j.erased = true)
    ∃ t, exec (.startUp cause sense address) s = .next t ∧ t.scene.job = none
      ∧ (∀ q : Port, (t.port q).queue = [.start (causeOf cause) (!(t.scene.pages[0]).mark)])
      ∧ (broken → (t.scene.pages[j.page]).mark = false ∧ (t.scene.pages[j.page]).flag = 0)
      ∧ (∀ k : Fin 32, k ≠ j.page ∨ ¬broken → t.scene.pages[k] =
          { s.scene.pages[k] with
            mark := decide ((s.scene.pages[k]).flag = 1 ∧ (s.scene.pages[k]).check = (s.scene.pages[k]).contents.check) })
      ∧ (∀ b : Fin 2, (t.scene.bufs[b]).status = .empty ∧ (t.scene.bufs[b]).lock = .free)

/-- R18 to R20, R23, R170: CLEAR under the FULL profile is the start-up event with cause CLEAR, without a response, on the levels at
the wall sense lines at the event, which come from outside and are free here (log 23): the sensed states are those levels, and the
map in force is that of the effective states. The Port B address pins stand as at START_UP (log 23), the responses that waited on
Port A are gone (log 44), and the numbering of the sample periods restarts (log 40). -/
def Obligations.ClearIsStartUp : Prop :=
  ∀ (p : Port) (s : State), Ready s p .system →
    let sense : Sense := tab fun w => if Config.senseHigh s.freeCount w then .high else .low
    ∃ t, exec (.clear p) s = .next t
      ∧ t = settleLine (startUp .clear { sense := sense, address := s.pins.address } { s with freeCount := s.freeCount + 1 })
      ∧ t.pins = { sense := sense, address := s.pins.address } ∧ s.freeCount < t.freeCount
      ∧ (∀ w : Fin 3,
          let level : WallState := if Config.senseHigh s.freeCount w then .opened else .closed
          t.walls[w] = { sensed := level, count := 0, effective :=
            match t.live.wall[w] with | .follow => level | .opened => .opened | .closed => .closed })
      ∧ t.rg.map = mapOf (tab fun w => (t.walls[w]).effective)
      ∧ t.rg.state = .steady ∧ t.rg.changes = [] ∧ (∀ b : Fin 26, t.rg.r[b] = 0)
      ∧ (∃ d, t.portA.queue = [.start .clear d] ∧ t.portB.queue = [.start .clear d])
      ∧ t.lineA.responses = [] ∧ t.recB = startRecB

/-- R144, R145, R170: no command but a start-up event gives a port a class of request that it could not make before. (`n` is the
model's count of free values, which a CLEAR moves on: log 23.) -/
def Obligations.OnlyStartUpRaisesProfile : Prop :=
  ∀ (c : Instr) (s t : State), exec c s = .next t →
    (∀ p k, allows (t.port p).profile k = true → allows (s.port p).profile k = true)
    ∨ ∃ cause pins n, t = settleLine (startUp cause pins { s with freeCount := n })

/-! ## Arithmetic, envelopes and the mix -/

/-- R34: the rounding operator is the floor of (v + 2^(k-1)) / 2^k, it is the nearest integer with halves going up, and a
product of two factors of 2^15 rounded at 30 bits is the sample itself. -/
def Obligations.RoundingGoesToNearest : Prop :=
  (∀ (k : Nat) (v : Int), 0 < k →
    roundAt k v = Int.fdiv (v + 2 ^ (k - 1)) (2 ^ k)
    ∧ (∀ n : Int, |v - 2 ^ k * roundAt k v| ≤ |v - 2 ^ k * n|)
    ∧ (∀ n : Int, |v - 2 ^ k * roundAt k v| = |v - 2 ^ k * n| → n ≤ roundAt k v))
  ∧ (∀ x : Sample, roundAt 30 (x.toInt * 32768 * 32768) = x.toInt)
  ∧ [(6 : Int), 5, 7, -5, -6, -7].map (roundAt 2) = [2, 1, 2, -1, -1, -2]

/-- R55, R56: a ramp stands at its target after exactly its length of steps, and not before; it never passes its target. -/
def Obligations.RampTakesItsLength : Prop :=
  ∀ (e : Env) (n : Nat),
    let f : Nat → Env := fun k => Env.step^[k] e
    (f n).target = e.target ∧ (f n).code = e.code
    ∧ ((f n).value = e.target ↔ rampLength (max (e.value - e.target) (e.target - e.value)) (rampStep e.code) ≤ n)
    ∧ min e.value e.target ≤ (f n).value ∧ (f n).value ≤ max e.value e.target

/-- R26, R36, R37, R40 to R44, R51, R53: a sample period under a snapshot steps every envelope, and computes every bus from
the stepped envelopes; sums leave out what does not contribute; clips are counted. -/
def Obligations.SamplePeriodComputesTheMix : Prop :=
  ∀ (tdm : Vector SlotWord 8) (chan : Vector SlotWord 2) (s : State) (k : Snapshot),
    s.held = false → s.mix.snap = some k → s.periods < 48 →
    let e : Fin 26 → Nat := fun i => stepToward (s.env[i]).value (s.env[i]).target (rampStep (s.env[i]).code)
    let r : Fin 26 → Nat := fun b => stepToward s.rg.r[b] (s.rg.target b) s.rg.step
    let y0 : Fin 26 → Int := fun i =>
      roundAt 30 (((s.audio.input[i])[s.periods]!).toInt * k.trim[i] * ((e i * k.factor[i] / 32768 : Nat) : Int))
    let acc : Fin 26 → Int := fun b =>
      ((sources.filter (contributes k.map k.srcSect k.busSect b)).map fun i =>
        (saturate (y0 i)).toInt * (k.xpt[b.val * 26 + i.val]! : Int)).sum
    let z : Fin 26 → Int := fun b => roundAt 30 (acc b * ((k.gain[b] * r b / 32768 : Nat) : Int))
    ∃ t, exec (.samplePeriod tdm chan) s = .next t
      ∧ (∀ i : Fin 26, (t.env[i]).value = e i) ∧ (∀ b : Fin 26, t.rg.r[b] = r b)
      ∧ (∀ b : Fin 26, ((t.audio.computed[b])[s.periods]!) = saturate (z b))
      ∧ (∀ i : Fin 26, t.mix.srcClip[i] = if outOfRange (y0 i) then min (s.mix.srcClip[i] + 1) (max 65535 s.mix.srcClip[i]) else s.mix.srcClip[i])
      ∧ (∀ b : Fin 26, t.mix.busClip[b] = if outOfRange (z b) then min (s.mix.busClip[b] + 1) (max 65535 s.mix.busClip[b]) else s.mix.busClip[b])
      ∧ t.periods = s.periods + 1

/-- R9, R12, R13, R53: in a sample period the far-end and line ports take their slots, count a good marker, and drive the
samples of the frame being sent with eight zero bits after each. Of the regroup machine only the bus ramps may move, of the
mix only the clip counters, and without a snapshot none of the mix moves. -/
def Obligations.SamplePeriodMovesPortSamples : Prop :=
  ∀ (tdm : Vector SlotWord 8) (chan : Vector SlotWord 2) (s : State), s.held = false → s.periods < 48 →
    ∃ t, exec (.samplePeriod tdm chan) s = .next t
      ∧ (∀ j : Fin 8, ∀ k : Fin 48, (t.audio.tdmIn[j])[k] =
          if k.val = s.periods then (tdm[j]).extractLsb' 8 24 else (s.audio.tdmIn[j])[k])
      ∧ (∀ j : Fin 2, ∀ k : Fin 48, (t.audio.lineIn[j])[k] =
          if k.val = s.periods then (chan[j]).extractLsb' 8 24 else (s.audio.lineIn[j])[k])
      ∧ (∀ j : Fin 8, t.audio.tdmOut[j] = ((s.audio.sending[16 + j.val]!)[s.periods]!) ++ (0#8))
      ∧ (∀ j : Fin 2, t.audio.lineOut[j] = ((s.audio.sending[24 + j.val]!)[s.periods]!) ++ (0#8))
      ∧ t.audio.tdmGood = s.audio.tdmGood + (if (tdm[0]).extractLsb' 0 8 = 0xA5#8 then 1 else 0)
      ∧ t = { s with periods := s.periods + 1, audio := t.audio, mix := t.mix, env := t.env, rg := t.rg, lineA := t.lineA }
      ∧ t.audio = { s.audio with computed := t.audio.computed, tdmIn := t.audio.tdmIn, tdmGood := t.audio.tdmGood,
                                 lineIn := t.audio.lineIn, tdmOut := t.audio.tdmOut, lineOut := t.audio.lineOut }
      ∧ t.rg = { s.rg with r := t.rg.r } ∧ t.mix.snap = s.mix.snap
      ∧ (∀ i : Fin 26, (t.env[i]).target = (s.env[i]).target ∧ (t.env[i]).code = (s.env[i]).code)
      ∧ (∀ b : Fin 26, ∀ k : Fin 48, k.val ≠ s.periods → (t.audio.computed[b])[k] = (s.audio.computed[b])[k])
      ∧ (s.mix.snap = none → t.mix = s.mix ∧ t.env = s.env ∧ t.rg = s.rg ∧ t.audio.computed = s.audio.computed)

/-- R3, R41, R46: no computed sample of a bus depends on the input of a source that does not contribute to it, and a bus's
paired source never contributes: no pod or remote site hears itself, and no sound passes a closed wall. The 24 excluded
crosspoints are exactly those of the pairs. -/
def Obligations.BusIgnoresNonContributingSources : Prop :=
  (∀ (tdm : Vector SlotWord 8) (chan : Vector SlotWord 2) (s t t' : State) (k : Snapshot) (b i : Fin 26) (f : Frame),
    s.mix.snap = some k → contributes k.map k.srcSect k.busSect b i = false →
    exec (.samplePeriod tdm chan) s = .next t →
    exec (.samplePeriod tdm chan) { s with audio := { s.audio with input := s.audio.input.set i.val f } } = .next t' →
      t'.audio.computed[b] = t.audio.computed[b] ∧ t'.mix.busClip[b] = t.mix.busClip[b])
  ∧ (∀ (map : PartMap) (ss bs : Vector (Fin 4) 26) (b : Fin 26), b.val < 24 → contributes map ss bs b b = false)
  ∧ (∀ i : Fin 676, excluded i = true ↔ ∃ b : Nat, b < 24 ∧ i.val = b * 27)

/-! ## The frame boundary -/

/-- R4, R6, R7, R8, R11, R13, R14, R16, R88, R89, R124, R126: a boundary hands over the input and bus frames, measures them, and
begins the downstream frame of each link by its state and handshake. The indicator it carries is that of the state reached,
or, read first, that with the gates and floor records from before the boundary's decisions (the operand of log 3). R161, 9.11:
the 150 bytes of a downstream frame: the samples most significant byte first (log 21), the control slot, the frame check. -/
def Obligations.BoundaryHandsOverAndMeasures : Prop :=
  (∀ d : DownFrame,
    let b := d.bytes
    let at' : Nat → Byte := fun k => b.getD k 0
    b.length = 150
    ∧ (∀ k : Fin 48, at' (3 * k.val) ++ at' (3 * k.val + 1) ++ at' (3 * k.val + 2) = (d.samples)[k])
    ∧ at' 144 = (match d.command with | .none => 0x00 | .dozeReq => 0x01 | .detachReq => 0x02 | .retrainReq => 0x03)
    ∧ at' 145 = (match d.indicator with
        | .privateMuted => 0 | .heldAsking => 1 | .held => 2 | .warned => 3 | .live => 4 | .queued => 5 | .ready => 6)
    ∧ at' 146 = (match d.lock, d.echo with | false, false => 0 | false, true => 1 | true, false => 2 | true, true => 3)
    ∧ at' 147 = 0
    ∧ at' 148 ++ at' 149 = ((b.take 148).flatMap fun x => (List.range 8).map fun k => x.getLsbD (7 - k)).foldl
        (fun (c : BitVec 16) (v : Bool) => if c.msb = v then c <<< 1 else (c <<< 1) ^^^ 0x1021#16) 0xFFFF#16)
  ∧ ∀ (sense : Sense) (early : Bool) (s : State), s.held = false →
    ∃ t, exec (.frameBoundary sense early) s = .next t
      ∧ t.periods = 0 ∧ t.audio.sending = s.audio.computed ∧ t.audio.computed = same 26 silence
      ∧ (∀ b : Fin 26, t.audio.busPeak[b] = framePeak s.audio.computed[b])
      ∧ (∀ i : Fin 26, t.audio.peak[i] = framePeak t.audio.input[i])
      ∧ (∀ c : Fin 2, t.audio.input[24 + c.val]! = s.audio.lineIn[c])
      ∧ (∀ j : Fin 8, t.audio.input[16 + j.val]! = if t.audio.sync = .locked then s.audio.tdmIn[j] else silence)
      ∧ (∀ i : Fin 16, t.audio.input[micSource i] =
          if (s.links[i]).wasActive = true ∧ (t.links[i]).wasActive = true ∧ (s.links[i]).arrival.any Arrival.good = true
          then ((s.links[i]).arrival.map Arrival.samples).getD silence else silence)
      ∧ (∀ i : Fin 16, (t.links[i]).arrival = none ∧ (t.links[i]).wasActive = decide ((t.links[i]).state = .active))
      ∧ (∀ i : Fin 16,
          let l := t.links[i]
          let training : Prop := l.state = .training ∨ l.state = .retrain
          (l.state = .detached → t.down[i] = none)
          ∧ (l.state ≠ .detached → ∃ d, t.down[i] = some d
            ∧ (∀ k : Fin 48, (d.samples)[k] =
                if l.state = .active then (s.audio.computed[micSource i])[k]
                else if training then (if k.val % 2 = 0 then 0x555555 else 0xAAAAAA) else 0)
            ∧ d.command =
                (if l.state = .down ∨ l.state = .fault then .none else if l.handshake = .detach then .detachReq
                 else if l.state = .active ∧ l.handshake = .doze then .dozeReq
                 else if l.state = .retrain ∧ l.lock = false then .retrainReq else .none)
            ∧ d.echo = l.lastBit ∧ (d.lock = true ↔ training ∧ l.lock = true)
            ∧ (NoSwitchDue s → early = false → d.indicator = t.indicator i)
            ∧ (NoSwitchDue s → early = true → LinksStay s t →
                d.indicator = ({ t with gates := s.gates, floors := s.floors } : State).indicator i)))

/-- R9, R10: the sync state and count after a boundary, by the state and count before it and the judgment of the TDM frame, and
the SYNC notices of the boundary: one at each change, and no other. -/
def Obligations.BoundaryJudgesSync : Prop :=
  ∀ (sense : Sense) (early : Bool) (s t : State), s.held = false → exec (.frameBoundary sense early) s = .next t →
    (s.audio.tdmGood = 48 → s.audio.sync = .lost → s.audio.syncCount = 0 → t.audio.sync = .lost ∧ t.audio.syncCount = 1)
    ∧ (s.audio.tdmGood = 48 → s.audio.sync = .lost → s.audio.syncCount = 1 → t.audio.sync = .locked ∧ t.audio.syncCount = 2)
    ∧ (s.audio.tdmGood = 48 → s.audio.sync = .locked → t.audio.sync = .locked)
    ∧ (s.audio.tdmGood ≠ 48 → t.audio.sync = .lost ∧ t.audio.syncCount = 0)
    ∧ ∀ p : Port, (t.port p).overflow = false → ∃ news, (t.port p).queue = (s.port p).queue ++ news
        ∧ (news.filter fun n => match n with | .sync _ => true | _ => false)
            = if t.audio.sync = s.audio.sync then [] else [.sync t.audio.sync]

/-- R15: the noise tracker after a boundary, for a source whose link was and is ACTIVE, for one whose link is not, and for a
far-end or line source. -/
def Obligations.BoundaryTracksNoise : Prop :=
  ∀ (sense : Sense) (early : Bool) (s t : State) (i : Fin 26), s.held = false →
    exec (.frameBoundary sense early) s = .next t →
    let n := s.audio.noise[i]
    let updated := min (min t.audio.peak[i] (n + n / 4096 + 1)) 8388607
    (16 ≤ i.val → t.audio.noise[i] = updated)
    ∧ ∀ m : Fin 16, i = micSource m →
        t.audio.noise[i] = if (s.links[m]).wasActive = true ∧ (t.links[m]).wasActive = true then updated else n

/-- R22, R26, R37, R38, R48: a boundary takes a snapshot of the tables, the map and the derived modes, and every factor is that of the
table, 32768 for a source of a partition that is not GATED. The snapshot is taken before the boundary's batches and switch: the
model's choice of the two orders of R49 and R50 (log 3); where none is due the factor of a microphone of a GATED partition is the
table's entry at the open count reached, or, where its slot was evaluated ahead of the boundary, at the count which that evaluation
handed over (R98, R99; log 1). It also reads the bus ramp code into the step in force of the bus ramps, as the batches due there
leave it and before a switch there (log 3). -/
def Obligations.BoundaryTakesSnapshot : Prop :=
  ∀ (sense : Sense) (early : Bool) (s t : State), s.held = false → exec (.frameBoundary sense early) s = .next t →
    ∃ k, t.mix.snap = some k ∧ k.xpt = s.live.xpt ∧ k.map = s.rg.map
      ∧ (∀ i : Fin 26, k.trim[i] = (s.live.src[i]).trim ∧ k.srcSect[i] = (s.live.src[i]).sect)
      ∧ (∀ b : Fin 26, k.gain[b] = (s.live.bus[b]).gain ∧ k.busSect[b] = (s.live.bus[b]).sect)
      ∧ (∀ i : Fin 26, k.factor[i] ∈ [32768, 23170, 18918, 16384, 14654, 13377, 12385, 11585])
      ∧ (∀ q : Fin 4, k.modes[q] = s.mode q)
      ∧ (∀ i : Fin 26, (16 ≤ i.val ∨ s.mode (s.partOf (s.live.src[i]).sect) ≠ .gated) → k.factor[i] = 32768)
      ∧ (NoSwitchDue s → ∀ m : Fin 16, t.mode (t.micPart m) = .gated →
          let count := (s.ahead.counts[t.micPart m]).getD ((List.finRange 16).filter fun x =>
            decide (t.micPart x = t.micPart m ∧ (t.gates[x]).state ≠ .closed)).length
          k.factor[micSource m] = [32768, 32768, 23170, 18918, 16384, 14654, 13377, 12385, 11585].getD (min count 8) 0)
      ∧ (let code := (((s.portA.committed ++ s.portB.committed).flatMap (·.entries)).foldl Image.write s.live).busCode
         (code = 0 → t.rg.step = 342) ∧ (code = 1 → t.rg.step = 137) ∧ (code = 2 → t.rg.step = 69) ∧ (code = 3 → t.rg.step = 35))

/-! ## Walls, partitions and the regroup machine -/

/-- R20: two sections share a partition exactly when every wall between them is effectively OPEN; the identifier is the lowest
section of the partition; and the eight maps are those of the table. -/
def Obligations.MapJoinsOpenWalls : Prop :=
  (∀ (eff : Vector WallState 3) (a b : Fin 4), a ≤ b →
    ((mapOf eff)[a] = (mapOf eff)[b] ↔ ∀ w : Fin 3, a.val ≤ w.val → w.val < b.val → eff[w] = .opened))
  ∧ (∀ (eff : Vector WallState 3) (a : Fin 4), (mapOf eff)[(mapOf eff)[a]] = (mapOf eff)[a] ∧ (mapOf eff)[a] ≤ a)
  ∧ [#v[WallState.closed, .closed, .closed], #v[.opened, .closed, .closed], #v[.closed, .opened, .closed],
     #v[.closed, .closed, .opened], #v[.opened, .opened, .closed], #v[.opened, .closed, .opened],
     #v[.closed, .opened, .opened], #v[.opened, .opened, .opened]].map mapOf
    = [#v[(0 : Fin 4), 1, 2, 3], #v[0, 0, 2, 3], #v[0, 1, 1, 3], #v[0, 1, 2, 2], #v[0, 0, 0, 3], #v[0, 0, 2, 2],
       #v[0, 1, 1, 1], #v[0, 0, 0, 0]]

/-- R18, R19, R24 to R28: each wall's debounce count and sensed state after a boundary, by the level sampled there; where the
sensed state changes, the effective state, the WALL notice (those of the samples in ascending wall number, log 18, before those of a
switch there, R29) and, where the effective state changes, the cause: the regroup machine is that of the causes, unless a switch is
made or the regroup ends there, and a cause outside FADING_OUT starts the fade-out, with no switch at that boundary (log 39). And
WALL_SENSE_CHANGE, the count standing at 49, flips the sensed state, clears the count, posts the WALL notice, and is a cause
only where the effective state changes. That the row is taken ahead of FRAME_BOUNDARY is the model's choice (log 1), and that
its cause is tested at the next boundary only is log 39. -/
def Obligations.WallSensesAreDebounced : Prop :=
  (∀ (sense : Sense) (early : Bool) (s t : State), s.held = false → exec (.frameBoundary sense early) s = .next t →
    let v := wallsSampled sense s
    let sampled : Fin 3 → WallState := fun w => levelWall sense[w]
    let eff : Fin 3 → WallState := fun w => effectiveOf s.live.wall[w] (sampled w)
    let flips : Fin 3 → Prop := fun w => sampled w ≠ (s.walls[w]).sensed ∧ 49 ≤ (s.walls[w]).count
    let causes : Fin 3 → Prop := fun w => flips w ∧ eff w ≠ (s.walls[w]).effective
    (∀ w : Fin 3,
      let old := s.walls[w]
      let new := t.walls[w]
      (sampled w = old.sensed → new.sensed = old.sensed ∧ new.count = 0)
      ∧ (sampled w ≠ old.sensed → old.count < 49 → new.sensed = old.sensed ∧ new.count = old.count + 1)
      ∧ (sampled w ≠ old.sensed → 49 ≤ old.count → new.sensed = sampled w ∧ new.count = 0)
      ∧ (¬SwitchStands v.rg → (flips w → new.effective = eff w) ∧ (¬flips w → new.effective = old.effective))
      ∧ (causes w → (∀ x : Fin 3, causes x → x = w) → s.rg.state ≠ .fadingOut →
          t.rg.state = .fadingOut ∧ t.rg.map = s.rg.map ∧ t.rg.changes = s.rg.changes
          ∧ ∀ b : Fin 26, t.rg.target b = if t.rg.affected[b] = true then 0 else 32768))
    ∧ ((∀ w : Fin 3, ¬causes w) → v.rg = { s.rg with fresh := s.rg.fresh && s.rg.pre })
    ∧ (¬SwitchStands v.rg → ¬EndStands v.rg →
        t.rg = { v.rg with step := t.rg.step, pre := false, tested := false, noEval := same 4 false })
    ∧ ∀ p : Port, (t.port p).overflow = false ∨ (t.port p).queue.length < 32 →
        ∃ news, (t.port p).queue = (s.port p).queue ++ news
          ∧ (news.filter fun n => match n with | .wall _ _ _ _ => true | _ => false)
            = (((List.finRange 3).filter fun w => decide (flips w)).map fun w => .wall w (sampled w) s.live.wall[w] (eff w))
              ++ (((List.finRange 3).filter fun w => decide ((v.walls[w]).effective ≠ (t.walls[w]).effective)).map fun w =>
                    .wall w (t.walls[w]).sensed t.live.wall[w] (t.walls[w]).effective))
  ∧ ∀ (w : Fin 3) (s : State), s.held = false → (s.walls[w]).count = 49 →
    let level := (s.walls[w]).sensed.flip
    let eff := effectiveOf s.live.wall[w] level
    let u := State.post { s with walls := s.walls.set w.val { sensed := level, count := 0, effective := eff } }
      [.wall w level s.live.wall[w] eff]
    exec (.wallSenseChange w) s = .next (settleLine (if eff = (s.walls[w]).effective then u else regroupCause true u))

/-- R23, R25, R27, R28, R31, R33: what a cause does in each state. The pending map and fields are derived from the pending
changes (or the image an APPLY places) and the present sensed states; the affected set is where contributing sets differ, or
all buses under the apply mark. STEADY and FADING_IN go to FADING_OUT, the touched set growing; a cause that cancels the
fade-out goes to FADING_IN without a switch. `tested` marks a cause of a boundary, which makes no switch there (log 39). -/
def Obligations.CauseStartsFadeOut : Prop :=
  ∀ (timed : Bool) (s : State),
    let t := regroupCause timed s
    let img : Image := match s.rg.applyMark, s.rg.applyDue with
      | some b, true => (s.scene.bufs[b]).image
      | _, _ => (s.rg.changes.flatMap (·.batch.entries)).foldl Image.write s.live
    let affects : Fin 26 → Prop := fun b => s.rg.applyMark.isSome = true ∨ ∃ i : Fin 26,
      contributes s.rg.map (tab fun x => (s.live.src[x]).sect) (tab fun x => (s.live.bus[x]).sect) b i
        ≠ contributes t.rg.pendMap t.rg.pendSrc t.rg.pendBus b i
    let cancels : Prop := s.rg.state = .fadingOut ∧ s.rg.applyMark = none ∧ t.rg.pendMap = s.rg.map ∧ s.rg.changes = []
    t = { s with rg := t.rg } ∧ t.rg.map = s.rg.map ∧ t.rg.r = s.rg.r ∧ t.rg.changes = s.rg.changes
    ∧ t.rg.applyMark = s.rg.applyMark ∧ t.rg.applyDue = s.rg.applyDue ∧ t.rg.switched = s.rg.switched ∧ t.rg.step = s.rg.step
    ∧ t.rg.noEval = s.rg.noEval
    ∧ t.rg.pendMap = mapOf (tab fun w => effectiveOf img.wall[w] (s.walls[w]).sensed)
    ∧ (∀ i : Fin 26, t.rg.pendSrc[i] = (img.src[i]).sect ∧ t.rg.pendBus[i] = (img.bus[i]).sect)
    ∧ (∀ b : Fin 26, t.rg.touched[b] = true ↔ s.rg.touched[b] = true ∨ affects b)
    ∧ (cancels → t.rg.state = .fadingIn ∧ t.rg.affected = same 26 false ∧ ∀ b : Fin 26, t.rg.target b = 32768)
    ∧ (¬cancels → t.rg.state = .fadingOut ∧ (∀ b : Fin 26, t.rg.affected[b] = true ↔ affects b)
        ∧ ∀ b : Fin 26, t.rg.target b = if t.rg.affected[b] = true then 0 else 32768)
    ∧ t.rg.tested = (s.rg.tested || (timed && decide (s.rg.state ≠ .fadingOut)))

/-- R20, R23, R29: after any step the map in force and the pending map are maps of the table, changes wait only in
FADING_OUT, and in STEADY the pending map is the map in force and both sets are empty. -/
def Obligations.EveryStepKeepsRegroupMachine : Prop :=
  ∀ s t : State, RegroupClean s.rg ∧ MapsLegal s → step s = .next t → RegroupClean t.rg ∧ MapsLegal t

/-- R28, R29, R170: only the rows of a boundary at which a switch can stand, and the start-up event, change the map in force,
and those rows only in FADING_OUT; the REGROUP_SWITCH row changes it to the pending map. That the boundary's test must be one
still to be taken (one test at a boundary, and none for a cause of that same boundary) is the model's reading: log 39. (`n` is the model's count of free values, which a CLEAR
moves on: log 23.) -/
def Obligations.MapChangesOnlyAtSwitch : Prop :=
  ∀ (c : Instr) (s t : State), exec c s = .next t → t.rg.map ≠ s.rg.map →
    (s.rg.state = .fadingOut ∧ s.rg.tested = false
      ∧ ((c = .regroupSwitch ∧ t.rg.map = s.rg.pendMap) ∨ ∃ sense early, c = .frameBoundary sense early))
    ∨ ∃ cause pins n, t = settleLine (startUp cause pins { s with freeCount := n })

/-- R18, R19, R24, R28 to R30, R32, R66, R84, R102, R116, R119 to R121, R152, R169: the switch test. Not due, or taken already
(the mark of log 39), nothing happens. Due, where a slot's floor work was taken ahead the others take theirs (R120; log 1), and the
committed lists are applied first, Port A's before Port B's (log 3); then the pending changes (or the applied image) are placed,
the map in force becomes the pending map, FADING_IN is entered, and the owners rebuild their records: unchanged partitions keep
theirs, changed ones lose gates and quiet, and their floor record is gathered from the entries whose sources lie in them now:
without chair microphones, in the order of the one old record or by count, trimmed to the speaker limit, or emptied where the
partition is not CHAIRED or an APPLY changed its mode (log 30). Notices: BATCH, WALL, FLOOR, HOLDS, UNMUTE (log 18). A target that
changes takes the ramp code as the switch leaves it (log 36). The touched buses have target 0 through the frame that follows, the apply mark stands, and the changed slots are not
evaluated at that boundary. FRAME_BOUNDARY makes the same switch where it stands to be made after the walls' samples, on the state
that its earlier work reaches (the order: log 3), and a capture due there comes after it (log 3). -/
def Obligations.RegroupSwitchPlacesChanges : Prop :=
  (∀ s : State, s.held = false →
    let due : Prop := SwitchStands s.rg
    (¬due → exec .regroupSwitch s = .next (settleLine s))
    ∧ (due → (∃ q : Fin 4, s.ahead.floors[q] = true) →
        let u := (List.finRange 4).foldl (fun u q =>
          let piece := floorPiece q (s.lead q) s.floors[q]
          if s.slotIn .chaired q = true ∧ s.ahead.floors[q] = false
          then retarget u (State.post { u with floors := u.floors.set q.val piece.1 } piece.2) else u) s
        exec .regroupSwitch s = exec .regroupSwitch { u with ahead := { u.ahead with floors := same 4 true } })
    ∧ (due → s.ahead.floors = same 4 false ∨ s.ahead.floors = same 4 true →
        exec .regroupSwitch s = exec .regroupSwitch (applyCommitted .b (applyCommitted .a s)))
    ∧ (due → s.ahead.floors = same 4 false ∨ s.ahead.floors = same 4 true → s.portA.committed = [] → s.portB.committed = [] →
        ∃ (t : State) (fl : Fin 4 → List Notice), exec .regroupSwitch s = .next t
          ∧ t = { s with live := t.live, walls := t.walls, rg := t.rg, mute := t.mute, gates := t.gates, floors := t.floors,
                         ahead := t.ahead, env := t.env, scene := t.scene, portA := t.portA, portB := t.portB, lineA := t.lineA }
          ∧ t.rg = { s.rg with state := .fadingIn, map := s.rg.pendMap, changes := [], affected := same 26 false, applyDue := false
                               switched := true, fresh := true, pre := true, tested := true, bySwitch := true
                               noEval := t.rg.noEval }
          ∧ (∀ b : Fin 26, t.rg.target b = if s.rg.touched[b] = true then 0 else 32768)
          ∧ (s.rg.applyFrom = none → t.live = (s.rg.changes.flatMap (·.batch.entries)).foldl Image.write s.live
              ∧ t.scene = s.scene)
          ∧ (∀ b, s.rg.applyFrom = some b → t.live = (s.scene.bufs[b]).image
              ∧ t.scene = { s.scene with bufs := s.scene.bufs.set b.val { s.scene.bufs[b] with lock := .free } })
          ∧ (∀ w : Fin 3, t.walls[w] = { s.walls[w] with effective := effectiveOf t.live.wall[w] (s.walls[w]).sensed })
          ∧ (let changed : Fin 4 → Bool := fun q => isLead t.rg.map q &&
               !(isLead s.rg.map q && decide ((∀ m : Fin 16, s.micPart m = q ↔ t.micPart m = q) ∧ s.mode q = t.mode q))
             (∀ q : Fin 4, t.mute.quiet[q] = (s.mute.quiet[q] && isLead t.rg.map q && !changed q))
             ∧ (∀ q : Fin 4, t.rg.noEval[q] = changed q)
             ∧ (∀ q : Fin 4, t.ahead.counts[q] = if isLead t.rg.map q = true ∧ changed q = false then s.ahead.counts[q] else none)
             ∧ t.ahead.floors = s.ahead.floors
             ∧ (∀ m : Fin 16, t.gates[m] =
                  if changed (t.micPart m) = true ∨ (takesHold s t m = true ∧ (s.gates[m]).state ≠ .closed)
                  then { state := .closed, counter := 0 } else s.gates[m])
             ∧ (∀ q : Fin 4, isLead t.rg.map q = false → t.floors[q] = emptyFloor ∧ fl q = [])
             ∧ (∀ q : Fin 4, isLead t.rg.map q = true → changed q = false →
                  let leaves : Fin 16 → Bool := fun m => t.isChair m && decide (t.micPart m = q)
                  let stay := (s.floors[q]).grants.filter fun g => !leaves g.mic
                  t.floors[q] = { queue := (s.floors[q]).queue.filter fun e => !leaves e.mic
                                  grants := stay.take (t.lead q).speakerLimit }
                  ∧ fl q = ((List.finRange 16).filter leaves).flatMap (fun m =>
                        ((s.floors[q]).grants.filter fun g => decide (g.mic = m)).map (fun g => Notice.floor q g.mic .removed)
                        ++ ((s.floors[q]).queue.filter fun e => decide (e.mic = m)).map fun e => Notice.floor q e.mic .removed)
                      ++ ((stay.drop (t.lead q).speakerLimit).reverse.map fun g => .floor q g.mic .revoked))
             ∧ ∀ q : Fin 4, changed q = true →
                  let queue : Fin 4 → List QueueEntry := fun o => (s.floors[o]).queue.filter fun e => decide (t.micPart e.mic = q)
                  let grants : Fin 4 → List GrantEntry := fun o => (s.floors[o]).grants.filter fun g => decide (t.micPart g.mic = q)
                  let queue' : Fin 4 → List QueueEntry := fun o => (queue o).filter fun e => !t.isChair e.mic
                  let grants' : Fin 4 → List GrantEntry := fun o => (grants o).filter fun g => !t.isChair g.mic
                  let inQueue : (Fin 4 → List QueueEntry) → Fin 16 → Bool := fun l m =>
                    (List.finRange 4).any fun o => (l o).any fun e => decide (e.mic = m)
                  let inGrants : (Fin 4 → List GrantEntry) → Fin 16 → Bool := fun l m =>
                    (List.finRange 4).any fun o => (l o).any fun g => decide (g.mic = m)
                  let chairs := ((List.finRange 16).filter fun m => t.isChair m && (inQueue queue m || inGrants grants m)).map fun m =>
                    Notice.floor q m .removed
                  let only : Fin 4 → Prop := fun o => ∀ o' : Fin 4, o' ≠ o → queue' o' = [] ∧ grants' o' = []
                  let discard : Prop := t.mode q ≠ .chaired ∨ (s.rg.applyFrom.isSome = true ∧ s.mode s.rg.map[q] ≠ t.mode q)
                  (discard → t.floors[q] = emptyFloor
                    ∧ fl q = chairs ++ ((List.finRange 16).filter (inGrants grants')).map (fun m => Notice.floor q m .cleared)
                        ++ ((List.finRange 16).filter (inQueue queue')).map fun m => .floor q m .cleared)
                  ∧ (¬discard → ∃ (qs : List QueueEntry) (gs : List GrantEntry),
                      qs.Perm ((List.finRange 4).flatMap queue') ∧ gs.Perm ((List.finRange 4).flatMap grants')
                      ∧ t.floors[q] = { queue := qs, grants := gs.take (t.lead q).speakerLimit }
                      ∧ fl q = chairs ++ ((gs.drop (t.lead q).speakerLimit).map fun g => Notice.floor q g.mic .revoked)
                      ∧ (∀ o, only o → qs = queue' o ∧ gs = grants' o)
                      ∧ ((∀ o, ¬only o) →
                          qs.Pairwise (fun x y => y.age < x.age ∨ (x.age = y.age ∧ x.mic ≤ y.mic))
                          ∧ gs.Pairwise fun x y => y.elapsed < x.elapsed ∨ (x.elapsed = y.elapsed ∧ x.mic ≤ y.mic))))
          ∧ (∀ p : Port, t.port p = (s.port p).postAll
              (((s.rg.changes.filter fun c => decide (c.port = p)).map fun c => Notice.batchApplied c.batch.entries.length true)
                ++ (((List.finRange 3).filter fun w => decide ((s.walls[w]).effective ≠ (t.walls[w]).effective)).map fun w =>
                      Notice.wall w (t.walls[w]).sensed t.live.wall[w] (t.walls[w]).effective)
                ++ (List.finRange 4).flatMap fl ++ holdsPosted s t ++ asksCleared s t))
          ∧ EnvelopesFollow s t
          ∧ (∀ i : Fin 26, (t.mute.recs[i]).priv = (s.mute.recs[i]).priv ∧ (t.mute.recs[i]).chair = (s.mute.recs[i]).chair
              ∧ (t.mute.recs[i]).far = (s.mute.recs[i]).far)
          ∧ (∀ m : Fin 16, (t.mute.recs[micSource m]).ask = ((s.mute.recs[micSource m]).ask && !losesHolds s t m))
          ∧ t.mute.groupMuted = s.mute.groupMuted))
  ∧ ∀ (sense : Sense) (early : Bool) (s : State), s.held = false →
      let v := wallsSampled sense s
      SwitchStands v.rg → ∃ t m w : State, exec (.frameBoundary sense early) s = .next t
        ∧ m.held = false ∧ m.rg = { v.rg with step := t.rg.step } ∧ m.walls = v.walls ∧ m.scene = s.scene
        ∧ m.live = ((s.portA.committed ++ s.portB.committed).flatMap (·.entries)).foldl Image.write s.live
        ∧ m.portA.committed = [] ∧ m.portB.committed = [] ∧ m.ahead.floors = same 4 true
        ∧ m.mute.quiet = s.mute.quiet ∧ m.mute.groupMuted = s.mute.groupMuted
        ∧ exec .regroupSwitch m = .next w
        ∧ t = { w with rg := { w.rg with pre := false, tested := false, noEval := same 4 false }
                       ahead := { counts := same 4 none, floors := same 4 false }
                       scene := t.scene, portA := t.portA, portB := t.portB, lineA := t.lineA }
        ∧ (∀ p : Port, t.port p = (w.port p).postAll
            (((List.finRange 2).filter fun b => decide ((w.scene.bufs[b]).lock = .capture)).map fun b => .scene .captured (some b) none))
        ∧ t.rg.state = .fadingIn ∧ t.rg.map = v.rg.pendMap ∧ t.rg.changes = []
        ∧ (∀ b : Fin 26, t.rg.target b = if v.rg.touched[b] = true then 0 else 32768)
        ∧ (s.rg.applyFrom = none → t.live = (s.rg.changes.flatMap (·.batch.entries)).foldl Image.write m.live)
        ∧ (∀ b, s.rg.applyFrom = some b → t.live = (s.scene.bufs[b]).image)
        ∧ ∀ x : Fin 3, t.walls[x] = { v.walls[x] with effective := effectiveOf t.live.wall[x] (v.walls[x]).sensed }

/-- R31, R33: the completion test at a later boundary, every touched bus standing at 32768 in FADING_IN: REGROUP DONE, then
SCENE APPLIED where the apply mark is set, and STEADY. Otherwise the row does nothing. FRAME_BOUNDARY ends the regroup in the same
way where it stands to end after the walls' samples (a cause among them comes first: log 3), and posts no such notice elsewhere. -/
def Obligations.RegroupDoneReturnsToSteady : Prop :=
  (∀ s : State, s.held = false → ¬EndStands s.rg → exec .regroupDone s = .next (settleLine s))
  ∧ (∀ s : State, s.held = false → EndStands s.rg →
    ∃ t u, exec .regroupDone s = .next t ∧ t = settleLine u
      ∧ u = State.post { s with rg := u.rg }
          (match s.rg.applyMark with
            | none => [.regroupDone s.rg.map s.rg.switched]
            | some b => [.regroupDone s.rg.map s.rg.switched, .scene .applied (some b) none])
      ∧ u.rg = { s.rg with state := .steady, pendMap := s.rg.map, affected := same 26 false, touched := same 26 false
                           applyMark := none, switched := false, fresh := false, pre := false, tested := true, bySwitch := false })
  ∧ ∀ (sense : Sense) (early : Bool) (s t : State), s.held = false → exec (.frameBoundary sense early) s = .next t →
      let v := wallsSampled sense s
      (EndStands v.rg →
        t.rg = { v.rg with state := .steady, pendMap := v.rg.map, affected := same 26 false, touched := same 26 false
                           applyMark := none, switched := false, fresh := false, pre := false, tested := false, bySwitch := false
                           noEval := same 4 false, step := t.rg.step })
      ∧ ∀ p : Port, (t.port p).overflow = false ∨ (t.port p).queue.length < 32 →
          ∃ news, (t.port p).queue = (s.port p).queue ++ news
            ∧ (let ends := news.filter fun n => match n with | .regroupDone _ _ | .scene .applied _ _ => true | _ => false
               (EndStands v.rg → ends = .regroupDone v.rg.map v.rg.switched
                  :: (match v.rg.applyMark with | none => [] | some b => [.scene .applied (some b) none]))
               ∧ (¬EndStands v.rg → ends = []))

/-! ## Mute holds -/

/-- R57 to R59: every step leaves each envelope's target at the value that the rules derive. -/
def Obligations.EveryStepKeepsTargetsDerived : Prop :=
  ∀ s t : State, TargetsDerived s → step s = .next t → TargetsDerived t

/-- R91, R94, R99: after any step no microphone that carries a hold has an open gate, and a LAST_ON microphone is alone in its
partition, all others being CLOSED. The premise on the second rules out maps that no walls give and committed batches that
need a switch. -/
def Obligations.EveryStepKeepsHeldGatesClosed : Prop :=
  ∀ s t : State, step s = .next t →
    (HeldGatesClosed s → HeldGatesClosed t)
    ∧ (MapsLegal s ∧ CommittedPlain s ∧ LastOnAlone s → MapsLegal t ∧ CommittedPlain t ∧ LastOnAlone t)

/-- R104, R116, R118 to R121: after any step every floor record is within its speaker limit, holds no source twice, holds
entries only in a CHAIRED slot in use and only of its own microphones, none of a chair microphone. The maps are legal, which
rules out states that no run reaches. -/
def Obligations.EveryStepKeepsFloorRecords : Prop :=
  ∀ s t : State, MapsLegal s ∧ FloorsKept s → step s = .next t → MapsLegal t ∧ FloorsKept t

/-- R151, R159: after any step a notice queue holds at most 32 notices and an open batch at most 64 entries. -/
def Obligations.EveryStepKeepsQueuesBounded : Prop :=
  ∀ s t : State, QueuesBounded s → step s = .next t → QueuesBounded t

/-- R23, R68, R90, R104, R143: the state after reset meets every invariant stated here. -/
def Obligations.ResetMeetsTheInvariants : Prop :=
  RegroupClean State.reset.rg ∧ MapsLegal State.reset ∧ TargetsDerived State.reset ∧ HeldGatesClosed State.reset
  ∧ FloorsKept State.reset ∧ QueuesBounded State.reset ∧ CommittedPlain State.reset ∧ LastOnAlone State.reset

/-- R71 to R73, R85, R99: HOLD places CHAIR from Port A and FAR from Port B on every source of the target and on no other, and
is answered OK; no other stored class or group changes, and what follows a change of hold sets follows. -/
def Obligations.HoldPlacesThePortsClass : Prop :=
  ∀ (p : Port) (tg : Target) (s : State) (set : Set26), Ready s p .conference → s.targetSet tg = some set →
    ∃ u, exec (.hold p tg) s = .next (answered p .hold .ok [] u)
      ∧ (∀ i : Fin 26, (u.mute.recs[i]).priv = (s.mute.recs[i]).priv
          ∧ (u.mute.recs[i]).chair = ((s.mute.recs[i]).chair || (decide (p = .a) && set[i]))
          ∧ (u.mute.recs[i]).far = ((s.mute.recs[i]).far || (decide (p = .b) && set[i])))
      ∧ u.mute.groupMuted = s.mute.groupMuted ∧ u.mute.quiet = s.mute.quiet
      ∧ HoldsFollow (received p s) u
      ∧ TargetsDerived u ∧ ∀ i : Fin 26, set[i] = true → (u.env[i]).target = 0

/-- R71, R74, R76, R85: FREE releases the port's own class from the target's sources, or is answered NOT_HELD where none
carried it; Port B's FREE releases no CHAIR hold. What follows a change of hold sets follows. -/
def Obligations.FreeReleasesThePortsClass : Prop :=
  ∀ (p : Port) (tg : Target) (s : State) (set : Set26), Ready s p .conference → s.targetSet tg = some set →
    let carries : Fin 26 → Bool := fun i => if p = .a then (s.mute.recs[i]).chair else (s.mute.recs[i]).far
    ((∃ i : Fin 26, set[i] = true ∧ carries i = true) →
      ∃ u, exec (.free p tg) s = .next (answered p .free .ok [] u)
        ∧ (∀ i : Fin 26, (u.mute.recs[i]).priv = (s.mute.recs[i]).priv
            ∧ (u.mute.recs[i]).chair = ((s.mute.recs[i]).chair && !(decide (p = .a) && set[i]))
            ∧ (u.mute.recs[i]).far = ((s.mute.recs[i]).far && !(decide (p = .b) && set[i])))
        ∧ u.mute.groupMuted = s.mute.groupMuted ∧ u.mute.quiet = s.mute.quiet
        ∧ HoldsFollow (received p s) u)
    ∧ ((∀ i : Fin 26, set[i] = true → carries i = false) → exec (.free p tg) s = .next (refused p .free .notHeld s))

/-- R71, R75, R76, R85: FREEALL from Port A clears CHAIR, FAR, every group muted flag and every quiet flag; from Port B it
clears FAR alone. What follows a change of hold sets follows. -/
def Obligations.FreeAllByPort : Prop :=
  ∀ s : State,
    (Ready s .a .conference → ∃ u, exec (.freeAll .a) s = .next (answered .a .freeAll .ok [] u)
      ∧ u.mute.groupMuted = same 8 false ∧ u.mute.quiet = same 4 false
      ∧ (∀ i : Fin 26, (u.mute.recs[i]).chair = false ∧ (u.mute.recs[i]).far = false
          ∧ (u.mute.recs[i]).priv = (s.mute.recs[i]).priv)
      ∧ HoldsFollow (received .a s) u)
    ∧ (Ready s .b .conference → ∃ u, exec (.freeAll .b) s = .next (answered .b .freeAll .ok [] u)
      ∧ u.mute.groupMuted = s.mute.groupMuted ∧ u.mute.quiet = s.mute.quiet
      ∧ (∀ i : Fin 26, (u.mute.recs[i]).far = false ∧ (u.mute.recs[i]).chair = (s.mute.recs[i]).chair
          ∧ (u.mute.recs[i]).priv = (s.mute.recs[i]).priv)
      ∧ HoldsFollow (received .b s) u)

/-- R70, R71, R80, R85: GMUTE sets and GUNMUTE clears the group's muted flag, from either port, and GROUP is on a source
exactly while a muted group holds it. The stored classes and quiet flags stay, and what follows a change of hold sets
follows. -/
def Obligations.GroupMuteSetsAndClears : Prop :=
  ∀ (p : Port) (g : Fin 8) (s : State), Ready s p .conference →
    let stored : State → Prop := fun u => u.mute.quiet = s.mute.quiet ∧ ∀ i : Fin 26, (u.mute.recs[i]).priv = (s.mute.recs[i]).priv
      ∧ (u.mute.recs[i]).chair = (s.mute.recs[i]).chair ∧ (u.mute.recs[i]).far = (s.mute.recs[i]).far
    (∃ u, exec (.gmute p g.val) s = .next (answered p .gmute .ok [] u) ∧ u.mute.groupMuted = s.mute.groupMuted.set g.val true
      ∧ (∀ i : Fin 26, ((u.holdSet i).group = true ↔ ∃ k : Fin 8, (s.live.grp[k])[i] = true ∧ (k = g ∨ s.mute.groupMuted[k] = true)))
      ∧ stored u ∧ HoldsFollow (received p s) u)
    ∧ (∃ u, exec (.gunmute p g.val) s = .next (answered p .gunmute .ok [] u) ∧ u.mute.groupMuted = s.mute.groupMuted.set g.val false
      ∧ (∀ i : Fin 26, ((u.holdSet i).group = true ↔ ∃ k : Fin 8, k ≠ g ∧ (s.live.grp[k])[i] = true ∧ s.mute.groupMuted[k] = true))
      ∧ stored u ∧ HoldsFollow (received p s) u)

/-- R71, R82, R85: QUIET that changes the flag of a partition in use places, or releases, CHAIR on its non-chair microphones
and no other source, with what follows a change of hold sets; one that names the state the flag has changes nothing. The
answer carries the flag. -/
def Obligations.QuietActsOnNonChairs : Prop :=
  ∀ (p : Port) (q : Fin 4) (on : Bool) (s : State), Ready s p .conference → isLead s.rg.map q = true →
    (s.mute.quiet[q] = on →
      exec (.quiet p q.val on) s = .next (answered p .quiet .ok [if on then 1 else 0] (received p s)))
    ∧ (s.mute.quiet[q] ≠ on → ∃ u, exec (.quiet p q.val on) s = .next (answered p .quiet .ok [if on then 1 else 0] u)
      ∧ u.mute.quiet = s.mute.quiet.set q.val on
      ∧ (∀ m : Fin 16, (u.mute.recs[micSource m]).chair =
          if s.micPart m = q ∧ s.isChair m = false then on else (s.mute.recs[micSource m]).chair)
      ∧ (∀ i : Fin 26, 16 ≤ i.val → (u.mute.recs[i]).chair = (s.mute.recs[i]).chair)
      ∧ (∀ i : Fin 26, (u.mute.recs[i]).priv = (s.mute.recs[i]).priv ∧ (u.mute.recs[i]).far = (s.mute.recs[i]).far)
      ∧ u.mute.groupMuted = s.mute.groupMuted ∧ HoldsFollow (received p s) u)

/-- R85, R86: DISMISS clears UNMUTE_ASK on the microphones of its target, posting one UNMUTE notice for each flag that was set,
in ascending index, and changes no hold. -/
def Obligations.DismissClearsAsks : Prop :=
  ∀ (p : Port) (tg : Target) (s : State) (set : Set26), Ready s p .conference → s.targetSet tg = some set →
    (∀ n, tg = .source n → n < 16) →
    ∃ u, exec (.dismiss p tg) s = .next (answered p .dismiss .ok [] u)
      ∧ u = State.post { received p s with mute := u.mute }
          ((mics.filter fun m => set[micSource m] && (s.mute.recs[micSource m]).ask).map fun m => .unmute m false .dismiss)
      ∧ (∀ m : Fin 16, (u.mute.recs[micSource m]).ask = ((s.mute.recs[micSource m]).ask && !(set[micSource m])))
      ∧ (∀ i : Fin 26, u.holdSet i = s.holdSet i)

/-- R77, R82, R83, R85, R87, R117, R125, R126, R132: what a press does. In ACTIVE an accepted press takes the message's bit;
MUTE toggles PRIVACY; TALK toggles UNMUTE_ASK where its condition holds, or in a CHAIRED partition asks, withdraws or
releases; ALL from a chair microphone turns the quiet flag and its CHAIR holds. A repeated press, and one in a state other
than ACTIVE and DOZE, is nothing; an accepted one in DOZE wakes the link. -/
def Obligations.AcceptedPressesInActive : Prop :=
  ∀ (m : Fin 16) (seq : Bool) (s : State), s.held = false →
    let l := s.links[m]
    let q := s.micPart m
    let r := s.floors[q]
    let s1 : State := { s with links := s.links.set m.val { l with lastBit := seq } }
    let set := fun (r' : FloorRec) (n : Notice) =>
      settleLine (retarget s1 (State.post { s1 with floors := s1.floors.set q.val r' } [n]))
    (∀ c, c = .buttonMute m seq ∨ c = .buttonTalk m seq ∨ c = .buttonAll m seq →
      (l.lastBit = seq ∨ (l.state ≠ .active ∧ l.state ≠ .doze) → exec c s = .next (settleLine s))
      ∧ (l.lastBit ≠ seq → l.state = .doze → ∃ t, exec c s = .next t ∧ (t.links[m]).state = .retrain ∧ (t.links[m]).lastBit = seq
          ∧ (t.links[m]).retrainCount = min (l.retrainCount + 1) (max 65535 l.retrainCount)
          ∧ t.mute = s.mute ∧ t.floors = s.floors ∧ LinkPosts s t m .button none))
    ∧ (l.state = .active → l.lastBit ≠ seq →
      (∃ t, exec (.buttonMute m seq) s = .next t ∧ (t.links[m]).lastBit = seq
        ∧ (t.mute.recs[micSource m]).priv = !(s.mute.recs[micSource m]).priv
        ∧ (t.mute.recs[micSource m]).chair = (s.mute.recs[micSource m]).chair
        ∧ (t.mute.recs[micSource m]).far = (s.mute.recs[micSource m]).far
        ∧ (∀ i : Fin 26, i ≠ micSource m → (t.mute.recs[i]).priv = (s.mute.recs[i]).priv
            ∧ (t.mute.recs[i]).chair = (s.mute.recs[i]).chair ∧ (t.mute.recs[i]).far = (s.mute.recs[i]).far)
        ∧ t.mute.groupMuted = s.mute.groupMuted ∧ t.mute.quiet = s.mute.quiet
        ∧ HoldsFollow s t ∧ t.floors = s.floors)
      ∧ (s.mode q ≠ .chaired →
          let asks := s.heldSource (micSource m) && !(s.mute.recs[micSource m]).priv
          ∃ t, exec (.buttonTalk m seq) s = .next t ∧ (t.links[m]).lastBit = seq ∧ t.floors = s.floors
            ∧ (t.mute.recs[micSource m]).ask = (if asks then !(s.mute.recs[micSource m]).ask else (s.mute.recs[micSource m]).ask)
            ∧ (∀ i : Fin 26, t.holdSet i = s.holdSet i) ∧ ∀ p : Port, t.port p = (s.port p).postAll
                (if asks then [.unmute m (!(s.mute.recs[micSource m]).ask) .pod] else []))
      ∧ (s.mode q = .chaired →
          (s.isChair m = true → exec (.buttonTalk m seq) s = .next (settleLine s1))
          ∧ (s.isChair m = false → r.granted m = true → exec (.buttonTalk m seq) s = .next
              (set { r with grants := r.grants.filter fun g => decide (g.mic ≠ m) } (.floor q m .released)))
          ∧ (s.isChair m = false → r.granted m = false → r.queued m = true → exec (.buttonTalk m seq) s = .next
              (set { r with queue := r.queue.filter fun e => decide (e.mic ≠ m) } (.floor q m .withdrawn)))
          ∧ (s.isChair m = false → r.granted m = false → r.queued m = false → exec (.buttonTalk m seq) s = .next
              (if (s.lead q).autoGrant = true ∧ r.queue = [] ∧ r.grants.length < (s.lead q).speakerLimit
                then set { r with grants := r.grants ++ [{ mic := m, elapsed := 0, warned := false }] }
                  (.floor q m .granted)
                else set { r with queue := r.queue ++ [{ mic := m, age := 0 }] } (.floor q m .queued))))
      ∧ (s.isChair m = false → exec (.buttonAll m seq) s = .next (settleLine s1))
      ∧ (s.isChair m = true → ∃ t, exec (.buttonAll m seq) s = .next t ∧ (t.links[m]).lastBit = seq
          ∧ t.mute.quiet = s.mute.quiet.set q.val (!s.mute.quiet[q])
          ∧ (∀ x : Fin 16, (t.mute.recs[micSource x]).chair =
              if s.micPart x = q ∧ s.isChair x = false then !s.mute.quiet[q] else (s.mute.recs[micSource x]).chair)
          ∧ (∀ i : Fin 26, 16 ≤ i.val → (t.mute.recs[i]).chair = (s.mute.recs[i]).chair)
          ∧ (∀ i : Fin 26, (t.mute.recs[i]).priv = (s.mute.recs[i]).priv ∧ (t.mute.recs[i]).far = (s.mute.recs[i]).far)
          ∧ t.mute.groupMuted = s.mute.groupMuted ∧ HoldsFollow s t ∧ t.floors = s.floors))

/-! ## Chaired floor -/

/-- R105, R106: ASK is refused LINK_DOWN, ALREADY_GRANTED or DUPLICATE, in this order; by a microphone that may ask it is
granted at once under auto-grant with an empty queue and room, and otherwise joins the end of the queue; one FLOOR notice.
The answer carries the outcome, GRANTED 0 and QUEUED 1 (R160; log 6). -/
def Obligations.AskQueuesOrGrants : Prop :=
  ∀ (p : Port) (m : Fin 16) (s : State), Ready s p .conference →
    let q := s.micPart m
    let r := s.floors[q]
    s.mode q = .chaired →
    let now := (s.lead q).autoGrant && r.queue.isEmpty && decide (r.grants.length < (s.lead q).speakerLimit)
    let after : FloorRec := if now then { r with grants := r.grants ++ [{ mic := m, elapsed := 0, warned := false }] }
      else { r with queue := r.queue ++ [{ mic := m, age := 0 }] }
    ((s.links[m]).state ≠ .active → exec (.ask p m.val) s = .next (refused p .ask .linkDown s))
    ∧ ((s.links[m]).state = .active → r.granted m = true ∨ s.isChair m = true →
        exec (.ask p m.val) s = .next (refused p .ask .alreadyGranted s))
    ∧ ((s.links[m]).state = .active → r.granted m = false → s.isChair m = false → r.queued m = true →
        exec (.ask p m.val) s = .next (refused p .ask .duplicate s))
    ∧ ((s.links[m]).state = .active → r.granted m = false → s.isChair m = false → r.queued m = false →
      exec (.ask p m.val) s = .next (answered p .ask .ok [if now then 0 else 1]
        (retarget (received p s) (State.post { received p s with floors := s.floors.set q.val after }
          [.floor q m (if now then .granted else .queued)]))))

/-- R107, R108: WITHDRAW, RELEASE, REVOKE and CLEARQ remove exactly the entries they name, the others keeping order, counts and
marks, with one FLOOR notice for each entry; a source that is not there is answered NOT_QUEUED or NOT_GRANTED. -/
def Obligations.FloorEntriesLeave : Prop :=
  ∀ (p : Port) (m : Fin 16) (s : State), Ready s p .conference →
    let q := s.micPart m
    let r := s.floors[q]
    s.mode q = .chaired →
    let set := fun (r' : FloorRec) (ns : List Notice) =>
      retarget (received p s) (State.post { received p s with floors := s.floors.set q.val r' } ns)
    let ungranted : FloorRec := { r with grants := r.grants.filter fun g => decide (g.mic ≠ m) }
    (exec (.withdraw p m.val) s = .next (if r.queue.any fun e => decide (e.mic = m)
        then answered p .withdraw .ok [] (set { r with queue := r.queue.filter fun e => decide (e.mic ≠ m) } [.floor q m .withdrawn])
        else refused p .withdraw .notQueued s))
    ∧ (exec (.release p m.val) s = .next (if r.grants.any fun g => decide (g.mic = m)
        then answered p .release .ok [] (set ungranted [.floor q m .released]) else refused p .release .notGranted s))
    ∧ (exec (.revoke p m.val) s = .next (if r.grants.any fun g => decide (g.mic = m)
        then answered p .revoke .ok [] (set ungranted [.floor q m .revoked]) else refused p .revoke .notGranted s))
    ∧ (isLead s.rg.map q = true → exec (.clearQ p q.val) s = .next (answered p .clearQ .ok []
        (set { r with queue := [] } (r.queue.map fun e => .floor q e.mic .cleared))))

/-- R109, R110: GRANT of a source that may be granted and GRANT_NEXT of a queue that is not empty: with room the source leaves
the queue and joins the end of the grant list; a full list refuses FLOOR_FULL under REFUSE and drops its oldest grant under
BUMP. GRANT of a granted source or a chair microphone is refused ALREADY_GRANTED, of one that is neither queued nor on an
ACTIVE link LINK_DOWN; GRANT_NEXT of an empty queue NOT_QUEUED. -/
def Obligations.GrantGivesTheFloor : Prop :=
  ∀ (p : Port) (m : Fin 16) (s : State), Ready s p .conference →
    let q := s.micPart m
    let r := s.floors[q]
    let cfg := s.lead q
    let set := fun (gs : List GrantEntry) (ns : List Notice) =>
      let after : FloorRec := { queue := r.queue.filter fun e => decide (e.mic ≠ m)
                                grants := gs ++ [{ mic := m, elapsed := 0, warned := false }] }
      retarget (received p s) (State.post { received p s with floors := s.floors.set q.val after } ns)
    let given := fun (name : ReqName) =>
      if r.grants.length < cfg.speakerLimit then answered p name .ok [] (set r.grants [.floor q m .granted])
      else match cfg.overflow, r.grants with
        | .bump, g :: rest => answered p name .ok [] (set rest [.floor q g.mic .bumped, .floor q m .granted])
        | _, _ => refused p name .floorFull s
    s.mode q = .chaired →
    (r.granted m = false → s.isChair m = false → r.queued m = true ∨ (s.links[m]).state = .active →
      exec (.grant p m.val) s = .next (given .grant))
    ∧ (r.granted m = true ∨ s.isChair m = true → exec (.grant p m.val) s = .next (refused p .grant .alreadyGranted s))
    ∧ (r.granted m = false → s.isChair m = false → r.queued m = false → (s.links[m]).state ≠ .active →
      exec (.grant p m.val) s = .next (refused p .grant .linkDown s))
    ∧ (isLead s.rg.map q = true → (∃ e rest, r.queue = e :: rest ∧ e.mic = m) → exec (.grantNext p q.val) s = .next (given .grantNext))
    ∧ (isLead s.rg.map q = true → r.queue = [] → exec (.grantNext p q.val) s = .next (refused p .grantNext .notQueued s))

/-- R104, R111 to R115: one boundary's work on a floor record. Ages rise and queue entries that reach the lifetime leave;
elapsed counts rise, warnings are marked, grants that reach the speech limit leave under REVOKE or are marked under WARN_ONLY;
the others keep their order; then, under auto-grant, the oldest entries fill the room. The notices stand in that order, several
SPEECH WARN in grant-list order (log 18). Bounds are kept. FRAME_BOUNDARY does this work in every CHAIRED slot whose piece was not taken ahead of it, and in no other (where no
switch is due and no link moves), and leaves no mark of a piece taken (log 1). -/
def Obligations.FloorWorkKeepsBounds : Prop :=
  (∀ (q : Fin 4) (cfg : SectionRec) (r : FloorRec),
    let up : Nat → Nat := fun n => if n < 3600000 then n + 1 else n
    let limit := cfg.speechLimit * 1000
    let old : QueueEntry → Bool := fun e => decide (0 < cfg.lifetime ∧ cfg.lifetime * 1000 ≤ up e.age)
    let warn : GrantEntry → Bool := fun g => decide (0 < cfg.warnLead ∧ cfg.warnLead < cfg.speechLimit ∧ g.warned = false
      ∧ (cfg.speechLimit - cfg.warnLead) * 1000 ≤ up g.elapsed)
    let spent : GrantEntry → Bool := fun g => decide (cfg.expiry = .revoke ∧ 0 < cfg.speechLimit ∧ limit ≤ up g.elapsed)
    let kept : GrantEntry → Bool := fun g => decide (cfg.expiry = .warnOnly ∧ 0 < cfg.speechLimit ∧ g.elapsed + 1 = limit)
    let queue : List QueueEntry := (r.queue.filter fun e => !old e).map fun e => { e with age := up e.age }
    let grants : List GrantEntry := (r.grants.filter fun g => !spent g).map fun g =>
      { g with elapsed := up g.elapsed, warned := g.warned || warn g || kept g }
    let room := if cfg.autoGrant then cfg.speakerLimit - grants.length else 0
    floorPiece q cfg r =
      ({ queue := queue.drop room
         grants := grants ++ (queue.take room).map fun e => { mic := e.mic, elapsed := 0, warned := false } },
       ((r.queue.filter old).map fun e => .floor q e.mic .expired)
        ++ ((r.grants.filter warn).map fun g => .speechWarn q g.mic cfg.speechLimit)
        ++ ((r.grants.filter fun g => spent g || kept g).map fun g => .speechExpired q g.mic (spent g) cfg.speechLimit)
        ++ ((queue.take room).map fun e => .floor q e.mic .granted))
    ∧ (r.Bounded cfg.speakerLimit → (floorPiece q cfg r).1.Bounded cfg.speakerLimit))
  ∧ ∀ (sense : Sense) (early : Bool) (s t : State), s.held = false → exec (.frameBoundary sense early) s = .next t →
      t.ahead.floors = same 4 false
      ∧ (NoSwitchDue s → LinksStay s t → ∀ q : Fin 4, t.floors[q] =
          if s.slotIn .chaired q = true ∧ s.ahead.floors[q] = false then (floorPiece q (s.lead q) s.floors[q]).1
          else s.floors[q])

/-- R112, R113, R114, R115: QUEUE_EXPIRY, SPEECH_WARN and SPEECH_EXPIRY ahead of a boundary. Where the entry's time comes there,
the slot's whole piece of work is taken (its stages, and the order of its notices, log 18, are those of FloorWorkKeepsBounds),
with the notice of the entry among them, and FRAME_BOUNDARY does not take it again (log 1); otherwise nothing. -/
def Obligations.FloorTimersExpire : Prop :=
  ∀ (m : Fin 16) (s : State), s.held = false →
    let q := s.micPart m
    let r := s.floors[q]
    let cfg := s.lead q
    let up : Nat → Nat := fun n => if n < 3600000 then n + 1 else n
    let limit := cfg.speechLimit * 1000
    let piece := floorPiece q cfg r
    let taken : State :=
      let u := retarget s (State.post { s with floors := s.floors.set q.val piece.1 } piece.2)
      { u with ahead := { u.ahead with floors := s.ahead.floors.set q.val true } }
    let may : Prop := s.slotIn .chaired q = true ∧ s.ahead.floors[q] = false
    let old : Prop := ∃ e ∈ r.queue, e.mic = m ∧ 0 < cfg.lifetime ∧ cfg.lifetime * 1000 ≤ up e.age
    let warn : Prop := ∃ g ∈ r.grants, g.mic = m ∧ g.warned = false ∧ 0 < cfg.warnLead ∧ cfg.warnLead < cfg.speechLimit
      ∧ (cfg.speechLimit - cfg.warnLead) * 1000 ≤ up g.elapsed
    let spent : Prop := ∃ g ∈ r.grants, g.mic = m ∧ cfg.expiry = .revoke ∧ 0 < cfg.speechLimit ∧ limit ≤ up g.elapsed
    let kept : Prop := ∃ g ∈ r.grants, g.mic = m ∧ cfg.expiry = .warnOnly ∧ 0 < cfg.speechLimit ∧ g.elapsed + 1 = limit
    (may ∧ old → exec (.queueExpiry m) s = .next (settleLine taken) ∧ Notice.floor q m .expired ∈ piece.2)
    ∧ (¬(may ∧ old) → exec (.queueExpiry m) s = .next (settleLine s))
    ∧ (may ∧ warn → exec (.speechWarn m) s = .next (settleLine taken) ∧ Notice.speechWarn q m cfg.speechLimit ∈ piece.2)
    ∧ (¬(may ∧ warn) → exec (.speechWarn m) s = .next (settleLine s))
    ∧ (may ∧ spent → exec (.speechExpiry m) s = .next (settleLine taken) ∧ Notice.speechExpired q m true cfg.speechLimit ∈ piece.2)
    ∧ (may ∧ kept → exec (.speechExpiry m) s = .next (settleLine taken) ∧ Notice.speechExpired q m false cfg.speechLimit ∈ piece.2)
    ∧ (¬(may ∧ (spent ∨ kept)) → exec (.speechExpiry m) s = .next (settleLine s))

/-! ## Gating -/

/-- R92 to R98: one evaluation, member by member. `held` are the entries OPEN after the counters (a candidate reloaded with H,
another lowered, gone when it reaches 0), `stay` those left by the open limit (lowest counter first, ties to the higher
index). The closed candidates open in rank order while slots are free; chair candidates beyond preempt non-chair entries. An
entry whose counter ran out becomes LAST_ON where last-on is On, none is OPEN, it is the loudest and none opens; a LAST_ON
candidate returns to OPEN even with last-on Off (log 19). FRAME_BOUNDARY takes the evaluation of every GATED slot not evaluated
ahead of it, once (log 1), after the holds of the boundary's link events (the model's order, log 3; where no switch is due). -/
def Obligations.EvaluationKeepsOpenLimit : Prop :=
  (∀ (v : GateView) (gs : Gates), v.members.Nodup → 1 ≤ v.limit →
    ((v.members.filter fun m => ((evaluateSlot v gs)[m]).isOpen).length ≤ v.limit)
    ∧ ∀ m : Fin 16, m ∉ v.members → (evaluateSlot v gs)[m] = gs[m])
  ∧ (∀ (v : GateView) (gs : Gates), v.members.Pairwise (· < ·) → 1 ≤ v.limit →
    (∀ x ∈ v.members, ∀ y ∈ v.members, (gs[x]).state = .lastOn → x = y ∨ (gs[y]).state = .closed) →
    let held := v.members.filter fun m =>
      decide (((gs[m]).state = .opened ∧ (v.cand m = true ∨ 1 < (gs[m]).counter)) ∨ ((gs[m]).state = .lastOn ∧ v.cand m = true))
    let count : Fin 16 → Nat := fun m => if v.cand m then v.hold else (gs[m]).counter - 1
    let weaker : Fin 16 → Fin 16 → Bool := fun x y => decide (count x < count y ∨ (count x = count y ∧ y < x))
    let place : List (Fin 16) → Fin 16 → Nat := fun l m => (l.filter fun x => weaker x m).length
    let stay := held.filter fun m => decide (held.length - v.limit ≤ place held m)
    let free := v.limit - stay.length
    let asking := v.members.filter fun m => v.cand m && decide (m ∉ stay)
    let before : Fin 16 → Fin 16 → Bool := fun x y => decide (x ≠ y ∧ (if v.chair x ≠ v.chair y then v.chair x = true
      else v.peak y < v.peak x ∨ (v.peak x = v.peak y ∧ x < y)))
    let rank : Fin 16 → Nat := fun m => (asking.filter fun x => before x m).length
    let common := stay.filter fun m => !v.chair m
    let preempting := min ((asking.filter v.chair).length - free) common.length
    let opens : Fin 16 → Bool := fun m => decide (m ∈ asking ∧ (rank m < free ∨ (v.chair m = true ∧ rank m < free + preempting)))
    let preempted : Fin 16 → Bool := fun m => decide (m ∈ common ∧ place common m < preempting)
    let expiring := v.members.filter fun m => decide ((gs[m]).state = .opened ∧ v.cand m = false ∧ (gs[m]).counter ≤ 1)
    let last : Fin 16 → Bool := fun m => v.lastOn && !(v.members.any opens) &&
      decide ((gs[m]).state = .lastOn ∨ (held = [] ∧ m ∈ expiring
        ∧ ∀ x ∈ expiring, x = m ∨ v.peak x < v.peak m ∨ (v.peak x = v.peak m ∧ m < x)))
    ∀ m ∈ v.members, (evaluateSlot v gs)[m] =
      if opens m then { state := .opened, counter := v.hold }
      else if m ∈ stay ∧ preempted m = false then { state := .opened, counter := count m }
      else if (gs[m]).state = .closed then gs[m]
      else if m ∉ held ∧ last m = true then { state := .lastOn, counter := 0 }
      else { state := .closed, counter := 0 })
  ∧ ∀ (sense : Sense) (early : Bool) (s t : State), s.held = false → exec (.frameBoundary sense early) s = .next t →
      t.ahead.counts = same 4 none
      ∧ (NoSwitchDue s → MapsLegal s → ∀ m : Fin 16,
        let p := s.micPart m
        let gs : Gates := tab fun x =>
          if takesHold s t x = true ∧ (s.gates[x]).state ≠ .closed then { state := .closed, counter := 0 } else s.gates[x]
        t.gates[m] = if s.mode p = .gated ∧ s.rg.noEval[p] = false ∧ s.ahead.counts[p] = none
          then (evaluateSlot (t.meterView p) gs)[m] else gs[m])

/-- R6, R14, R15, R91 to R94, R98, R103: GATE_HOLD_EXPIRY on an OPEN microphone that is no candidate and whose counter reaches 0 at the
boundary about to be taken: the whole evaluation of its slot on the levels that boundary will measure, whatever its links do there
(a link that leaves ACTIVE there gives 0; the evaluation is that of EvaluationKeepsOpenLimit), its open count handed over, and FRAME_BOUNDARY does not take it again (log 1). The microphone closes
where last-on is Off, another member stays OPEN, a louder one expires with it or a candidate opens; alone, it becomes LAST_ON, and
none is then OPEN beside it. On any other microphone nothing happens. -/
def Obligations.GateHoldExpiryCloses : Prop :=
  (∀ (m : Fin 16) (s : State), s.held = false →
    let p := s.micPart m
    let v := s.nextView p
    let expiring := fun x : Fin 16 => x ∈ v.members ∧ (s.gates[x]).state = .opened ∧ (s.gates[x]).counter ≤ 1 ∧ v.cand x = false
    let due : Prop := s.slotIn .gated p = true ∧ s.rg.noEval[p] = false ∧ s.ahead.counts[p] = none ∧ expiring m
    (¬due → exec (.gateHoldExpiry m) s = .next (settleLine s))
    ∧ (due → ∃ t, exec (.gateHoldExpiry m) s = .next t ∧ t.gates = evaluateSlot v s.gates
      ∧ (t.gates[m]).counter = 0 ∧ (t.gates[m]).state ≠ .opened
      ∧ (∀ x : Fin 16, s.micPart x ≠ p → t.gates[x] = s.gates[x])
      ∧ (v.lastOn = false → (t.gates[m]).state = .closed)
      ∧ ((∃ x ∈ v.members, (s.gates[x]).state = .opened ∧ (1 < (s.gates[x]).counter ∨ v.cand x = true)) → (t.gates[m]).state = .closed)
      ∧ ((∃ x, expiring x ∧ v.peak m < v.peak x) → (t.gates[m]).state = .closed)
      ∧ (1 ≤ v.limit → (∃ x ∈ v.members, v.cand x = true) → (t.gates[m]).state = .closed)
      ∧ (v.lastOn = true → 1 ≤ v.limit → (∀ x ∈ v.members, v.cand x = false ∧ (x = m ∨ (s.gates[x]).state = .closed
            ∨ (expiring x ∧ (v.peak x < v.peak m ∨ (v.peak x = v.peak m ∧ m < x))))) → (t.gates[m]).state = .lastOn)
      ∧ ((t.gates[m]).state = .lastOn → ∀ x ∈ v.members, (t.gates[x]).state ≠ .opened)
      ∧ EnvelopesFollow s t
      ∧ t.ahead = { s.ahead with counts := s.ahead.counts.set p.val (some
          ((List.finRange 16).filter fun x => decide (s.micPart x = p ∧ (t.gates[x]).state ≠ .closed)).length) }
      ∧ t = { s with gates := t.gates, ahead := t.ahead, env := t.env, lineA := t.lineA }))
  ∧ ∀ (sense : Sense) (early : Bool) (s t : State), s.held = false → exec (.frameBoundary sense early) s = .next t →
      ∀ m : Fin 16, s.nextPeak m = t.audio.peak[micSource m] ∧ s.nextNoise m = t.audio.noise[micSource m]

/-! ## Endpoint links -/

/-- R128, R131, R133, R134, R136 to R140: the LINK requests, by the state they are taken in: the requested field, what the
table of R139 does, the LINK notice and what goes with it, and the disposition (TAKEN 0, RECORDED 1, IGNORED 2) and state in
the answer. A handshake opened inside a frame is not counted at the boundary that ends it (R127; inside a frame: log 29). -/
def Obligations.LinkRequestsByState : Prop :=
  ∀ (p : Port) (i : Fin 16) (s : State), Ready s p .config →
    let l := s.links[i]
    let code : LinkState → Nat := fun st => match st with
      | .down => 0 | .training => 1 | .active => 2 | .doze => 3 | .retrain => 4 | .detached => 5 | .fault => 6
    let put : LinkRec → State := fun x => { received p s with links := s.links.set i.val x }
    let answers := fun (c : Instr) (disposition : Nat) (u : State) =>
      exec c s = .next (answered p .link .ok [disposition, code (u.links[i]).state] u)
    let ignored := fun (c : Instr) (req : LinkReq) => answers c 2 (put { l with requested := req })
    let moves := fun (c : Instr) (req : LinkReq) (st : LinkState) (done : State → Prop) =>
      ∃ u, answers c 0 u ∧ (u.links[i]).state = st ∧ (u.links[i]).requested = req ∧ LinkPosts (received p s) u i .request none ∧ done u
    let opens : Handshake → LinkReq → State := fun h req =>
      put { l with requested := req, handshake := h, hsTimer := 0, hsFresh := decide (s.periods ≠ 0) }
    let leaves : State → Prop := fun u => (u.mute.recs[micSource i]).priv = false ∧ (u.mute.recs[micSource i]).ask = false
      ∧ ∀ r : FloorRec, u.floors[s.micPart i] = r → r.granted i = false ∧ r.queued i = false
    -- NOP
    (l.state = .down → answers (.linkNop p i.val) 0 (put { l with requested := .nop, armed := true }))
    ∧ (l.state ≠ .down → ignored (.linkNop p i.val) .nop)
    -- UP
    ∧ (l.state = .down → l.armed = true → moves (.linkUp p i.val) .up .training fun u =>
        (u.links[i]).attemptTimer = 0 ∧ (u.links[i]).run = 0 ∧ (u.links[i]).lock = false
        ∧ (u.links[i]).attemptCount = l.attemptCount)
    ∧ ((l.state = .down ∧ l.armed = false) ∨ l.state = .training → ignored (.linkUp p i.val) .up)
    ∧ (l.state = .active → answers (.linkUp p i.val) 0 (put { l with requested := .up, dozeRefused := false }))
    ∧ (l.state = .doze → moves (.linkUp p i.val) .up .retrain fun u =>
        (u.links[i]).retrainCount = min (l.retrainCount + 1) (max 65535 l.retrainCount) ∧ (u.links[i]).attemptTimer = 0)
    ∧ (l.state = .retrain ∨ l.state = .detached ∨ (l.state = .fault ∧ l.residency = 250) →
        moves (.linkUp p i.val) .up .down fun u =>
          (u.links[i]).armed = (s.autoUp[i] && decide (l.state ≠ .detached))
          ∧ (u.links[i]).autoPending = (u.links[i]).armed ∧ (u.links[i]).autoWait = false ∧ (u.links[i]).dozeRefused = false
          ∧ (u.links[i]).attemptCount = 0 ∧ (u.links[i]).handshake = .none ∧ (u.links[i]).identity = none ∧ leaves u)
    ∧ (l.state = .fault → l.residency ≠ 250 → answers (.linkUp p i.val) 1 (put { l with requested := .up }))
    -- DOZE
    ∧ (l.state = .active → l.dozeRefused = false → l.handshake = .none → answers (.linkDoze p i.val) 0 (opens .doze .doze))
    ∧ (l.state ≠ .active ∨ l.dozeRefused = true ∨ l.handshake ≠ .none → ignored (.linkDoze p i.val) .doze)
    -- DETACH
    ∧ (l.state = .down → moves (.linkDetach p i.val) .detach .detached leaves)
    ∧ (l.state = .training ∨ l.state = .active ∨ l.state = .doze ∨ l.state = .retrain → l.handshake ≠ .detach →
        answers (.linkDetach p i.val) 0 (opens .detach .detach))
    ∧ (l.state = .detached ∨ l.state = .fault ∨ (l.state ≠ .down ∧ l.handshake = .detach) → ignored (.linkDetach p i.val) .detach)
    -- RETRAIN
    ∧ (l.state = .active → l.handshake ≠ .detach → moves (.linkRetrain p i.val) .retrain .retrain fun u =>
        (u.links[i]).retrainCount = min (l.retrainCount + 1) (max 65535 l.retrainCount) ∧ (u.links[i]).handshake = .none
        ∧ (u.links[i]).attemptTimer = 0 ∧ (u.links[i]).run = 0 ∧ (u.links[i]).lock = false ∧ u.floors = s.floors)
    ∧ (l.state ≠ .active ∨ l.handshake = .detach → ignored (.linkRetrain p i.val) .retrain)

/-- R15, R77, R78, R85, R118, R125, R129, R131 to R134, R136, R140: the pod messages, by the table of R125: what each does to
the link and its microphone, with the notices of R140, and which are ignored. That the handshake's timer reads 0 after DOZE_NAK is
the model's choice (log 20). -/
def Obligations.PodMessagesMoveTheLink : Prop :=
  ∀ (i : Fin 16) (s : State), s.held = false →
    let l := s.links[i]
    let gone := fun (t : State) => ∀ r : FloorRec, t.floors[t.micPart i] = r → r.granted i = false ∧ r.queued i = false
    let retrains := fun (c : Instr) (cause : LinkCause) => ∃ t, exec c s = .next t ∧ (t.links[i]).state = .retrain
      ∧ (t.links[i]).retrainCount = min (l.retrainCount + 1) (max 65535 l.retrainCount) ∧ (t.links[i]).identity = l.identity
      ∧ (t.links[i]).handshake = (if l.handshake = .detach then .detach else .none)
      ∧ (t.links[i]).attemptTimer = 0 ∧ (t.links[i]).run = 0 ∧ (t.links[i]).lock = false
      ∧ t.floors = s.floors ∧ LinkPosts s t i cause none
    let ignored := fun (c : Instr) => exec c s = .next (settleLine s)
    (∀ kind buttons slide,
      (l.state = .training ∨ l.state = .retrain → l.lock = true →
        ∃ t, exec (.hello i kind buttons slide) s = .next t
          ∧ (t.links[i]).state = .active ∧ (t.links[i]).lastBit = true ∧ (t.links[i]).attemptCount = 0
          ∧ (t.links[i]).badRun = 0 ∧ (t.links[i]).lock = false ∧ (t.links[i]).handshake = l.handshake
          ∧ (t.links[i]).identity = some { kind := kind, buttons := buttons, slide := slide.getD .disengaged }
          ∧ t.audio.noise[micSource i] = 8388607
          ∧ (t.mute.recs[micSource i]).priv = ((s.mute.recs[micSource i]).priv || decide (slide = some .engaged))
          ∧ (t.holdSet (micSource i)).link = false ∧ t.floors = s.floors ∧ LinkPosts s t i .hello none)
      ∧ (l.state = .active → retrains (.hello i kind buttons slide) .hello)
      ∧ (((l.state = .training ∨ l.state = .retrain) ∧ l.lock = false) ∨ l.state = .doze ∨ l.state.out = true →
          ignored (.hello i kind buttons slide)))
    ∧ (l.state = .active → l.handshake = .doze →
      (∃ t, exec (.dozeAck i) s = .next t ∧ (t.links[i]).state = .doze ∧ (t.links[i]).handshake = .none ∧ gone t
        ∧ (t.mute.recs[micSource i]).priv = (s.mute.recs[micSource i]).priv
        ∧ (t.mute.recs[micSource i]).ask = (s.mute.recs[micSource i]).ask ∧ LinkPosts s t i .dozeAck none)
      ∧ exec (.dozeNak i) s = .next (settleLine ((s.setLink i { l.noHandshake with dozeRefused := true }).post [.dozeRefused i .nak])))
    ∧ (l.state ≠ .active ∨ l.handshake ≠ .doze → ignored (.dozeAck i) ∧ ignored (.dozeNak i))
    ∧ (l.state.inUse = true → l.handshake = .detach → ∃ t, exec (.detachAck i) s = .next t
        ∧ (t.links[i]).state = .detached ∧ (t.links[i]).handshake = .none ∧ (t.mute.recs[micSource i]).priv = false
        ∧ (t.mute.recs[micSource i]).ask = false ∧ gone t ∧ LinkPosts s t i .detachAck none)
    ∧ (l.state.inUse = false ∨ l.handshake ≠ .detach → ignored (.detachAck i))
    ∧ (∀ code, (l.state.inUse = true → ∃ t, exec (.faultReport i code) s = .next t
        ∧ (t.links[i]).state = .fault ∧ (t.links[i]).faultCode = some code ∧ (t.links[i]).requested = .nop
        ∧ (t.links[i]).handshake = .none
        ∧ (t.links[i]).residency = 0 ∧ (t.links[i]).faultCount = min (l.faultCount + 1) (max 65535 l.faultCount)
        ∧ (t.mute.recs[micSource i]).priv = false ∧ (t.mute.recs[micSource i]).ask = false ∧ gone t
        ∧ LinkPosts s t i .faultReport (some code))
      ∧ (l.state.inUse = false → ignored (.faultReport i code)))
    ∧ (l.state = .doze → retrains (.wake i) .wake)
    ∧ (l.state ≠ .doze → ignored (.wake i))

/-- R127, R128, R130, R131, R134, R136, R137, R140: the timed rows of a link, one frame short of their time, with their
notices; and what FRAME_BOUNDARY itself does to a link's record: every timer rises by one whole frame, the frame is judged, and
what is due happens. The model's own: that the rows are taken ahead of FRAME_BOUNDARY (log 1), that a handshake's timer reads 0
when it ends (log 20), and which boundary is the first after an entry to DOWN (log 29). -/
def Obligations.LinkTimersExpire : Prop :=
  (∀ (i : Fin 16) (s : State), s.held = false →
    let l := s.links[i]
    (l.wasActive = true → l.state = .active → l.goodFrame = false → l.badRun = 7 →
      ∃ t, exec (.badFrameRun i) s = .next t ∧ (t.links[i]).state = .retrain ∧ (t.links[i]).badRun = 8
        ∧ (t.links[i]).badCount = min (l.badCount + 1) (max 65535 l.badCount) ∧ LinkPosts s t i .badFrames none)
    ∧ (l.state.inTraining = true → l.attemptTimer = 199 → l.attemptFresh = false → l.attemptCount < 2 →
      ∃ t, exec (.attemptFail i) s = .next t ∧ (t.links[i]).state = l.state ∧ (t.links[i]).attemptCount = l.attemptCount + 1
        ∧ (t.links[i]).attemptTimer = 0 ∧ (t.links[i]).run = 0 ∧ (t.links[i]).lock = false
        ∧ t.portA.queue = s.portA.queue ∧ t.portB.queue = s.portB.queue)
    ∧ (l.state.inTraining = true → l.attemptTimer = 199 → l.attemptFresh = false → l.attemptCount = 2 →
      ∃ t, exec (.attemptFail i) s = .next t ∧ (t.links[i]).state = .fault ∧ (t.links[i]).attemptCount = 3
        ∧ LinkPosts s t i .attempts none)
    ∧ (l.handshake = .doze → l.hsTimer = 7 → l.hsFresh = false →
      exec (.dozeHandshakeTimeout i) s = .next (settleLine ((s.setLink i { l.noHandshake with dozeRefused := true }).post [.dozeRefused i .noAck])))
    ∧ (l.handshake = .detach → l.hsTimer = 7 → l.hsFresh = false →
      ∃ t, exec (.detachHandshakeTimeout i) s = .next t ∧ (t.links[i]).state = .fault ∧ (t.links[i]).handshake = .none
        ∧ LinkPosts s t i .noAck none)
    ∧ (l.state = .fault → l.residency = 249 → l.residencyFresh = false → l.requested = .up →
      ∃ t, exec (.residencyMet i) s = .next t ∧ (t.links[i]).state = .down ∧ (t.links[i]).armed = s.autoUp[i]
        ∧ (t.links[i]).autoPending = s.autoUp[i] ∧ (t.links[i]).autoWait = (s.autoUp[i] && decide (s.periods ≠ 0)) ∧ LinkPosts s t i .residency none)
    ∧ (l.state = .fault → l.residency = 249 → l.residencyFresh = false → l.requested ≠ .up →
      exec (.residencyMet i) s = .next (settleLine (s.setLink i { l with residency := 250 })))
    ∧ (l.state = .down → l.autoPending = true → l.autoWait = false → l.armed = true →
      ∃ t, exec (.autoUp i) s = .next t ∧ (t.links[i]).state = .training ∧ LinkPosts s t i .auto none))
  ∧ ∀ (sense : Sense) (early : Bool) (s t : State) (i : Fin 16), s.held = false → exec (.frameBoundary sense early) s = .next t →
    let l := s.links[i]
    let up : Nat → Nat → Bool → Bool → Nat := fun top n on fresh => if on && !fresh && decide (n < top) then n + 1 else n
    let hs := up 8 l.hsTimer (decide (l.handshake ≠ .none)) l.hsFresh
    let attempt := up 200 l.attemptTimer (decide (l.state = .training ∨ l.state = .retrain)) l.attemptFresh
    let residency := up 250 l.residency (decide (l.state = .fault)) l.residencyFresh
    let x : LinkRec := { l with hsTimer := hs, hsFresh := false, attemptTimer := attempt, attemptFresh := false,
                                residency := residency, residencyFresh := false,
                                wasActive := decide (l.state = .active), arrival := none }
    let bad : LinkRec := { x with badCount := min (l.badCount + 1) (max 65535 l.badCount), badRun := l.badRun + 1 }
    let new := t.links[i]
    (l.handshake = .none ∨ hs < 8 →
      (l.state = .detached ∨ l.state = .doze → new = x)
      ∧ (l.state = .active →
          (l.wasActive = false → new = x) ∧ (l.wasActive = true → l.goodFrame = true → new = { x with badRun := 0 })
          ∧ (l.wasActive = true → l.goodFrame = false → l.badRun < 7 → new = bad)
          ∧ (l.wasActive = true → l.goodFrame = false → l.badRun = 7 →
              new.state = .retrain ∧ new.badRun = 8 ∧ new.badCount = bad.badCount
              ∧ new.retrainCount = min (l.retrainCount + 1) (max 65535 l.retrainCount) ∧ new.attemptTimer = 0))
      ∧ (l.state = .training ∨ l.state = .retrain →
          let run := if l.goodFrame = true then l.run else 0
          (attempt < 200 → new = { x with run := run })
          ∧ (attempt = 200 → l.attemptCount < 2 → new =
              { x with attemptCount := l.attemptCount + 1, attemptTimer := 0, run := 0, lock := false })
          ∧ (attempt = 200 → l.attemptCount = 2 → new.state = .fault ∧ new.requested = .nop ∧ new.residency = 0
              ∧ new.faultCount = min (l.faultCount + 1) (max 65535 l.faultCount)))
      ∧ (l.state = .fault →
          (residency < 250 ∨ l.residency = 250 ∨ l.requested ≠ .up → new = x)
          ∧ (residency = 250 → l.residency ≠ 250 → l.requested = .up → new.state = .down ∧ new.armed = s.autoUp[i]))
      ∧ (l.state = .down →
          (l.autoPending = false → new = x) ∧ (l.autoPending = true → l.autoWait = true → new = { x with autoWait := false })
          ∧ (l.autoPending = true → l.autoWait = false → l.armed = false → new = { x with autoPending := false })
          ∧ (l.autoPending = true → l.autoWait = false → l.armed = true → new.state = .training ∧ new.attemptTimer = 0)))
    ∧ (l.state = .active → l.handshake = .doze → hs = 8 → l.wasActive = false ∨ l.goodFrame = true ∨ l.badRun < 7 →
        new.state = .active ∧ new.handshake = .none ∧ new.hsTimer = 0 ∧ new.dozeRefused = true)
    ∧ (l.state = .training ∨ l.state = .active ∨ l.state = .doze ∨ l.state = .retrain → l.handshake = .detach → hs = 8 →
        new.state = .fault ∧ new.handshake = .none)

/-- R123, R125, R128, R129, R161: an upstream frame whose check fails moves nothing but the record of its arrival; a good one
advances the training run, the fourth in a row setting the lock, and then its message, where it carries one of 9.11, is taken as
that message's own row is (log 25), a HELLO ending an attempt only under a lock set before the arrival; so a frame whose message
begins an attempt does not count in it (log 41). A code or field outside those of
9.11 is ignored. The arrival holds the 48 words, most significant byte first (log 21). -/
def Obligations.UpstreamFrameIsChecked : Prop :=
  ∀ (i : Fin 16) (bytes : List Byte) (s : State), s.held = false → bytes.length = 150 →
    let l := s.links[i]
    let at' : Nat → Byte := fun k => bytes.getD k 0
    let good := decide (crc16 (bytes.take 148) = at' 148 ++ at' 149)
    let arrival : Arrival := { good := good, samples := tab fun j => at' (3 * j.val) ++ at' (3 * j.val + 1) ++ at' (3 * j.val + 2) }
    let training : Prop := l.state = .training ∨ l.state = .retrain
    let s1 : State := s.setLink i (if training then
        { l with arrival := some arrival, run := min (l.run + 1) (max 4 l.run),
                 lock := l.lock || decide (min (l.run + 1) (max 4 l.run) = 4) }
      else { l with arrival := some arrival })
    let e := exec (.upstreamFrameArrival i bytes) s
    (good = false → e = .next (settleLine (s.setLink i { l with arrival := some arrival })))
    ∧ (good = true →
      (at' 144 = 0 ∨ 7 < BitVec.toNat (at' 144)
          ∨ (at' 144 = 1 ∧ (7 < BitVec.toNat (at' 146) ∨ 2 < BitVec.toNat (at' 147)))
          ∨ (at' 144 = 2 ∧ (at' 145 = 0 ∨ 3 < BitVec.toNat (at' 145) ∨ 1 < BitVec.toNat (at' 146))) →
        e = .next (settleLine s1))
      ∧ (at' 144 = 1 → BitVec.toNat (at' 146) ≤ 7 → BitVec.toNat (at' 147) ≤ 2 →
          let slide : Option Slide := if at' 147 = 0 then none else if at' 147 = 1 then some .disengaged else some .engaged
          let buttons : Vector Bool 3 := #v[(at' 146).getLsbD 0, (at' 146).getLsbD 1, (at' 146).getLsbD 2]
          e = if training ∧ l.lock = false then .next (settleLine s1) else exec (.hello i (at' 145) buttons slide) s1)
      ∧ (at' 144 = 2 → BitVec.toNat (at' 146) ≤ 1 →
          (at' 145 = 1 → e = exec (.buttonMute i (decide (at' 146 = 1))) s1)
          ∧ (at' 145 = 2 → e = exec (.buttonTalk i (decide (at' 146 = 1))) s1)
          ∧ (at' 145 = 3 → e = exec (.buttonAll i (decide (at' 146 = 1))) s1))
      ∧ (at' 144 = 3 → e = exec (.dozeAck i) s1) ∧ (at' 144 = 4 → e = exec (.dozeNak i) s1)
      ∧ (at' 144 = 5 → e = exec (.detachAck i) s1) ∧ (at' 144 = 6 → e = exec (.faultReport i (at' 145)) s1)
      ∧ (at' 144 = 7 → e = exec (.wake i) s1))

/-- R140: events of one link leave every other link's record, the tables, the map and the scene unit alone. -/
def Obligations.LinkEventsFrame : Prop :=
  ∀ (c : Instr) (i : Fin 16) (s t : State), exec c s = .next t →
    ((∃ b, c = .upstreamFrameArrival i b) ∨ (∃ k b x, c = .hello i k b x) ∨ (∃ q, c = .buttonMute i q) ∨ (∃ q, c = .buttonTalk i q)
      ∨ (∃ q, c = .buttonAll i q) ∨ c = .dozeAck i ∨ c = .dozeNak i ∨ c = .detachAck i ∨ (∃ x, c = .faultReport i x) ∨ c = .wake i
      ∨ c = .badFrameRun i ∨ c = .attemptFail i ∨ c = .dozeHandshakeTimeout i ∨ c = .detachHandshakeTimeout i
      ∨ c = .residencyMet i ∨ c = .autoUp i) →
    (∀ j : Fin 16, j ≠ i → t.links[j] = s.links[j])
    ∧ t = { s with links := t.links, mute := t.mute, gates := t.gates, env := t.env, floors := t.floors, audio := t.audio,
                   portA := t.portA, portB := t.portB, lineA := t.lineA }
    ∧ (∀ q : Port, t.port q = { s.port q with queue := (t.port q).queue, overflow := (t.port q).overflow })
    ∧ t.audio = { s.audio with noise := t.audio.noise }

/-! ## Controller ports -/

/-- R72, R80, R82, R86, R105, R144, R146, R155, R157, R164: a request whose class the profile does not allow is refused ACCESS;
one whose class is allowed and whose operand is out of its range is refused BAD_OPERAND, and a floor request outside a CHAIRED
partition WRONG_MODE. Such a refusal changes nothing but what every request received changes, and its answer carries the
cursor, that of a WALL too (log 9). -/
def Obligations.RefusedRequestsChangeNothing : Prop :=
  ∀ (c : Instr) (p : Port) (r : Request) (s : State), portRequest c = some (p, r) → s.held = false →
    (allows (s.port p).profile r.reqClass = false → exec c s = .next (refused p r.name .access s))
    ∧ (allows (s.port p).profile r.reqClass = true →
        ((∃ t v k, r = .select t v k ∧ (tableOf t = none ∨ viewOf v = none
            ∨ ∃ tb, tableOf t = some tb ∧ (entryCount tb ≤ k ∨ (isStatus tb = true ∧ v ≠ 0))))
          ∨ (∃ n, r = .mask n ∧ 2 ^ 26 ≤ n) ∨ (∃ n o, r = .wall n o ∧ 3 ≤ n)
          ∨ (∃ x, (r = .hold x ∨ r = .free x ∨ r = .dismiss x) ∧ s.targetSet x = none)
          ∨ (∃ n, r = .dismiss (.source n) ∧ 16 ≤ n)
          ∨ (∃ n, (r = .gmute n ∨ r = .gunmute n) ∧ 8 ≤ n)
          ∨ (∃ n on, r = .quiet n on ∧ ∀ h : n < 4, isLead s.rg.map ⟨n, h⟩ = false)
          ∨ (∃ n, (r = .ask n ∨ r = .withdraw n ∨ r = .release n ∨ r = .grant n ∨ r = .revoke n) ∧ 16 ≤ n)
          ∨ (∃ n, (r = .grantNext n ∨ r = .clearQ n) ∧ ∀ h : n < 4, isLead s.rg.map ⟨n, h⟩ = false)
          ∨ (∃ n req, r = .link n req ∧ 16 ≤ n)
          ∨ (∃ k b, (r = .load k b ∨ r = .store b k ∨ r = .amend b k) ∧ (32 ≤ k ∨ 2 ≤ b))
          ∨ (∃ b, (r = .capture b ∨ r = .apply b) ∧ 2 ≤ b) ∨ (∃ k, r = .erase k ∧ 32 ≤ k) →
          exec c s = .next (refused p r.name .badOperand s))
        ∧ ((∃ m : Fin 16, (r = .ask m.val ∨ r = .withdraw m.val ∨ r = .release m.val ∨ r = .grant m.val ∨ r = .revoke m.val)
              ∧ s.mode (s.micPart m) ≠ .chaired)
            ∨ (∃ q : Fin 4, (r = .grantNext q.val ∨ r = .clearQ q.val) ∧ isLead s.rg.map q = true ∧ s.mode q ≠ .chaired) →
          exec c s = .next (refused p r.name .wrongMode s)))

/-- R1, R2, R16, R17, R19, R46, R79, R89, R122, R142, R146, R147, R155, R162, R163: SELECT of an entry that exists sets the cursor;
SHOW returns the entry and advances the cursor, wrapping, on EMPTY as on OK; what an entry is, by its table and view (wall states:
log 7; absent fields: log 8; bits of holds and buttons: log 10; an EMPTY buffer before an excluded crosspoint: log 35; the seven
numbers of a page header: log 37; the rate's code: log 43). Under FOLLOW a SHOW on Port A makes its entry the follow entry, and a
boundary, after its other work (log 3), makes a follow line ready exactly where its content differs from what was last sent; one
that is ready stays so (log 28). -/
def Obligations.SelectAndShow : Prop :=
  (∀ (p : Port) (s : State), s.held = false →
    (∀ (tb : TableId) (v : View) (k : Nat), k < entryCount tb → (isStatus tb = true → v = .live) →
      ∀ vc, viewOf vc = some v →
      exec (.select p (tableCode tb) vc k) s = .next (answered p .select .ok []
        ((received p s).setPort p { (received p s).port p with cursor := { table := tb, view := v, index := k } })))
    ∧ (let c := (s.port p).cursor
       ∃ u, exec (.showEntry p) s = .next (answered p .showEntry (if (s.entryAt c).isSome then .ok else .empty) ((s.entryAt c).getD []) u)
         ∧ u.port p = { (received p s).port p with
             cursor := { c with index := if c.index + 1 < entryCount c.table then c.index + 1 else 0 } }
         ∧ (∀ q : Port, q ≠ p → u.port q = s.port q)
         ∧ u = { s with portA := u.portA, portB := u.portB, lineA := u.lineA }
         ∧ u.lineA = (if p = .a ∧ s.lineA.follow = true
             then { s.lineA with followEntry := some { cursor := c, sent := s.entryAt c }, followReady := false }
             else (received p s).lineA)))
  ∧ (∀ (s : State) (v : View) (img : Image),
      ((v = .live ∧ img = s.live) ∨ ∃ b : Fin 2, v = .sb b ∧ (s.scene.bufs[b]).status ≠ .empty ∧ img = (s.scene.bufs[b]).image) →
      let entry : TableId → Nat → Option (List Nat) := fun t k => s.entryAt { table := t, view := v, index := k }
      let flag : Bool → Nat := fun b => if b then 1 else 0
      (∀ b : Nat, b < 24 → entry .crosspoint (b * 27) = some [0])
      ∧ (∀ i : Fin 676, excluded i = false → entry .crosspoint i.val = some [img.xpt[i]])
      ∧ (∀ i : Fin 26, entry .source i.val = some ([(img.src[i]).trim, (img.src[i]).sect.val]
          ++ if i.val < 16 then [flag (img.src[i]).chair] else []))
      ∧ (∀ b : Fin 26, entry .bus b.val = some [(img.bus[b]).gain, (img.bus[b]).sect.val])
      ∧ (∀ q : Fin 4, entry .sect q.val = some
          (let r := img.sec[q]
           [match r.mode with | .openToAll => 0 | .gated => 1 | .chaired => 2, r.openLimit, r.threshold, r.ratio, r.hold, r.offLevel,
            r.gateCode, flag r.lastOn, r.speakerLimit, flag r.autoGrant, flag (decide (r.overflow = .bump)), r.lifetime,
            r.speechLimit, r.warnLead, flag (decide (r.expiry = .revoke)), (s.rg.map[q]).val,
            match s.rg.state with | .steady => 0 | .fadingOut => 1 | .fadingIn => 2]))
      ∧ (∀ g : Fin 8, ∃ n, entry .group g.val = some [n, if v = .live then flag s.mute.groupMuted[g] else 0] ∧ n < 2 ^ 26
          ∧ ∀ i : Fin 26, n.testBit i.val = (img.grp[g])[i])
      ∧ (∀ w : Fin 3, entry .wall w.val = some [match img.wall[w] with | .follow => 0 | .opened => 1 | .closed => 2,
          flag (decide ((s.walls[w]).sensed = .opened)), (s.walls[w]).count, flag (decide ((s.walls[w]).effective = .opened))])
      ∧ (v = .live → entry .device 0 = some [img.muteCode, img.busCode])
      ∧ (∀ b : Fin 2, v = .sb b → entry .device 0 = some ([img.muteCode, img.busCode]
          ++ (match (s.scene.bufs[b]).powerOn with
            | none => []
            | some p =>
              let profile : Profile → Nat := fun x => match x with | .full => 0 | .config => 1 | .conference => 2 | .observe => 3
              [profile p.profileA, profile p.profileB,
                match p.rate with | .r9600 => 0 | .r19200 => 1 | .r38400 => 2 | .r57600 => 3 | .r115200 => 4,
                flag p.echo, flag p.follow, flag p.autoReport, ((List.finRange 16).map fun i => flag p.autoUp[i] * 2 ^ i.val).sum])
          ++ (s.scene.bufs[b]).label.toList.map BitVec.toNat))
      ∧ (v = .live → (∀ i : Fin 26, entry .holds i.val =
            (let h := s.holdSet i
             some ([flag h.priv + 2 * flag h.chair + 4 * flag h.far, 8 * flag h.group + 16 * flag h.link]
               ++ ((List.finRange 16).filter fun m => decide (m.val = i.val)).flatMap (fun m =>
                    [flag (s.mute.recs[i]).ask, flag s.mute.quiet[s.micPart m], match s.indicator m with
                      | .privateMuted => 0 | .heldAsking => 1 | .held => 2 | .warned => 3 | .live => 4 | .queued => 5 | .ready => 6])
               ++ [(s.env[i]).target, (s.env[i]).value, (s.env[i]).code])))
          ∧ (∀ i : Fin 16, entry .link i.val =
            (let l := s.links[i]
             some ([match l.state with | .down => 0 | .training => 1 | .active => 2 | .doze => 3 | .retrain => 4 | .detached => 5 | .fault => 6,
                 match l.requested with | .nop => 0 | .up => 1 | .doze => 2 | .detach => 3 | .retrain => 4,
                 flag l.armed, flag l.dozeRefused, match l.handshake with | .none => 0 | .doze => 1 | .detach => 2, l.hsTimer,
                 l.attemptCount, l.attemptTimer, l.run, flag l.lock, l.badRun, l.residency, flag l.lastBit,
                 l.badCount, l.retrainCount, l.faultCount]
               ++ (match l.identity with
                 | none => []
                 | some d => [d.kind.toNat, flag (d.buttons)[0] + 2 * flag (d.buttons)[1] + 4 * flag (d.buttons)[2],
                     match d.slide with | .disengaged => 1 | .engaged => 2])
               ++ (match l.faultCode with | none => [] | some c => [c.toNat]))))
          ∧ (∀ (q : Fin 4) (k : Fin 16), entry .queue (q.val * 16 + k.val) =
            if s.slotIn .chaired q = true then ((s.floors[q]).queue[k.val]?).map fun e => [e.mic.val, e.age] else none)
          ∧ (∀ (q : Fin 4) (k : Fin 8), entry .grant (q.val * 8 + k.val) =
            if s.slotIn .chaired q = true then ((s.floors[q]).grants[k.val]?).map fun g => [g.mic.val, g.elapsed, flag g.warned] else none)
          ∧ (∀ i : Fin 26, entry .meters i.val = some [s.audio.peak[i], s.mix.srcClip[i]]
            ∧ entry .meters (26 + i.val) = some [s.audio.busPeak[i], s.mix.busClip[i]])
          ∧ ∀ k : Fin 32, entry .pages k.val = some ([flag (s.scene.pages[k]).mark]
            ++ ((s.scene.pages[k]).label.toList.map BitVec.toNat) ++ [(s.scene.pages[k]).count, (s.scene.pages[k]).check.toNat])))
  ∧ (∀ (s : State) (b : Fin 2) (t : TableId) (k : Nat), (s.scene.bufs[b]).status = .empty →
      s.entryAt { table := t, view := .sb b, index := k } = none)
  ∧ ∀ (sense : Sense) (early : Bool) (s : State), s.held = false →
      ∃ t u, exec (.frameBoundary sense early) s = .next t ∧ t = settleLine u
        ∧ u.lineA = match s.lineA.follow, s.lineA.followEntry with
          | true, some f => if t.entryAt f.cursor = f.sent then s.lineA else { s.lineA with followReady := true }
          | _, _ => s.lineA

/-- R45, R46, R51, R148, R149, R150 to R152, R163: the forms of an ENTER by the entry at the cursor, with the clamps of R149;
then its outcomes: what is written and where, whether the cursor advances, and the answer. A status entry takes as many operands
as a SHOW returns fields (an empty list position those of one with an entry: log 11; a page header seven, on both ports: log 37);
in a buffer view the operands are judged before the lock, the lock before EMPTY, and both before an excluded position (log 12);
under the apply mark an excluded crosspoint is EXCLUDED (log 35); a buffer's device entry takes 6 or 13 operands (log 8), an auto-up
set above 15 being BAD_OPERAND (log 38) and the rate a code (log 43). A keep-set that the ENTER finds governs a group entry in every
view and with or without an open batch: the entry written is the one it leaves (`mergeKeep`, spelled out in
KeepSetGovernsTheNextEnter). -/
def Obligations.EnterByTheEntryAtTheCursor : Prop :=
  (∀ (s : State) (v : View) (ops : List Nat),
    let form : TableId → Nat → Option (EnterValue × Bool) := fun t k => readForm s { table := t, view := v, index := k } ops
    let clamp : Nat → Nat → Nat → Nat := fun lo hi n => if n < lo then lo else if hi < n then hi else n
    let off : Nat → Nat → Nat → Bool := fun lo hi n => decide (n < lo ∨ hi < n)
    (∀ (i : Fin 676), (∀ x, ops = [x] → form .crosspoint i.val = some (.entry (.xpt i (min x 65535)), decide (65535 < x)))
      ∧ (ops.length ≠ 1 → form .crosspoint i.val = none))
    ∧ (∀ (i : Fin 26),
        (ops.length ≠ (if i.val < 16 then 3 else 2) → form .source i.val = none) ∧ (ops.length ≠ 2 → form .bus i.val = none)
        ∧ (∀ x q c, i.val < 16 → ops = [x, q, c] → form .source i.val = (if h : q < 4 ∧ c < 2
            then some (.entry (.src i { trim := min x 65535, sect := ⟨q, h.1⟩, chair := decide (c = 1) }), decide (65535 < x)) else none))
        ∧ (∀ x q, 16 ≤ i.val → ops = [x, q] → form .source i.val = (if h : q < 4
            then some (.entry (.src i { trim := min x 65535, sect := ⟨q, h⟩, chair := false }), decide (65535 < x)) else none))
        ∧ (∀ x q, ops = [x, q] → form .bus i.val = (if h : q < 4
            then some (.entry (.bus i { gain := min x 65535, sect := ⟨q, h⟩ }), decide (65535 < x)) else none)))
    ∧ (∀ (i : Fin 4), (ops.length ≠ 17 → form .sect i.val = none)
        ∧ ∀ mode limit thr ratio hold level code last speak auto policy life speech lead act x y,
          ops = [mode, limit, thr, ratio, hold, level, code, last, speak, auto, policy, life, speech, lead, act, x, y] →
          (mode < 3 ∧ last < 2 ∧ auto < 2 ∧ policy < 2 ∧ act < 2 → form .sect i.val = some (.entry (.sec i
            { mode := if mode = 0 then .openToAll else if mode = 1 then .gated else .chaired, openLimit := clamp 1 8 limit,
              threshold := clamp 0 8388607 thr, ratio := clamp 16 255 ratio, hold := clamp 0 2000 hold,
              offLevel := clamp 0 32768 level, gateCode := clamp 0 3 code, lastOn := decide (last = 1),
              speakerLimit := clamp 1 8 speak, autoGrant := decide (auto = 1), overflow := if policy = 1 then .bump else .refuse,
              lifetime := clamp 0 600 life, speechLimit := clamp 0 3600 speech, warnLead := clamp 0 3600 lead,
              expiry := if act = 1 then .revoke else .warnOnly }),
            off 1 8 limit || off 0 8388607 thr || off 16 255 ratio || off 0 2000 hold || off 0 32768 level || off 0 3 code
              || off 1 8 speak || off 0 600 life || off 0 3600 speech || off 0 3600 lead))
          ∧ (¬(mode < 3 ∧ last < 2 ∧ auto < 2 ∧ policy < 2 ∧ act < 2) → form .sect i.val = none))
    ∧ (∀ (g : Fin 8), (ops.length ≠ 2 → form .group g.val = none) ∧ ∀ n x, ops = [n, x] → form .group g.val =
        if n < 2 ^ 26 then some (.entry (.grp g (tab fun i => n.testBit i.val)), false) else none)
    ∧ (∀ (w : Fin 3), (ops.length ≠ 4 → form .wall w.val = none) ∧ ∀ o x y z, ops = [o, x, y, z] → form .wall w.val =
        if o = 0 then some (.entry (.wall w .follow), false) else if o = 1 then some (.entry (.wall w .opened), false)
        else if o = 2 then some (.entry (.wall w .closed), false) else none)
    ∧ (v = .live → (ops.length ≠ 2 → form .device 0 = none) ∧ ∀ m b, ops = [m, b] →
        form .device 0 = some (.entry (.dev (min m 3) (min b 3)), decide (3 < m ∨ 3 < b)))
    ∧ (∀ (d : Fin 2) m b l0 l1 l2 l3, v = .sb d →
        let label : Label := #v[BitVec.ofNat 32 l0, BitVec.ofNat 32 l1, BitVec.ofNat 32 l2, BitVec.ofNat 32 l3]
        (ops.length ≠ 6 → ops.length ≠ 13 → form .device 0 = none)
        ∧ (ops = [m, b, l0, l1, l2, l3] → form .device 0 = if (s.scene.bufs[d]).powerOn = none
            then some (.device (min m 3) (min b 3) none label, decide (3 < m ∨ 3 < b)) else none)
        ∧ ∀ pa pb rate echo follow auto up, ops = [m, b, pa, pb, rate, echo, follow, auto, up, l0, l1, l2, l3] →
          ((s.scene.bufs[d]).powerOn = none →
            form .device 0 = some (.device (min m 3) (min b 3) none label, decide (3 < m ∨ 3 < b)))
          ∧ ((s.scene.bufs[d]).powerOn.isSome = true → form .device 0 =
              match profileOf pa, profileOf pb, rateOf rate with
              | some a, some b', some r =>
                let p : PowerOn := {
                  profileA := a, profileB := b', rate := r, echo := decide (echo = 1), follow := decide (follow = 1)
                  autoReport := decide (auto = 1), autoUp := tab fun i => up.testBit i.val }
                if echo < 2 ∧ follow < 2 ∧ auto < 2 ∧ up < 2 ^ 16 then
                  some (.device (min m 3) (min b 3) (some p) label, decide (3 < m ∨ 3 < b))
                else none
              | _, _, _ => none))
    ∧ (∀ (k : Nat), k < 52 → form .meters k = match ops with | [_, n] => some (.clip n, false) | _ => none)
    ∧ (∀ (t : TableId) (k : Nat), isStatus t = true → t ≠ .meters → k < entryCount t →
        (∀ fields, s.entryAt { table := t, view := .live, index := k } = some fields →
          form t k = if ops.length = fields.length then some (.readOnly, false) else none)
        ∧ (s.entryAt { table := t, view := .live, index := k } = none →
          form t k = if ops.length = (if t = .queue then 2 else 3) then some (.readOnly, false) else none)))
  ∧ ∀ (p : Port) (ops : List Nat) (s : State), Ready s p .config →
    let c := (s.port p).cursor
    let r := (received p s).port p
    let next : PortRec := { r with cursor := { c with index := if c.index + 1 < entryCount c.table then c.index + 1 else 0 } }
    let st : Bool → Status := fun clamped => if clamped then .clamped else .ok
    let kept : Entry → Entry := fun e => mergeKeep p (s.port p).keep c.view e s
    (readForm s c ops = none → exec (.enter p ops) s = .next (refused p .enter .badOperand s))
    ∧ (∀ x, readForm s c ops = some (.readOnly, x) →
        exec (.enter p ops) s = .next (answered p .enter .readOnly c.data ((received p s).setPort p next)))
    ∧ (∀ n x, readForm s c ops = some (.clip n, x) →
        (n ≠ 0 → exec (.enter p ops) s = .next (answered p .enter .readOnly c.data ((received p s).setPort p next)))
        ∧ (n = 0 → ∃ u : State, exec (.enter p ops) s = .next (answered p .enter .ok [] (u.setPort p next)) ∧ u = { received p s with mix := u.mix }
            ∧ u.mix.snap = s.mix.snap
            ∧ (∀ i : Fin 26, u.mix.srcClip[i] = if c.index = i.val then 0 else s.mix.srcClip[i])
            ∧ (∀ b : Fin 26, u.mix.busClip[b] = if c.index = 26 + b.val then 0 else s.mix.busClip[b])))
    ∧ (∀ e0 x, readForm s c ops = some (.entry e0, x) → c.view = .live →
        let e := kept e0
        ((∃ i, excluded i = true ∧ ∃ v, e = .xpt i v) →
          exec (.enter p ops) s = .next (answered p .enter .excluded c.data ((received p s).setPort p next)))
        ∧ ((∀ i v, e = .xpt i v → excluded i = false) →
          (s.rg.applyMark.isSome = true → exec (.enter p ops) s = .next (refused p .enter .busy s))
          ∧ (s.rg.applyMark = none → (s.port p).batch = none → e.isCause s.live = false →
            exec (.enter p ops) s = .next (answered p .enter (st x) [] ((received p s).setPort p
              { next with committed := r.committed ++ [{ entries := [e], byCommit := false }] })))
          ∧ (s.rg.applyMark = none → (s.port p).batch = none → e.isCause s.live = true →
            (s.rg.changes.any (fun y => decide (y.port = p)) = true → exec (.enter p ops) s = .next (refused p .enter .busy s))
            ∧ (s.rg.changes.any (fun y => decide (y.port = p)) = false →
              ∃ u, exec (.enter p ops) s = .next (answered p .enter (st x) [] u)
                ∧ u = { (received p s).setPort p next with rg := u.rg }
                ∧ u.rg.changes = s.rg.changes ++ [{ port := p, batch := { entries := [e], byCommit := false } }]
                ∧ u.rg.state = .fadingOut ∧ u.rg.map = s.rg.map ∧ u.rg.r = s.rg.r))
          ∧ (∀ ob, s.rg.applyMark = none → (s.port p).batch = some ob →
            ((∀ y ∈ ob.entries, y.key ≠ e.key) → exec (.enter p ops) s = .next (if ob.entries.length < 64
              then answered p .enter (st x) [] ((received p s).setPort p
                { next with batch := some { entries := ob.entries ++ [e], idle := 0 } })
              else refused p .enter .batchFull s))
            ∧ ((∃ y ∈ ob.entries, y.key = e.key) → exec (.enter p ops) s = .next (answered p .enter (st x) []
              ((received p s).setPort p { next with
                batch := some { entries := ob.entries.map fun y => if y.key = e.key then e else y, idle := 0 } }))))))
    ∧ (∀ e0 x b, readForm s c ops = some (.entry e0, x) → c.view = .sb b →
        let e := kept e0
        let buf := s.scene.bufs[b]
        (buf.lock ≠ .free → exec (.enter p ops) s = .next (refused p .enter .bufferBusy s))
        ∧ (buf.lock = .free → buf.status = .empty → exec (.enter p ops) s = .next (refused p .enter .emptyBuffer s))
        ∧ (buf.lock = .free → buf.status ≠ .empty → (∃ i v, e = .xpt i v ∧ excluded i = true) →
            exec (.enter p ops) s = .next (answered p .enter .excluded c.data ((received p s).setPort p next)))
        ∧ (buf.lock = .free → buf.status ≠ .empty → (∀ i v, e = .xpt i v → excluded i = false) →
            ∃ u : State, exec (.enter p ops) s = .next (answered p .enter (st x) [] (u.setPort p next))
              ∧ u = { received p s with scene := u.scene } ∧ u.scene.pages = s.scene.pages ∧ u.scene.job = s.scene.job
              ∧ (∀ d : Fin 2, d ≠ b → u.scene.bufs[d] = s.scene.bufs[d])
              ∧ u.scene.bufs[b] = { buf with
                  image := buf.image.write e, status := .modified
                  dirty := if e.key ∈ buf.dirty then buf.dirty else buf.dirty ++ [e.key] }))
    ∧ (∀ m n record label x b, readForm s c ops = some (.device m n record label, x) → c.view = .sb b →
        let buf := s.scene.bufs[b]
        (buf.lock ≠ .free → exec (.enter p ops) s = .next (refused p .enter .bufferBusy s))
        ∧ (buf.lock = .free → buf.status = .empty → exec (.enter p ops) s = .next (refused p .enter .emptyBuffer s))
        ∧ (buf.lock = .free → buf.status ≠ .empty →
            ∃ u : State, exec (.enter p ops) s = .next (answered p .enter (st x) [] (u.setPort p next))
              ∧ u = { received p s with scene := { s.scene with bufs := s.scene.bufs.set b.val { buf with
                  image := { buf.image with muteCode := m, busCode := n }, label := label, status := .modified
                  powerOn := if record.isSome = true then record else buf.powerOn
                  dirty := if (.device, 0) ∈ buf.dirty then buf.dirty else buf.dirty ++ [(.device, 0)] } } }))

/-- R148, R150, R151, R163: MASK makes its set the port's keep-set, and any other request received uses the keep-set up, taken or
refused. An ENTER to a group entry that finds it writes the entered presence outside the set and the old presence inside it: in
LIVE as a batch of one, or into the open batch, whose pending value for the entry is then the old one; in a buffer's view into the
buffer. Where such an ENTER is refused nothing is written. -/
def Obligations.KeepSetGovernsTheNextEnter : Prop :=
  ∀ (p : Port) (s : State), Ready s p .config →
    (∀ n, n < 2 ^ 26 → exec (.mask p n) s = .next (answered p .mask .ok [] ((received p s).setPort p
      { (received p s).port p with keep := some (tab fun i => n.testBit i.val) })))
    ∧ (∀ n, 2 ^ 26 ≤ n → exec (.mask p n) s = .next (refused p .mask .badOperand s))
    ∧ (∀ (c : Instr) (r : Request) (t : State), portRequest c = some (p, r) → (∀ n, r ≠ .mask n) → exec c s = .next t →
        (t.port p).keep = none)
    ∧ (∀ (g : Fin 8) (k : Set26) (v : View) (n x : Nat), (s.port p).keep = some k → n < 2 ^ 26 →
        (s.port p).cursor = { table := .group, view := v, index := g.val } →
        let pending : OpenBatch → Option Set26 := fun ob =>
          match ob.entries.find? fun y => decide (y.key = (.group, g.val)) with
          | some (.grp _ m) => some m
          | _ => none
        let old : Set26 := match v with
          | .live => ((s.port p).batch.bind pending).getD s.live.grp[g]
          | .sb b => (s.scene.bufs[b]).image.grp[g]
        let e : Entry := .grp g (tab fun i => if k[i] then old[i] else n.testBit i.val)
        let enter := exec (.enter p [n, x]) s
        let r : PortRec := { (received p s).port p with
          keep := none, cursor := { table := .group, view := v, index := if g.val = 7 then 0 else g.val + 1 } }
        let writes : PortRec → Prop := fun next => enter = .next (answered p .enter .ok [] ((received p s).setPort p next))
        (v = .live →
          (s.rg.applyMark.isSome = true → enter = .next (refused p .enter .busy s))
          ∧ (s.rg.applyMark = none → (s.port p).batch = none →
              writes { r with committed := (s.port p).committed ++ [{ entries := [e], byCommit := false }] })
          ∧ (∀ ob, s.rg.applyMark = none → (s.port p).batch = some ob →
              let joins : List Entry → Prop := fun es => writes { r with batch := some { entries := es, idle := 0 } }
              ((∃ y ∈ ob.entries, y.key = (.group, g.val)) →
                joins (ob.entries.map fun y => if y.key = (.group, g.val) then e else y))
              ∧ ((∀ y ∈ ob.entries, y.key ≠ (.group, g.val)) →
                (ob.entries.length < 64 → joins (ob.entries ++ [e]))
                ∧ (64 ≤ ob.entries.length → enter = .next (refused p .enter .batchFull s)))))
        ∧ (∀ b, v = .sb b →
          let buf := s.scene.bufs[b]
          (buf.lock ≠ .free → enter = .next (refused p .enter .bufferBusy s))
          ∧ (buf.lock = .free → buf.status = .empty → enter = .next (refused p .enter .emptyBuffer s))
          ∧ (buf.lock = .free → buf.status ≠ .empty →
              let u : State := { received p s with scene := { s.scene with bufs := s.scene.bufs.set b.val { buf with
                image := buf.image.write e, status := .modified
                dirty := if e.key ∈ buf.dirty then buf.dirty else buf.dirty ++ [e.key] } } }
              enter = .next (answered p .enter .ok [] (u.setPort p r)))))

/-- R19, R24, R27, R33, R148, R151, R152: WALL neither reads nor moves the cursor; with a batch open it joins it, in place of an
earlier value for the wall; with none it goes to the pending change list and the regroup machine stands in FADING_OUT; the walls
and the live tables do not change yet. BUSY and BATCH_FULL carry the wall's entry, table 5 and its index (log 9). -/
def Obligations.WallWaitsForASwitch : Prop :=
  ∀ (p : Port) (w : Fin 3) (o : Override) (s : State), Ready s p .config →
    (s.rg.applyMark.isSome = true ∨ ((s.port p).batch = none ∧ s.rg.changes.any (fun c => decide (c.port = p)) = true) →
      exec (.wall p w.val o) s = .next (answered p .wall .busy [5, w.val] (received p s)))
    ∧ (s.rg.applyMark = none → (s.port p).batch = none → s.rg.changes.any (fun c => decide (c.port = p)) = false →
      ∃ u, exec (.wall p w.val o) s = .next (answered p .wall .ok [] u) ∧ u = { received p s with rg := u.rg }
        ∧ u.rg.changes = s.rg.changes ++ [{ port := p, batch := { entries := [.wall w o], byCommit := false } }]
        ∧ u.rg.state = .fadingOut ∧ u.rg.map = s.rg.map ∧ u.rg.r = s.rg.r)
    ∧ (∀ ob, s.rg.applyMark = none → (s.port p).batch = some ob →
        let joins := fun (es : List Entry) => exec (.wall p w.val o) s = .next (answered p .wall .ok [] ((received p s).setPort p
          { (received p s).port p with batch := some { entries := es, idle := 0 } }))
        ((∀ y ∈ ob.entries, y.key ≠ (.wall, w.val)) → ob.entries.length < 64 → joins (ob.entries ++ [.wall w o]))
        ∧ ((∃ y ∈ ob.entries, y.key = (.wall, w.val)) →
            joins (ob.entries.map fun y => if y.key = (.wall, w.val) then .wall w o else y))
        ∧ ((∀ y ∈ ob.entries, y.key ≠ (.wall, w.val)) → 64 ≤ ob.entries.length →
            exec (.wall p w.val o) s = .next (answered p .wall .batchFull [5, w.val] (received p s))))

/-- R24, R33, R151, R152: BEGIN, COMMIT and ABANDON: what becomes of the open batch, where a committed batch goes, and each
refusal. A COMMIT without an open batch is NO_BATCH under the apply mark too (log 33). -/
def Obligations.BatchRequestsMoveTheBatch : Prop :=
  ∀ (p : Port) (s : State), Ready s p .config →
    let r := (received p s).port p
    ((s.port p).batch = none →
      exec (.beginBatch p) s = .next (answered p .beginBatch .ok []
        ((received p s).setPort p { r with batch := some { entries := [], idle := 0 } }))
      ∧ exec (.commit p) s = .next (refused p .commit .noBatch s)
      ∧ exec (.abandon p) s = .next (refused p .abandon .noBatch s))
    ∧ ∀ ob, (s.port p).batch = some ob →
        exec (.beginBatch p) s = .next (refused p .beginBatch .busy s)
        ∧ exec (.abandon p) s = .next (answered p .abandon .ok [] ((received p s).setPort p { r with batch := none }))
        ∧ (s.rg.applyMark.isSome = true → exec (.commit p) s = .next (refused p .commit .busy s))
        ∧ (s.rg.applyMark = none → ob.entries.any (Entry.isCause s.live) = false →
            exec (.commit p) s = .next (answered p .commit .ok [] ((received p s).setPort p
              { r with batch := none, committed := r.committed ++ [{ entries := ob.entries, byCommit := true }] })))
        ∧ (s.rg.applyMark = none → ob.entries.any (Entry.isCause s.live) = true →
            (s.rg.changes.any (fun c => decide (c.port = p)) = true → exec (.commit p) s = .next (refused p .commit .busy s))
            ∧ (s.rg.changes.any (fun c => decide (c.port = p)) = false →
              ∃ u, exec (.commit p) s = .next (answered p .commit .ok [] u)
                ∧ u = { (received p s).setPort p { r with batch := none } with rg := u.rg }
                ∧ u.rg.changes = s.rg.changes ++ [{ port := p, batch := { entries := ob.entries, byCommit := true } }]
                ∧ u.rg.state = .fadingOut))

/-- R49, R57, R101, R152, R153: BATCH_APPLICATION writes the committed list to the live tables in commit order, each entry in
list order, empties the list, leaves targets derived, and posts BATCH APPLIED for a batch that COMMIT closed, after all that the
application posts (log 18); a mode change clears a slot's gates, and the count of an evaluation taken ahead (R101; log 1);
BATCH_IDLE_TIMEOUT at a count of 1999 discards the open batch and posts BATCH ABANDONED to its own port (both rows ahead of
their boundary: log 1). FRAME_BOUNDARY does the same for both ports, Port A's list first (log 3), and raises the idle counts. -/
def Obligations.BatchesAreAppliedOrAbandoned : Prop :=
  (∀ (p : Port) (s : State), s.held = false →
    (∃ t, exec (.batchApplication p) s = .next t ∧ (t.port p).committed = []
      ∧ t.live = ((s.port p).committed.flatMap (·.entries)).foldl Image.write s.live
      ∧ (TargetsDerived s → TargetsDerived t)
      ∧ (∀ b, (s.port p).committed = [b] →
          (b.byCommit = true → (t.port p).queue.getLast? = some (Notice.batchApplied b.entries.length false) ∨ (t.port p).overflow = true)
          ∧ (∀ m : Fin 16, s.mode (t.micPart m) ≠ t.mode (t.micPart m) → (t.gates[m]).state = .closed ∧ (t.gates[m]).counter = 0)
          ∧ ∀ q : Fin 4, t.ahead.counts[q] =
              if s.mode q = t.mode q then s.ahead.counts[q] else if s.ahead.counts[q] = none then none else some 0)
      ∧ t.ahead.floors = s.ahead.floors
      ∧ t = { s with live := t.live, gates := t.gates, ahead := t.ahead, floors := t.floors, mute := t.mute, env := t.env,
                     portA := t.portA, portB := t.portB, lineA := t.lineA }
      ∧ ∀ q : Port, t.port q =
          { s.port q with committed := if q = p then [] else (s.port q).committed
                          queue := (t.port q).queue, overflow := (t.port q).overflow })
    ∧ (∀ ob, (s.port p).batch = some ob → ob.idle = 1999 →
        exec (.batchIdleTimeout p) s = .next (settleLine ((s.setPort p { s.port p with batch := none }).postTo p
          (.batchAbandoned ob.entries.length)))))
  ∧ ∀ (sense : Sense) (early : Bool) (s : State), s.held = false →
      ∃ t, exec (.frameBoundary sense early) s = .next t
        ∧ t.portA.committed = [] ∧ t.portB.committed = []
        ∧ (s.rg.state ≠ .fadingOut ∨ s.rg.tested = true →
            t.live = ((s.portA.committed ++ s.portB.committed).flatMap (·.entries)).foldl Image.write s.live)
        ∧ ∀ p : Port,
            t.port p = { s.port p with batch := (t.port p).batch, committed := []
                                       queue := (t.port p).queue, overflow := (t.port p).overflow }
            ∧ (∀ b ∈ (s.port p).committed, b.byCommit = true →
              Notice.batchApplied b.entries.length false ∈ (t.port p).queue ∨ (t.port p).overflow = true)
            ∧ ((s.port p).batch = none → (t.port p).batch = none)
            ∧ (∀ ob, (s.port p).batch = some ob →
                (ob.idle < 1999 → (t.port p).batch = some { ob with idle := ob.idle + 1 })
                ∧ (1999 ≤ ob.idle → (t.port p).batch = none
                  ∧ (Notice.batchAbandoned ob.entries.length ∈ (t.port p).queue ∨ (t.port p).overflow = true)))

/-- R145, R155, R156, R158: LOWER, NOTICES and FLAGS: the profile taken and what a lost CONFIG class discards; the notices
waiting counted, on Port A released for sending; the flag set, ECHO and FOLLOW excluding each other. -/
def Obligations.ProfileNoticesAndFlags : Prop :=
  ∀ (p : Port) (s : State), s.held = false →
    let r := (received p s).port p
    (∀ n : Profile, (∀ c, allows n c = true → allows (s.port p).profile c = true) →
      exec (.lower p n) s = .next (answered p .lower .ok [] ((received p s).setPort p
        (if allows (s.port p).profile .config = true ∧ allows n .config = false
          then { r with profile := n, batch := none, keep := none } else { r with profile := n }))))
    ∧ (∀ n : Profile, (∃ c, allows n c = true ∧ allows (s.port p).profile c = false) →
      exec (.lower p n) s = .next (refused p .lower .access s))
    ∧ exec (.notices p) s = .next (answered p .notices .ok [(s.port p).queue.length + if (s.port p).overflow then 1 else 0]
        (match p with
          | .a => { received .a s with lineA := { (received .a s).lineA with released := s.portA.queue.length } }
          | .b => received .b s))
    ∧ ∀ (f : PortFlag) (on : Bool),
        exec (.flags .b f on) s = .next (refused .b .flags .badRequest s)
        ∧ ∃ u, exec (.flags .a f on) s = .next (answered .a .flags .ok
              [if u.lineA.echo then 1 else 0, if u.lineA.follow then 1 else 0, if u.lineA.autoReport then 1 else 0] u)
            ∧ u = { received .a s with lineA := u.lineA }
            ∧ u.lineA.echo = (if f = .echo then on else s.lineA.echo && !(decide (f = .follow) && on))
            ∧ u.lineA.follow = (if f = .follow then on else s.lineA.follow && !(decide (f = .echo) && on))
            ∧ u.lineA.autoReport = (if f = .autoReport then on else s.lineA.autoReport)

/-- R144, R154, R155, R156: Port A's characters, lines and sent lines. A character is kept or overruns, and is echoed under
ECHO, at once or after the line being sent; while no response waits, it is moved on in capitals, a line feed dropped, a carriage
return kept; a line is refused OVERRUN or LONG, ignored when it holds no word (log 24, as are spaces before the first and after the last
word), refused BAD_REQUEST, BAD_OPERAND or ACCESS, or taken as the request it spells, a CLEAR as the CLEAR row is; OVERRUN, LONG and BAD_REQUEST carry the cursor (log 27);
a notice leaves the queue when its line has been sent. After each of these and every other command, a transmitter that is free,
with no echoed request line open (log 24), starts a line: a waiting response, else a follow line with the content as it stands,
else, under AUTO-REPORT or while notices are released, OVERFLOW where its flag is set (one set during such a delivery too: log 46)
or the oldest notice; otherwise none. Then, while no response waits, all characters before the first carriage return move on. -/
def Obligations.PortACharactersAndLines : Prop :=
  (∀ s : State,
    let a := s.lineA
    let t := settleLine s
    let notice : Option TxLine :=
      if a.autoReport = true ∨ 0 < a.released then
        if s.portA.overflow = true then some .overflow else (s.portA.queue.head?).map fun n => .notice n
      else none
    (a.sending ≠ none ∨ a.echoOpen = true → t.lineA.sending = a.sending ∧ t.lineA.responses = a.responses
      ∧ t.lineA.followReady = a.followReady ∧ t.lineA.followEntry = a.followEntry)
    ∧ (a.sending = none → a.echoOpen = false →
        (∀ r rs, a.responses = r :: rs → t.lineA.sending = some r ∧ t.lineA.responses = rs
          ∧ t.lineA.followReady = a.followReady ∧ t.lineA.followEntry = a.followEntry)
        ∧ (a.responses = [] → t.lineA.responses = []
          ∧ (∀ f, a.followReady = true → a.followEntry = some f →
              t.lineA.sending = some (.follow f.cursor.table f.cursor.index (s.entryAt f.cursor))
              ∧ t.lineA.followReady = false ∧ t.lineA.followEntry = some { f with sent := s.entryAt f.cursor })
          ∧ (a.followReady = false ∨ a.followEntry = none → t.lineA.sending = notice
              ∧ t.lineA.followReady = a.followReady ∧ t.lineA.followEntry = a.followEntry)))
    ∧ (t.lineA.responses ≠ [] → t.lineA.rx = a.rx ∧ t.lineA.buf = a.buf ∧ t.lineA.long = a.long)
    ∧ (t.lineA.responses = [] →
        let moved := (a.rx.takeWhile fun ch => ch != 0x0D).filter fun ch => ch != 0x0A
        t.lineA.rx = (a.rx.dropWhile fun ch => ch != 0x0D)
        ∧ t.lineA.buf = a.buf ++ (moved.map fun ch => if 0x61 ≤ ch ∧ ch ≤ 0x7A then ch - 0x20 else ch).take (80 - a.buf.length)
        ∧ (t.lineA.long = true ↔ a.long = true ∨ (moved ≠ [] ∧ 80 < a.buf.length + moved.length)))
    ∧ t = { s with lineA := { a with sending := t.lineA.sending, responses := t.lineA.responses, followReady := t.lineA.followReady
                                     followEntry := t.lineA.followEntry, rx := t.lineA.rx, buf := t.lineA.buf, long := t.lineA.long } })
  ∧ (∀ (c : Instr) (s t : State), exec c s = .next t → s.held = false → c ≠ .resetAsserted → settleLine t = t)
  ∧ ∀ s : State, s.held = false →
    let a := s.lineA
    (∀ ch : Byte, ∃ t, exec (.portACharacterReceived ch) s = .next t ∧ t = { s with lineA := t.lineA }
      ∧ (let kept := decide (a.rx.length < 128)
         let echoed := a.echo && kept
         t = settleLine { s with lineA := { a with
           rx := if kept then a.rx ++ [ch] else a.rx
           overrun := a.overrun || !kept
           echoWait := if echoed && a.sending.isSome then a.echoWait ++ [ch] else a.echoWait
           echoOut := if echoed && !a.sending.isSome then [ch] else []
           echoOpen := if ch = 0x0D then false else a.echoOpen || (echoed && decide (ch ≠ 0x0A)) } })
      ∧ (a.responses = [] → a.rx.head? = some 0x0D → t.lineA.buf = a.buf ∧ t.lineA.long = a.long
          ∧ (a.rx.length < 128 → t.lineA.rx = a.rx ++ [ch] ∧ t.lineA.overrun = a.overrun)
          ∧ (128 ≤ a.rx.length → t.lineA.rx = a.rx ∧ t.lineA.overrun = true))
      ∧ (a.responses ≠ [] → a.sending.isSome = true →
          (a.rx.length < 128 → t.lineA.rx = a.rx ++ [ch] ∧ t.lineA.overrun = a.overrun ∧ t.lineA.buf = a.buf)
          ∧ (128 ≤ a.rx.length → t.lineA.rx = a.rx ∧ t.lineA.overrun = true ∧ t.lineA.echoWait = a.echoWait)
          ∧ (a.echo = true → a.rx.length < 128 → t.lineA.echoWait = a.echoWait ++ [ch]))
      ∧ t.lineA.echoOut = (if a.echo = true ∧ a.rx.length < 128 ∧ a.sending = none then [ch] else [])
      ∧ (a.responses = [] → a.rx = [] →
          (ch = 0x0A → t.lineA.rx = [] ∧ t.lineA.buf = a.buf ∧ t.lineA.long = a.long)
          ∧ (ch = 0x0D → t.lineA.rx = [0x0D] ∧ t.lineA.buf = a.buf ∧ t.lineA.long = a.long)
          ∧ (ch ≠ 0x0D → ch ≠ 0x0A → t.lineA.rx = [] ∧
            (a.buf.length < 80 → t.lineA.buf = a.buf ++ [if 0x61 ≤ ch ∧ ch ≤ 0x7A then ch - 0x20 else ch] ∧ t.lineA.long = a.long)
            ∧ (80 ≤ a.buf.length → t.lineA.buf = a.buf ∧ t.lineA.long = true))))
    ∧ (a.rx.head? ≠ some 0x0D ∨ a.responses ≠ [] → exec .portALineEnd s = .next (settleLine s))
    ∧ (∀ rest, a.rx = 0x0D :: rest → a.responses = [] →
        let s1 : State := { s with lineA := { a with rx := rest, buf := [], long := false, overrun := false } }
        let answer := fun (st : Status) (s' : State) =>
          settleLine (respond .a 0 st s.portA.cursor.data (received .a s'))
        (a.overrun = true → exec .portALineEnd s = .next (answer .overrun s1))
        ∧ (a.overrun = false → a.long = true → exec .portALineEnd s = .next (answer .long s1))
        ∧ (a.overrun = false → a.long = false → splitWords a.buf [] = [] → exec .portALineEnd s = .next (settleLine s1))
        ∧ (∀ w ws, a.overrun = false → a.long = false → splitWords a.buf [] = w :: ws →
            (requestOfText w = none ∨ wordOperands ws = none → exec .portALineEnd s = .next (answer .badRequest s1))
            ∧ (∀ name ops, requestOfText w = some name → wordOperands ws = some ops →
              (∀ r, readRequest name ops = some r → exec .portALineEnd s =
                  if r = .clear then exec (.clear .a) s1 else .next (settleLine (request .a r s1)))
              ∧ (readRequest name ops = none → exec .portALineEnd s = .next (refused .a name
                  (if allows s.portA.profile (wireClass name ops) = true then .badOperand else .access) s1)))))
    ∧ (a.sending = none → exec .portALineSent s = .next (settleLine s))
    ∧ (∀ l, a.sending = some l → ∃ t, exec .portALineSent s = .next t
        ∧ t = settleLine { s with
            portA := { s.portA with queue := t.portA.queue, overflow := t.portA.overflow }
            lineA := { a with sending := none, echoWait := [], echoOut := a.echoWait, released := t.lineA.released } }
        ∧ t.portA.queue = (match l with | .notice _ => s.portA.queue.drop 1 | _ => s.portA.queue)
        ∧ t.portA.overflow = (match l with | .overflow => false | _ => s.portA.overflow)
        ∧ t.lineA.echoOut = a.echoWait ∧ t.lineA.echoWait = []
        ∧ t.lineA.released = (match l with | .notice _ => a.released - 1 | _ => a.released)
        ∧ t = { s with portA := { s.portA with queue := t.portA.queue, overflow := t.portA.overflow }, lineA := t.lineA })

/-- R144, R157, R158, R160: Port B's transactions. At another address nothing is the part's (log 31). A write is nothing,
TRUNCATED (whatever its stated length: log 42), BAD_REQUEST (FLAGS too), BAD_OPERAND or ACCESS, or the request it spells, a CLEAR
as the CLEAR row is; TRUNCATED and BAD_REQUEST carry the cursor (log 27). A read returns response, OVERFLOW, notices and zeros, removes exactly the notices read to
their last byte, and leaves the response record. The record's bytes are status, code, length in bytes (log 6) and operands of
four bytes, a scene page header in the widths of 9.11 (log 37); those of a notice are kind, payload length and payload, FFh for a
field that does not apply, the wall states of a WALL notice as CLOSED 0 and OPEN 1 (log 7). -/
def Obligations.PortBTransactions : Prop :=
  (∀ n : Notice,
    let b : Nat → Byte := BitVec.ofNat 8
    let flag : Bool → Byte := fun x => if x then 1 else 0
    let link : LinkState → Byte := fun x => match x with
      | .down => 0 | .training => 1 | .active => 2 | .doze => 3 | .retrain => 4 | .detached => 5 | .fault => 6
    let cause : LinkCause → Byte := fun x => match x with
      | .request => 0 | .auto => 1 | .hello => 2 | .badFrames => 3 | .dozeAck => 4 | .wake => 5 | .button => 6 | .detachAck => 7
      | .noAck => 8 | .attempts => 9 | .faultReport => 10 | .residency => 11 | .nak => 12
    let wall : WallState → Byte := fun x => match x with | .closed => 0 | .opened => 1
    n.bytes = match n with
      | .start c d => [0x01, 2, match c with | .power => 0 | .pin => 1 | .clear => 2, flag d]
      | .holds i h => [0x02, 2, b i.val, flag h.priv + 2 * flag h.chair + 4 * flag h.far + 8 * flag h.group + 16 * flag h.link]
      | .unmute m f c => [0x03, 3, b m.val, flag f, match c with | .pod => 0 | .dismiss => 1 | .cleared => 2 | .link => 3]
      | .floor p m e => [0x04, 3, b p.val, b m.val, match e with
          | .queued => 0 | .granted => 1 | .withdrawn => 2 | .released => 3 | .revoked => 4 | .bumped => 5 | .expired => 6
          | .cleared => 7 | .removed => 8]
      | .speechWarn p m l => [0x05, 6, b p.val, b m.val, 0, 0xFF, b (l / 256), b l]
      | .speechExpired p m r l => [0x05, 6, b p.val, b m.val, 1, flag r, b (l / 256), b l]
      | .link i x y c f => [0x06, 6, b i.val, link x, link y, 0, cause c, match f with | none => 0xFF | some k => k]
      | .dozeRefused i c => [0x06, 6, b i.val, 2, 2, 1, cause c, 0xFF]
      | .wall w x o y => [0x07, 4, b w.val, wall x, match o with | .follow => 0 | .opened => 1 | .closed => 2, wall y]
      | .regroupDone m w => [0x08, 5, b (m[0]).val, b (m[1]).val, b (m[2]).val, b (m[3]).val, flag w]
      | .scene e x g => [0x09, 3, match e with
            | .loaded => 0 | .captured => 1 | .stored => 2 | .amended => 3 | .erased => 4 | .applied => 5 | .checkFailed => 6
            | .failed => 7,
          match x with | none => 0xFF | some k => b k.val, match g with | none => 0xFF | some k => b k.val]
      | .batchApplied k w => [0x0A, 3, 0, b k, flag w]
      | .batchAbandoned k => [0x0A, 3, 1, b k, 0xFF]
      | .sync x => [0x0B, 1, match x with | .lost => 0 | .locked => 1])
  ∧ ∀ (address : Fin 128) (s : State), s.held = false →
    (address.val ≠ 0x68 + s.pins.address.val →
      (∀ bytes, exec (.portBWriteTransaction address bytes) s = .next (settleLine s))
      ∧ ∀ count, exec (.portBReadTransaction address count) s = .next (settleLine s))
    ∧ (address.val = 0x68 + s.pins.address.val →
    let answer := fun (code : Byte) (st : Status) => settleLine (respond .b code st s.portB.cursor.data (received .b s))
    exec (.portBWriteTransaction address []) s = .next (settleLine s)
    ∧ (∀ code, exec (.portBWriteTransaction address [code]) s = .next (answer code .truncated))
    ∧ (∀ code len ops,
        (ops.length < BitVec.toNat len → exec (.portBWriteTransaction address (code :: len :: ops)) s = .next (answer code .truncated))
        ∧ (BitVec.toNat len < ops.length → exec (.portBWriteTransaction address (code :: len :: ops)) s = .next (answer code .badRequest))
        ∧ (BitVec.toNat len = ops.length → (ops.length % 4 ≠ 0 ∨ requestOfCode code = none ∨ code = 0x09) →
            exec (.portBWriteTransaction address (code :: len :: ops)) s = .next (answer code .badRequest))
        ∧ (∀ name, BitVec.toNat len = ops.length → ops.length % 4 = 0 → requestOfCode code = some name → name ≠ .flags →
            let args := recordOperands (ops.length / 4) ops
            (∀ r, readRequest name args = some r → exec (.portBWriteTransaction address (code :: len :: ops)) s =
              if r = .clear then exec (.clear .b) s else .next (settleLine (request .b r s)))
            ∧ (readRequest name args = none → exec (.portBWriteTransaction address (code :: len :: ops)) s =
              .next (refused .b name (if allows s.portB.profile (wireClass name args) = true then .badOperand else .access) s))))
    ∧ (∀ count, ∃ t k, exec (.portBReadTransaction address count) s = .next t
        ∧ t.recB.readOut.length = count
        ∧ (let stream := s.recB.bytes ++ (if s.portB.overflow then [0x0C, 0x00] else []) ++ s.portB.queue.flatMap Notice.bytes
           t.recB = { s.recB with readOut := (stream ++ List.replicate count 0).take count })
        ∧ (let head := s.recB.bytes.length + if s.portB.overflow then 2 else 0
           t.portB = { s.portB with queue := s.portB.queue.drop k, overflow := s.portB.overflow && decide (count < head) }
           ∧ k ≤ s.portB.queue.length
           ∧ (k = 0 ∨ head + ((s.portB.queue.take k).flatMap Notice.bytes).length ≤ count)
           ∧ (k < s.portB.queue.length → count < head + ((s.portB.queue.take (k + 1)).flatMap Notice.bytes).length))
        ∧ t = { s with recB := t.recB, portB := t.portB, lineA := t.lineA }))
    ∧ (s.recB.header = false → s.recB.bytes =
        [statusCode s.recB.status, s.recB.code, BitVec.ofNat 8 (4 * s.recB.data.length)] ++ s.recB.data.flatMap (bigEndian 4))
    ∧ (∀ k : Fin 32, s.portB.cursor = { table := .pages, view := .live, index := k.val } →
        ∃ t, exec (.showEntry .b) s = .next t ∧ t.recB.bytes = [0x00, 0x02, 22, if (s.scene.pages[k]).mark = true then 1 else 0]
          ++ (s.scene.pages[k]).label.toList.flatMap (fun x => bigEndian 4 x.toNat)
          ++ bigEndian 3 (s.scene.pages[k]).count ++ bigEndian 2 (s.scene.pages[k]).check.toNat)

/-! ## Scenes -/

/-- R33, R164, R165, R167 to R169: LOAD, CAPTURE, STORE, AMEND, ERASE and APPLY by the buffer's lock and status, the engine,
the page's mark and the regroup machine: each refusal in its order, and what a request that passes locks and starts, the
power-on record of a STORE to page 0 among it. -/
def Obligations.SceneRequestsAreTaken : Prop :=
  ∀ (p : Port) (k : Fin 32) (b : Fin 2) (s : State),
    let x := s.scene.bufs[b]
    let locks := fun (u : State) (l : Lock) => u.scene.bufs = s.scene.bufs.set b.val { x with lock := l }
    let starts := fun (u : State) (op : EngineOp) => ∃ j, u.scene.job = some j ∧ j.op = op ∧ j.page = k ∧ j.erased = false
      ∧ j.kept = (if 999999 < (s.scene.pages[k]).count then 0 else (s.scene.pages[k]).count)
      ∧ (op ≠ .erase → j.buffer = some b) ∧ (op = .erase → j.buffer = none)
      ∧ (op ≠ .store ∨ k ≠ 0 → j.powerOn = none)
      ∧ (op = .store → k = 0 →
          (∀ r, x.source = some 0 → x.powerOn = some r → j.powerOn = some r)
          ∧ (∀ r, x.source ≠ some 0 → (s.scene.pages[k]).mark = true → (s.scene.pages[k]).contents.powerOn = some r → j.powerOn = some r)
          ∧ (x.source ≠ some 0 → (s.scene.pages[k]).mark = false → j.powerOn = some factoryPowerOn))
    let scene := fun (u : State) => u = { received p s with scene := u.scene }
    (Ready s p .config →
      exec (.load p k.val b.val) s = .next (if x.lock ≠ .free then refused p .load .bufferBusy s
        else if s.scene.job.isSome then refused p .load .busy s
        else if (s.scene.pages[k]).mark = false then refused p .load .pageInvalid s
        else answered p .load .ok [] (startJob .load k (some b) none (lockBuf b .engine (received p s))))
      ∧ (x.lock = .free → s.scene.job = none → (s.scene.pages[k]).mark = true →
          ∃ u, exec (.load p k.val b.val) s = .next (answered p .load .ok [] u) ∧ locks u .engine ∧ starts u .load ∧ scene u
            ∧ u.scene.pages = s.scene.pages)
      ∧ (x.lock ≠ .free → exec (.capture p b.val) s = .next (refused p .capture .bufferBusy s))
      ∧ (x.lock = .free → ∃ u, exec (.capture p b.val) s = .next (answered p .capture .ok [] u) ∧ locks u .capture ∧ scene u
          ∧ u.scene.pages = s.scene.pages ∧ u.scene.job = s.scene.job)
      ∧ (x.lock ≠ .free → exec (.apply p b.val) s = .next (refused p .apply .bufferBusy s))
      ∧ (x.lock = .free → x.status = .empty → exec (.apply p b.val) s = .next (refused p .apply .emptyBuffer s))
      ∧ (x.lock = .free → x.status ≠ .empty → s.rg.state ≠ .steady → exec (.apply p b.val) s = .next (refused p .apply .busy s))
      ∧ (x.lock = .free → x.status ≠ .empty → s.rg.state = .steady →
          ∃ u, exec (.apply p b.val) s = .next (answered p .apply .ok [] u) ∧ locks u .apply
            ∧ u = { received p s with rg := u.rg, scene := u.scene } ∧ u.scene.pages = s.scene.pages ∧ u.scene.job = s.scene.job
            ∧ u.rg.state = .fadingOut ∧ u.rg.applyMark = some b ∧ u.rg.affected = same 26 true ∧ u.live = s.live
            ∧ u.rg.map = s.rg.map ∧ u.rg.r = s.rg.r
            ∧ u.rg.pendMap = mapOf (tab fun w => effectiveOf x.image.wall[w] (s.walls[w]).sensed)))
    ∧ (Ready s p (if k = 0 then .system else .config) →
      (x.lock ≠ .free → exec (.store p b.val k.val) s = .next (refused p .store .bufferBusy s)
        ∧ exec (.amend p b.val k.val) s = .next (refused p .amend .bufferBusy s))
      ∧ (x.lock = .free → x.status = .empty → exec (.store p b.val k.val) s = .next (refused p .store .emptyBuffer s))
      ∧ (x.lock = .free → x.status ≠ .modified → exec (.amend p b.val k.val) s = .next (refused p .amend .emptyBuffer s))
      ∧ (x.lock = .free → s.scene.job.isSome = true →
          (x.status ≠ .empty → exec (.store p b.val k.val) s = .next (refused p .store .busy s))
          ∧ (x.status = .modified → exec (.amend p b.val k.val) s = .next (refused p .amend .busy s)))
      ∧ (s.scene.job.isSome = true → exec (.erase p k.val) s = .next (refused p .erase .busy s))
      ∧ (x.lock = .free → s.scene.job = none →
          (x.status ≠ .empty → ∃ u, exec (.store p b.val k.val) s = .next (answered p .store .ok [] u)
            ∧ locks u .engine ∧ starts u .store ∧ scene u ∧ u.scene.pages = s.scene.pages)
          ∧ (x.status = .modified → (s.scene.pages[k]).mark = false →
              exec (.amend p b.val k.val) s = .next (refused p .amend .pageInvalid s))
          ∧ (x.status = .modified → (s.scene.pages[k]).mark = true →
              ∃ u, exec (.amend p b.val k.val) s = .next (answered p .amend .ok [] u)
                ∧ locks u .engine ∧ starts u .amend ∧ scene u ∧ u.scene.pages = s.scene.pages))
      ∧ (s.scene.job = none → ∃ u, exec (.erase p k.val) s = .next (answered p .erase .ok [] u) ∧ starts u .erase ∧ scene u
          ∧ u.scene.pages = s.scene.pages.set k.val { s.scene.pages[k] with mark := false, flag := 0 }
          ∧ u.scene.bufs = s.scene.bufs))

/-- R164 to R168: LOAD_COMPLETE, CAPTURE_COPY, ERASE_STAGE, STORE_COMPLETE, AMEND_COMPLETE and ERASE_COMPLETE put the result of
the operation in flight in place, free the lock and the engine, and post the SCENE notice of the outcome; every other page and
buffer stays. Without such an operation they do nothing. How a read or a verify went is the row's operand (log 17), and a
completion without its erase stage completes too (log 16). FRAME_BOUNDARY takes the capture copy itself, after the boundary's
batches (log 3). -/
def Obligations.SceneOperationsComplete : Prop :=
  (∀ (b : Fin 2) (s : State), s.held = false →
    let captured : Image → Buffer := fun img =>
      { status := .captured, source := none, powerOn := none, dirty := [], lock := .free, label := noLabel, image := img }
    ((s.scene.bufs[b]).lock = .capture → ∃ u, exec (.captureCopy b) s = .next (settleLine (State.post u [.scene .captured (some b) none]))
        ∧ u = { s with scene := { s.scene with bufs := s.scene.bufs.set b.val (captured s.live) } })
    ∧ ((s.scene.bufs[b]).lock ≠ .capture → exec (.captureCopy b) s = .next (settleLine s))
    ∧ ∀ sense early, (s.scene.bufs[b]).lock = .capture → s.rg.applyMark ≠ some b →
        ∃ t, exec (.frameBoundary sense early) s = .next t ∧ t.scene.bufs[b] = captured t.live)
  ∧ (∀ (c : Instr) (s : State), s.held = false → s.scene.job = none →
      ((∃ x, c = .loadComplete x ∨ c = .storeComplete x) ∨ (∃ x y, c = .amendComplete x y) ∨ c = .eraseComplete ∨ c = .eraseStage) →
      exec c s = .next (settleLine s))
  ∧ ∀ (j : Job) (b : Fin 2) (s : State), s.held = false → s.scene.job = some j →
    let x := s.scene.bufs[b]
    let g := s.scene.pages[j.page]
    let ended := fun (c : Instr) (ev : SceneEvent) (buf : Option (Fin 2)) (page : Page → Prop) (done : Buffer → Prop) =>
      ∃ u, exec c s = .next (settleLine (State.post u [.scene ev buf (some j.page)])) ∧ u = { s with scene := u.scene, freeCount := u.freeCount }
        ∧ u.scene.job = none ∧ page u.scene.pages[j.page] ∧ (∀ k : Fin 32, k ≠ j.page → u.scene.pages[k] = s.scene.pages[k])
        ∧ (∀ d : Fin 2, buf ≠ some d → u.scene.bufs[d] = s.scene.bufs[d]) ∧ (∀ d, buf = some d → done u.scene.bufs[d])
    let unlocked : Buffer → Prop := fun y => y = { x with lock := .free }
    let written : Contents → Page → Prop := fun c' y => y =
      { mark := true, flag := 1, label := c'.label, count := min (j.kept + 1) 999999, check := c'.check, contents := c' }
    let failed : Page → Prop := fun y => y.mark = false ∧ y.flag = 0 ∧ y.count = j.kept
    (j.op = .load → j.buffer = some b →
      (g.check = g.contents.check → ended (.loadComplete true) .loaded (some b) (· = g) fun y => y =
          { status := .loaded, source := some j.page, powerOn := if j.page = 0 then g.contents.powerOn else none, dirty := [],
            lock := .free, label := g.contents.label, image := g.contents.image })
      ∧ ∀ readOk, readOk = false ∨ g.check ≠ g.contents.check →
        ended (.loadComplete readOk) .checkFailed (some b) (· = { g with mark := false }) fun y =>
          y.status = .empty ∧ y.source = none ∧ y.powerOn = none ∧ y.dirty = [] ∧ y.lock = .free)
    ∧ (j.op = .store ∨ (j.op = .amend ∧ g.check = g.contents.check) → exec .eraseStage s = .next (settleLine
        { s with scene := { s.scene with job := some { j with erased := true }
                                         pages := s.scene.pages.set j.page.val { g with mark := false, flag := 0 } } }))
    ∧ (j.op = .store → j.buffer = some b →
      ended (.storeComplete true) .stored (some b) (written { label := x.label, image := x.image, powerOn := j.powerOn }) unlocked
      ∧ ended (.storeComplete false) .failed (some b) failed unlocked)
    ∧ (j.op = .amend → j.buffer = some b →
      let dirty : TableId → Nat → Bool := fun t k => decide ((t, k) ∈ x.dirty)
      let new : Contents :=
        { label := if dirty .device 0 then x.label else g.contents.label
          powerOn := if dirty .device 0 = true ∧ j.page = 0 ∧ x.powerOn.isSome = true then x.powerOn else g.contents.powerOn
          image :=
            { xpt := tab fun i => if dirty .crosspoint i.val then x.image.xpt[i] else g.contents.image.xpt[i]
              src := tab fun i => if dirty .source i.val then x.image.src[i] else g.contents.image.src[i]
              bus := tab fun i => if dirty .bus i.val then x.image.bus[i] else g.contents.image.bus[i]
              sec := tab fun i => if dirty .sect i.val then x.image.sec[i] else g.contents.image.sec[i]
              grp := tab fun i => if dirty .group i.val then x.image.grp[i] else g.contents.image.grp[i]
              wall := tab fun i => if dirty .wall i.val then x.image.wall[i] else g.contents.image.wall[i]
              muteCode := if dirty .device 0 then x.image.muteCode else g.contents.image.muteCode
              busCode := if dirty .device 0 then x.image.busCode else g.contents.image.busCode } }
      ((∀ k ∈ x.dirty, k.1 = .device → k.2 = 0) → ∀ readOk, j.erased = true ∨ (readOk = true ∧ g.check = g.contents.check) →
        ended (.amendComplete readOk true) .amended (some b) (written new) unlocked)
      ∧ (∀ readOk, j.erased = true ∨ (readOk = true ∧ g.check = g.contents.check) →
        ended (.amendComplete readOk false) .failed (some b) failed unlocked)
      ∧ ∀ readOk verified, j.erased = false → readOk = false ∨ g.check ≠ g.contents.check →
        ended (.amendComplete readOk verified) .checkFailed (some b) (· = { g with mark := false }) unlocked)
    ∧ (j.op = .erase → j.buffer = none → ended .eraseComplete .erased none (fun y =>
        y.mark = false ∧ y.flag = 0 ∧ y.count = g.count ∧ y.label = same 4 0) fun _ => True)

/-! ## Frames of the requests -/

/-- R105, R140, R143, R144, R163, R164: what each family of requests may change at most: conference holds leave every floor
record, link and table alone; floor requests leave every hold, gate and link alone; LINK leaves tables and audio alone; edits
leave the live tables, the map in force and every other unit alone; scene requests leave them alone too. -/
def Obligations.RequestsKeepTheirFrames : Prop :=
  ∀ (c : Instr) (p : Port) (r : Request) (s t : State), portRequest c = some (p, r) → exec c s = .next t →
    ((∃ x, r = .hold x ∨ r = .free x ∨ r = .dismiss x) ∨ r = .freeAll ∨ (∃ g, r = .gmute g ∨ r = .gunmute g)
        ∨ (∃ n on, r = .quiet n on) →
      t = { s with mute := t.mute, gates := t.gates, env := t.env, portA := t.portA, portB := t.portB, lineA := t.lineA, recB := t.recB })
    ∧ ((∃ n, r = .ask n ∨ r = .withdraw n ∨ r = .release n ∨ r = .grant n ∨ r = .grantNext n ∨ r = .revoke n ∨ r = .clearQ n) →
      t = { s with floors := t.floors, env := t.env, portA := t.portA, portB := t.portB, lineA := t.lineA, recB := t.recB })
    ∧ ((∃ n req, r = .link n req) →
      t = { s with links := t.links, mute := t.mute, gates := t.gates, env := t.env, floors := t.floors,
                   portA := t.portA, portB := t.portB, lineA := t.lineA, recB := t.recB })
    ∧ ((∃ a b d, r = .select a b d) ∨ r = .showEntry ∨ (∃ n, r = .mask n) ∨ (∃ ops, r = .enter ops) ∨ r = .beginBatch ∨ r = .commit
        ∨ r = .abandon ∨ (∃ n o, r = .wall n o) ∨ r = .notices ∨ (∃ f on, r = .flags f on) ∨ (∃ n, r = .lower n) →
      t = { s with rg := t.rg, mix := t.mix, scene := t.scene, portA := t.portA, portB := t.portB, lineA := t.lineA, recB := t.recB }
      ∧ t.rg.map = s.rg.map ∧ t.mix.snap = s.mix.snap ∧ t.scene.pages = s.scene.pages ∧ t.scene.job = s.scene.job)
    ∧ ((∃ k b, r = .load k b ∨ r = .store b k ∨ r = .amend b k) ∨ (∃ b, r = .capture b ∨ r = .apply b) ∨ (∃ k, r = .erase k) →
      t = { s with rg := t.rg, scene := t.scene, portA := t.portA, portB := t.portB, lineA := t.lineA, recB := t.recB }
      ∧ t.rg.map = s.rg.map)
    ∧ (p = .a → t.recB = s.recB ∧ t.portB.cursor = s.portB.cursor ∧ t.portB.batch = s.portB.batch
        ∧ t.portB.committed = s.portB.committed ∧ t.portB.keep = s.portB.keep ∧ t.portB.profile = s.portB.profile ∨ r = .clear)
    ∧ (p = .b → t.portA.cursor = s.portA.cursor ∧ t.portA.batch = s.portA.batch
        ∧ t.portA.committed = s.portA.committed ∧ t.portA.keep = s.portA.keep ∧ t.portA.profile = s.portA.profile ∨ r = .clear)
end

