-- ==== Sys2Proof/Laws/State.lean ====
section
/-! SUPPORT. One lemma per field and named update: what the update leaves as it was. -/

namespace Sys2Proof.Machine

@[simp] theorem setPort_pending (s : State) (p : Port) (r : PortRec) : (s.setPort p r).pending = s.pending := by cases p <;> rfl
@[simp] theorem setPort_held (s : State) (p : Port) (r : PortRec) : (s.setPort p r).held = s.held := by cases p <;> rfl
@[simp] theorem setPort_pins (s : State) (p : Port) (r : PortRec) : (s.setPort p r).pins = s.pins := by cases p <;> rfl
@[simp] theorem setPort_periods (s : State) (p : Port) (r : PortRec) : (s.setPort p r).periods = s.periods := by cases p <;> rfl
@[simp] theorem setPort_live (s : State) (p : Port) (r : PortRec) : (s.setPort p r).live = s.live := by cases p <;> rfl
@[simp] theorem setPort_rate (s : State) (p : Port) (r : PortRec) : (s.setPort p r).rate = s.rate := by cases p <;> rfl
@[simp] theorem setPort_autoUp (s : State) (p : Port) (r : PortRec) : (s.setPort p r).autoUp = s.autoUp := by cases p <;> rfl
@[simp] theorem setPort_audio (s : State) (p : Port) (r : PortRec) : (s.setPort p r).audio = s.audio := by cases p <;> rfl
@[simp] theorem setPort_mix (s : State) (p : Port) (r : PortRec) : (s.setPort p r).mix = s.mix := by cases p <;> rfl
@[simp] theorem setPort_env (s : State) (p : Port) (r : PortRec) : (s.setPort p r).env = s.env := by cases p <;> rfl
@[simp] theorem setPort_walls (s : State) (p : Port) (r : PortRec) : (s.setPort p r).walls = s.walls := by cases p <;> rfl
@[simp] theorem setPort_rg (s : State) (p : Port) (r : PortRec) : (s.setPort p r).rg = s.rg := by cases p <;> rfl
@[simp] theorem setPort_mute (s : State) (p : Port) (r : PortRec) : (s.setPort p r).mute = s.mute := by cases p <;> rfl
@[simp] theorem setPort_gates (s : State) (p : Port) (r : PortRec) : (s.setPort p r).gates = s.gates := by cases p <;> rfl
@[simp] theorem setPort_floors (s : State) (p : Port) (r : PortRec) : (s.setPort p r).floors = s.floors := by cases p <;> rfl
@[simp] theorem setPort_ahead (s : State) (p : Port) (r : PortRec) : (s.setPort p r).ahead = s.ahead := by cases p <;> rfl
@[simp] theorem setPort_links (s : State) (p : Port) (r : PortRec) : (s.setPort p r).links = s.links := by cases p <;> rfl
@[simp] theorem setPort_down (s : State) (p : Port) (r : PortRec) : (s.setPort p r).down = s.down := by cases p <;> rfl
@[simp] theorem setPort_lineA (s : State) (p : Port) (r : PortRec) : (s.setPort p r).lineA = s.lineA := by cases p <;> rfl
@[simp] theorem setPort_recB (s : State) (p : Port) (r : PortRec) : (s.setPort p r).recB = s.recB := by cases p <;> rfl
@[simp] theorem setPort_scene (s : State) (p : Port) (r : PortRec) : (s.setPort p r).scene = s.scene := by cases p <;> rfl
@[simp] theorem setPort_freeCount (s : State) (p : Port) (r : PortRec) : (s.setPort p r).freeCount = s.freeCount := by cases p <;> rfl

@[simp] theorem setPort_port (s : State) (p : Port) (r : PortRec) : (s.setPort p r).port p = r := by cases p <;> rfl

theorem setPort_other (s : State) (p q : Port) (r : PortRec) (h : q ≠ p) : (s.setPort p r).port q = s.port q := by
  cases p <;> cases q <;> first | rfl | exact absurd rfl h

@[simp] theorem post_pending (s : State) (ns : List Notice) : (s.post ns).pending = s.pending := by simp only [State.post]
@[simp] theorem post_held (s : State) (ns : List Notice) : (s.post ns).held = s.held := by simp only [State.post]
@[simp] theorem post_pins (s : State) (ns : List Notice) : (s.post ns).pins = s.pins := by simp only [State.post]
@[simp] theorem post_periods (s : State) (ns : List Notice) : (s.post ns).periods = s.periods := by simp only [State.post]
@[simp] theorem post_live (s : State) (ns : List Notice) : (s.post ns).live = s.live := by simp only [State.post]
@[simp] theorem post_rate (s : State) (ns : List Notice) : (s.post ns).rate = s.rate := by simp only [State.post]
@[simp] theorem post_autoUp (s : State) (ns : List Notice) : (s.post ns).autoUp = s.autoUp := by simp only [State.post]
@[simp] theorem post_audio (s : State) (ns : List Notice) : (s.post ns).audio = s.audio := by simp only [State.post]
@[simp] theorem post_mix (s : State) (ns : List Notice) : (s.post ns).mix = s.mix := by simp only [State.post]
@[simp] theorem post_env (s : State) (ns : List Notice) : (s.post ns).env = s.env := by simp only [State.post]
@[simp] theorem post_walls (s : State) (ns : List Notice) : (s.post ns).walls = s.walls := by simp only [State.post]
@[simp] theorem post_rg (s : State) (ns : List Notice) : (s.post ns).rg = s.rg := by simp only [State.post]
@[simp] theorem post_mute (s : State) (ns : List Notice) : (s.post ns).mute = s.mute := by simp only [State.post]
@[simp] theorem post_gates (s : State) (ns : List Notice) : (s.post ns).gates = s.gates := by simp only [State.post]
@[simp] theorem post_floors (s : State) (ns : List Notice) : (s.post ns).floors = s.floors := by simp only [State.post]
@[simp] theorem post_ahead (s : State) (ns : List Notice) : (s.post ns).ahead = s.ahead := by simp only [State.post]
@[simp] theorem post_links (s : State) (ns : List Notice) : (s.post ns).links = s.links := by simp only [State.post]
@[simp] theorem post_down (s : State) (ns : List Notice) : (s.post ns).down = s.down := by simp only [State.post]
@[simp] theorem post_lineA (s : State) (ns : List Notice) : (s.post ns).lineA = s.lineA := by simp only [State.post]
@[simp] theorem post_recB (s : State) (ns : List Notice) : (s.post ns).recB = s.recB := by simp only [State.post]
@[simp] theorem post_scene (s : State) (ns : List Notice) : (s.post ns).scene = s.scene := by simp only [State.post]
@[simp] theorem post_freeCount (s : State) (ns : List Notice) : (s.post ns).freeCount = s.freeCount := by simp only [State.post]

@[simp] theorem postTo_pending (s : State) (p : Port) (n : Notice) : (s.postTo p n).pending = s.pending := by cases p <;> rfl
@[simp] theorem postTo_held (s : State) (p : Port) (n : Notice) : (s.postTo p n).held = s.held := by cases p <;> rfl
@[simp] theorem postTo_pins (s : State) (p : Port) (n : Notice) : (s.postTo p n).pins = s.pins := by cases p <;> rfl
@[simp] theorem postTo_periods (s : State) (p : Port) (n : Notice) : (s.postTo p n).periods = s.periods := by cases p <;> rfl
@[simp] theorem postTo_live (s : State) (p : Port) (n : Notice) : (s.postTo p n).live = s.live := by cases p <;> rfl
@[simp] theorem postTo_rate (s : State) (p : Port) (n : Notice) : (s.postTo p n).rate = s.rate := by cases p <;> rfl
@[simp] theorem postTo_autoUp (s : State) (p : Port) (n : Notice) : (s.postTo p n).autoUp = s.autoUp := by cases p <;> rfl
@[simp] theorem postTo_audio (s : State) (p : Port) (n : Notice) : (s.postTo p n).audio = s.audio := by cases p <;> rfl
@[simp] theorem postTo_mix (s : State) (p : Port) (n : Notice) : (s.postTo p n).mix = s.mix := by cases p <;> rfl
@[simp] theorem postTo_env (s : State) (p : Port) (n : Notice) : (s.postTo p n).env = s.env := by cases p <;> rfl
@[simp] theorem postTo_walls (s : State) (p : Port) (n : Notice) : (s.postTo p n).walls = s.walls := by cases p <;> rfl
@[simp] theorem postTo_rg (s : State) (p : Port) (n : Notice) : (s.postTo p n).rg = s.rg := by cases p <;> rfl
@[simp] theorem postTo_mute (s : State) (p : Port) (n : Notice) : (s.postTo p n).mute = s.mute := by cases p <;> rfl
@[simp] theorem postTo_gates (s : State) (p : Port) (n : Notice) : (s.postTo p n).gates = s.gates := by cases p <;> rfl
@[simp] theorem postTo_floors (s : State) (p : Port) (n : Notice) : (s.postTo p n).floors = s.floors := by cases p <;> rfl
@[simp] theorem postTo_ahead (s : State) (p : Port) (n : Notice) : (s.postTo p n).ahead = s.ahead := by cases p <;> rfl
@[simp] theorem postTo_links (s : State) (p : Port) (n : Notice) : (s.postTo p n).links = s.links := by cases p <;> rfl
@[simp] theorem postTo_down (s : State) (p : Port) (n : Notice) : (s.postTo p n).down = s.down := by cases p <;> rfl
@[simp] theorem postTo_lineA (s : State) (p : Port) (n : Notice) : (s.postTo p n).lineA = s.lineA := by cases p <;> rfl
@[simp] theorem postTo_recB (s : State) (p : Port) (n : Notice) : (s.postTo p n).recB = s.recB := by cases p <;> rfl
@[simp] theorem postTo_scene (s : State) (p : Port) (n : Notice) : (s.postTo p n).scene = s.scene := by cases p <;> rfl
@[simp] theorem postTo_freeCount (s : State) (p : Port) (n : Notice) : (s.postTo p n).freeCount = s.freeCount := by cases p <;> rfl

@[simp] theorem withRecs_pending (s : State) (r : Vector MuteRec 26) : (s.withRecs r).pending = s.pending := by simp only [State.withRecs]
@[simp] theorem withRecs_held (s : State) (r : Vector MuteRec 26) : (s.withRecs r).held = s.held := by simp only [State.withRecs]
@[simp] theorem withRecs_pins (s : State) (r : Vector MuteRec 26) : (s.withRecs r).pins = s.pins := by simp only [State.withRecs]
@[simp] theorem withRecs_periods (s : State) (r : Vector MuteRec 26) : (s.withRecs r).periods = s.periods := by simp only [State.withRecs]
@[simp] theorem withRecs_live (s : State) (r : Vector MuteRec 26) : (s.withRecs r).live = s.live := by simp only [State.withRecs]
@[simp] theorem withRecs_rate (s : State) (r : Vector MuteRec 26) : (s.withRecs r).rate = s.rate := by simp only [State.withRecs]
@[simp] theorem withRecs_autoUp (s : State) (r : Vector MuteRec 26) : (s.withRecs r).autoUp = s.autoUp := by simp only [State.withRecs]
@[simp] theorem withRecs_audio (s : State) (r : Vector MuteRec 26) : (s.withRecs r).audio = s.audio := by simp only [State.withRecs]
@[simp] theorem withRecs_mix (s : State) (r : Vector MuteRec 26) : (s.withRecs r).mix = s.mix := by simp only [State.withRecs]
@[simp] theorem withRecs_env (s : State) (r : Vector MuteRec 26) : (s.withRecs r).env = s.env := by simp only [State.withRecs]
@[simp] theorem withRecs_walls (s : State) (r : Vector MuteRec 26) : (s.withRecs r).walls = s.walls := by simp only [State.withRecs]
@[simp] theorem withRecs_rg (s : State) (r : Vector MuteRec 26) : (s.withRecs r).rg = s.rg := by simp only [State.withRecs]
@[simp] theorem withRecs_gates (s : State) (r : Vector MuteRec 26) : (s.withRecs r).gates = s.gates := by simp only [State.withRecs]
@[simp] theorem withRecs_floors (s : State) (r : Vector MuteRec 26) : (s.withRecs r).floors = s.floors := by simp only [State.withRecs]
@[simp] theorem withRecs_ahead (s : State) (r : Vector MuteRec 26) : (s.withRecs r).ahead = s.ahead := by simp only [State.withRecs]
@[simp] theorem withRecs_links (s : State) (r : Vector MuteRec 26) : (s.withRecs r).links = s.links := by simp only [State.withRecs]
@[simp] theorem withRecs_down (s : State) (r : Vector MuteRec 26) : (s.withRecs r).down = s.down := by simp only [State.withRecs]
@[simp] theorem withRecs_portA (s : State) (r : Vector MuteRec 26) : (s.withRecs r).portA = s.portA := by simp only [State.withRecs]
@[simp] theorem withRecs_portB (s : State) (r : Vector MuteRec 26) : (s.withRecs r).portB = s.portB := by simp only [State.withRecs]
@[simp] theorem withRecs_lineA (s : State) (r : Vector MuteRec 26) : (s.withRecs r).lineA = s.lineA := by simp only [State.withRecs]
@[simp] theorem withRecs_recB (s : State) (r : Vector MuteRec 26) : (s.withRecs r).recB = s.recB := by simp only [State.withRecs]
@[simp] theorem withRecs_scene (s : State) (r : Vector MuteRec 26) : (s.withRecs r).scene = s.scene := by simp only [State.withRecs]
@[simp] theorem withRecs_freeCount (s : State) (r : Vector MuteRec 26) : (s.withRecs r).freeCount = s.freeCount := by simp only [State.withRecs]

@[simp] theorem setLink_pending (s : State) (i : Fin 16) (l : LinkRec) : (s.setLink i l).pending = s.pending := by simp only [State.setLink]
@[simp] theorem setLink_held (s : State) (i : Fin 16) (l : LinkRec) : (s.setLink i l).held = s.held := by simp only [State.setLink]
@[simp] theorem setLink_pins (s : State) (i : Fin 16) (l : LinkRec) : (s.setLink i l).pins = s.pins := by simp only [State.setLink]
@[simp] theorem setLink_periods (s : State) (i : Fin 16) (l : LinkRec) : (s.setLink i l).periods = s.periods := by simp only [State.setLink]
@[simp] theorem setLink_live (s : State) (i : Fin 16) (l : LinkRec) : (s.setLink i l).live = s.live := by simp only [State.setLink]
@[simp] theorem setLink_rate (s : State) (i : Fin 16) (l : LinkRec) : (s.setLink i l).rate = s.rate := by simp only [State.setLink]
@[simp] theorem setLink_autoUp (s : State) (i : Fin 16) (l : LinkRec) : (s.setLink i l).autoUp = s.autoUp := by simp only [State.setLink]
@[simp] theorem setLink_audio (s : State) (i : Fin 16) (l : LinkRec) : (s.setLink i l).audio = s.audio := by simp only [State.setLink]
@[simp] theorem setLink_mix (s : State) (i : Fin 16) (l : LinkRec) : (s.setLink i l).mix = s.mix := by simp only [State.setLink]
@[simp] theorem setLink_env (s : State) (i : Fin 16) (l : LinkRec) : (s.setLink i l).env = s.env := by simp only [State.setLink]
@[simp] theorem setLink_walls (s : State) (i : Fin 16) (l : LinkRec) : (s.setLink i l).walls = s.walls := by simp only [State.setLink]
@[simp] theorem setLink_rg (s : State) (i : Fin 16) (l : LinkRec) : (s.setLink i l).rg = s.rg := by simp only [State.setLink]
@[simp] theorem setLink_mute (s : State) (i : Fin 16) (l : LinkRec) : (s.setLink i l).mute = s.mute := by simp only [State.setLink]
@[simp] theorem setLink_gates (s : State) (i : Fin 16) (l : LinkRec) : (s.setLink i l).gates = s.gates := by simp only [State.setLink]
@[simp] theorem setLink_floors (s : State) (i : Fin 16) (l : LinkRec) : (s.setLink i l).floors = s.floors := by simp only [State.setLink]
@[simp] theorem setLink_ahead (s : State) (i : Fin 16) (l : LinkRec) : (s.setLink i l).ahead = s.ahead := by simp only [State.setLink]
@[simp] theorem setLink_down (s : State) (i : Fin 16) (l : LinkRec) : (s.setLink i l).down = s.down := by simp only [State.setLink]
@[simp] theorem setLink_portA (s : State) (i : Fin 16) (l : LinkRec) : (s.setLink i l).portA = s.portA := by simp only [State.setLink]
@[simp] theorem setLink_portB (s : State) (i : Fin 16) (l : LinkRec) : (s.setLink i l).portB = s.portB := by simp only [State.setLink]
@[simp] theorem setLink_lineA (s : State) (i : Fin 16) (l : LinkRec) : (s.setLink i l).lineA = s.lineA := by simp only [State.setLink]
@[simp] theorem setLink_recB (s : State) (i : Fin 16) (l : LinkRec) : (s.setLink i l).recB = s.recB := by simp only [State.setLink]
@[simp] theorem setLink_scene (s : State) (i : Fin 16) (l : LinkRec) : (s.setLink i l).scene = s.scene := by simp only [State.setLink]
@[simp] theorem setLink_freeCount (s : State) (i : Fin 16) (l : LinkRec) : (s.setLink i l).freeCount = s.freeCount := by simp only [State.setLink]

@[simp] theorem setWallCount_pending (s : State) (w : Fin 3) (n : Nat) : (s.setWallCount w n).pending = s.pending := by simp only [State.setWallCount]
@[simp] theorem setWallCount_held (s : State) (w : Fin 3) (n : Nat) : (s.setWallCount w n).held = s.held := by simp only [State.setWallCount]
@[simp] theorem setWallCount_pins (s : State) (w : Fin 3) (n : Nat) : (s.setWallCount w n).pins = s.pins := by simp only [State.setWallCount]
@[simp] theorem setWallCount_periods (s : State) (w : Fin 3) (n : Nat) : (s.setWallCount w n).periods = s.periods := by simp only [State.setWallCount]
@[simp] theorem setWallCount_live (s : State) (w : Fin 3) (n : Nat) : (s.setWallCount w n).live = s.live := by simp only [State.setWallCount]
@[simp] theorem setWallCount_rate (s : State) (w : Fin 3) (n : Nat) : (s.setWallCount w n).rate = s.rate := by simp only [State.setWallCount]
@[simp] theorem setWallCount_autoUp (s : State) (w : Fin 3) (n : Nat) : (s.setWallCount w n).autoUp = s.autoUp := by simp only [State.setWallCount]
@[simp] theorem setWallCount_audio (s : State) (w : Fin 3) (n : Nat) : (s.setWallCount w n).audio = s.audio := by simp only [State.setWallCount]
@[simp] theorem setWallCount_mix (s : State) (w : Fin 3) (n : Nat) : (s.setWallCount w n).mix = s.mix := by simp only [State.setWallCount]
@[simp] theorem setWallCount_env (s : State) (w : Fin 3) (n : Nat) : (s.setWallCount w n).env = s.env := by simp only [State.setWallCount]
@[simp] theorem setWallCount_rg (s : State) (w : Fin 3) (n : Nat) : (s.setWallCount w n).rg = s.rg := by simp only [State.setWallCount]
@[simp] theorem setWallCount_mute (s : State) (w : Fin 3) (n : Nat) : (s.setWallCount w n).mute = s.mute := by simp only [State.setWallCount]
@[simp] theorem setWallCount_gates (s : State) (w : Fin 3) (n : Nat) : (s.setWallCount w n).gates = s.gates := by simp only [State.setWallCount]
@[simp] theorem setWallCount_floors (s : State) (w : Fin 3) (n : Nat) : (s.setWallCount w n).floors = s.floors := by simp only [State.setWallCount]
@[simp] theorem setWallCount_ahead (s : State) (w : Fin 3) (n : Nat) : (s.setWallCount w n).ahead = s.ahead := by simp only [State.setWallCount]
@[simp] theorem setWallCount_links (s : State) (w : Fin 3) (n : Nat) : (s.setWallCount w n).links = s.links := by simp only [State.setWallCount]
@[simp] theorem setWallCount_down (s : State) (w : Fin 3) (n : Nat) : (s.setWallCount w n).down = s.down := by simp only [State.setWallCount]
@[simp] theorem setWallCount_portA (s : State) (w : Fin 3) (n : Nat) : (s.setWallCount w n).portA = s.portA := by simp only [State.setWallCount]
@[simp] theorem setWallCount_portB (s : State) (w : Fin 3) (n : Nat) : (s.setWallCount w n).portB = s.portB := by simp only [State.setWallCount]
@[simp] theorem setWallCount_lineA (s : State) (w : Fin 3) (n : Nat) : (s.setWallCount w n).lineA = s.lineA := by simp only [State.setWallCount]
@[simp] theorem setWallCount_recB (s : State) (w : Fin 3) (n : Nat) : (s.setWallCount w n).recB = s.recB := by simp only [State.setWallCount]
@[simp] theorem setWallCount_scene (s : State) (w : Fin 3) (n : Nat) : (s.setWallCount w n).scene = s.scene := by simp only [State.setWallCount]
@[simp] theorem setWallCount_freeCount (s : State) (w : Fin 3) (n : Nat) : (s.setWallCount w n).freeCount = s.freeCount := by simp only [State.setWallCount]

@[simp] theorem setPage_pending (s : State) (k : Fin 32) (g : Page) : (s.setPage k g).pending = s.pending := by simp only [State.setPage]
@[simp] theorem setPage_held (s : State) (k : Fin 32) (g : Page) : (s.setPage k g).held = s.held := by simp only [State.setPage]
@[simp] theorem setPage_pins (s : State) (k : Fin 32) (g : Page) : (s.setPage k g).pins = s.pins := by simp only [State.setPage]
@[simp] theorem setPage_periods (s : State) (k : Fin 32) (g : Page) : (s.setPage k g).periods = s.periods := by simp only [State.setPage]
@[simp] theorem setPage_live (s : State) (k : Fin 32) (g : Page) : (s.setPage k g).live = s.live := by simp only [State.setPage]
@[simp] theorem setPage_rate (s : State) (k : Fin 32) (g : Page) : (s.setPage k g).rate = s.rate := by simp only [State.setPage]
@[simp] theorem setPage_autoUp (s : State) (k : Fin 32) (g : Page) : (s.setPage k g).autoUp = s.autoUp := by simp only [State.setPage]
@[simp] theorem setPage_audio (s : State) (k : Fin 32) (g : Page) : (s.setPage k g).audio = s.audio := by simp only [State.setPage]
@[simp] theorem setPage_mix (s : State) (k : Fin 32) (g : Page) : (s.setPage k g).mix = s.mix := by simp only [State.setPage]
@[simp] theorem setPage_env (s : State) (k : Fin 32) (g : Page) : (s.setPage k g).env = s.env := by simp only [State.setPage]
@[simp] theorem setPage_walls (s : State) (k : Fin 32) (g : Page) : (s.setPage k g).walls = s.walls := by simp only [State.setPage]
@[simp] theorem setPage_rg (s : State) (k : Fin 32) (g : Page) : (s.setPage k g).rg = s.rg := by simp only [State.setPage]
@[simp] theorem setPage_mute (s : State) (k : Fin 32) (g : Page) : (s.setPage k g).mute = s.mute := by simp only [State.setPage]
@[simp] theorem setPage_gates (s : State) (k : Fin 32) (g : Page) : (s.setPage k g).gates = s.gates := by simp only [State.setPage]
@[simp] theorem setPage_floors (s : State) (k : Fin 32) (g : Page) : (s.setPage k g).floors = s.floors := by simp only [State.setPage]
@[simp] theorem setPage_ahead (s : State) (k : Fin 32) (g : Page) : (s.setPage k g).ahead = s.ahead := by simp only [State.setPage]
@[simp] theorem setPage_links (s : State) (k : Fin 32) (g : Page) : (s.setPage k g).links = s.links := by simp only [State.setPage]
@[simp] theorem setPage_down (s : State) (k : Fin 32) (g : Page) : (s.setPage k g).down = s.down := by simp only [State.setPage]
@[simp] theorem setPage_portA (s : State) (k : Fin 32) (g : Page) : (s.setPage k g).portA = s.portA := by simp only [State.setPage]
@[simp] theorem setPage_portB (s : State) (k : Fin 32) (g : Page) : (s.setPage k g).portB = s.portB := by simp only [State.setPage]
@[simp] theorem setPage_lineA (s : State) (k : Fin 32) (g : Page) : (s.setPage k g).lineA = s.lineA := by simp only [State.setPage]
@[simp] theorem setPage_recB (s : State) (k : Fin 32) (g : Page) : (s.setPage k g).recB = s.recB := by simp only [State.setPage]
@[simp] theorem setPage_freeCount (s : State) (k : Fin 32) (g : Page) : (s.setPage k g).freeCount = s.freeCount := by simp only [State.setPage]

@[simp] theorem setBuf_pending (s : State) (b : Fin 2) (x : Buffer) : (s.setBuf b x).pending = s.pending := by simp only [State.setBuf]
@[simp] theorem setBuf_held (s : State) (b : Fin 2) (x : Buffer) : (s.setBuf b x).held = s.held := by simp only [State.setBuf]
@[simp] theorem setBuf_pins (s : State) (b : Fin 2) (x : Buffer) : (s.setBuf b x).pins = s.pins := by simp only [State.setBuf]
@[simp] theorem setBuf_periods (s : State) (b : Fin 2) (x : Buffer) : (s.setBuf b x).periods = s.periods := by simp only [State.setBuf]
@[simp] theorem setBuf_live (s : State) (b : Fin 2) (x : Buffer) : (s.setBuf b x).live = s.live := by simp only [State.setBuf]
@[simp] theorem setBuf_rate (s : State) (b : Fin 2) (x : Buffer) : (s.setBuf b x).rate = s.rate := by simp only [State.setBuf]
@[simp] theorem setBuf_autoUp (s : State) (b : Fin 2) (x : Buffer) : (s.setBuf b x).autoUp = s.autoUp := by simp only [State.setBuf]
@[simp] theorem setBuf_audio (s : State) (b : Fin 2) (x : Buffer) : (s.setBuf b x).audio = s.audio := by simp only [State.setBuf]
@[simp] theorem setBuf_mix (s : State) (b : Fin 2) (x : Buffer) : (s.setBuf b x).mix = s.mix := by simp only [State.setBuf]
@[simp] theorem setBuf_env (s : State) (b : Fin 2) (x : Buffer) : (s.setBuf b x).env = s.env := by simp only [State.setBuf]
@[simp] theorem setBuf_walls (s : State) (b : Fin 2) (x : Buffer) : (s.setBuf b x).walls = s.walls := by simp only [State.setBuf]
@[simp] theorem setBuf_rg (s : State) (b : Fin 2) (x : Buffer) : (s.setBuf b x).rg = s.rg := by simp only [State.setBuf]
@[simp] theorem setBuf_mute (s : State) (b : Fin 2) (x : Buffer) : (s.setBuf b x).mute = s.mute := by simp only [State.setBuf]
@[simp] theorem setBuf_gates (s : State) (b : Fin 2) (x : Buffer) : (s.setBuf b x).gates = s.gates := by simp only [State.setBuf]
@[simp] theorem setBuf_floors (s : State) (b : Fin 2) (x : Buffer) : (s.setBuf b x).floors = s.floors := by simp only [State.setBuf]
@[simp] theorem setBuf_ahead (s : State) (b : Fin 2) (x : Buffer) : (s.setBuf b x).ahead = s.ahead := by simp only [State.setBuf]
@[simp] theorem setBuf_links (s : State) (b : Fin 2) (x : Buffer) : (s.setBuf b x).links = s.links := by simp only [State.setBuf]
@[simp] theorem setBuf_down (s : State) (b : Fin 2) (x : Buffer) : (s.setBuf b x).down = s.down := by simp only [State.setBuf]
@[simp] theorem setBuf_portA (s : State) (b : Fin 2) (x : Buffer) : (s.setBuf b x).portA = s.portA := by simp only [State.setBuf]
@[simp] theorem setBuf_portB (s : State) (b : Fin 2) (x : Buffer) : (s.setBuf b x).portB = s.portB := by simp only [State.setBuf]
@[simp] theorem setBuf_lineA (s : State) (b : Fin 2) (x : Buffer) : (s.setBuf b x).lineA = s.lineA := by simp only [State.setBuf]
@[simp] theorem setBuf_recB (s : State) (b : Fin 2) (x : Buffer) : (s.setBuf b x).recB = s.recB := by simp only [State.setBuf]
@[simp] theorem setBuf_freeCount (s : State) (b : Fin 2) (x : Buffer) : (s.setBuf b x).freeCount = s.freeCount := by simp only [State.setBuf]

@[simp] theorem setJob_pending (s : State) (j : Option Job) : (s.setJob j).pending = s.pending := by simp only [State.setJob]
@[simp] theorem setJob_held (s : State) (j : Option Job) : (s.setJob j).held = s.held := by simp only [State.setJob]
@[simp] theorem setJob_pins (s : State) (j : Option Job) : (s.setJob j).pins = s.pins := by simp only [State.setJob]
@[simp] theorem setJob_periods (s : State) (j : Option Job) : (s.setJob j).periods = s.periods := by simp only [State.setJob]
@[simp] theorem setJob_live (s : State) (j : Option Job) : (s.setJob j).live = s.live := by simp only [State.setJob]
@[simp] theorem setJob_rate (s : State) (j : Option Job) : (s.setJob j).rate = s.rate := by simp only [State.setJob]
@[simp] theorem setJob_autoUp (s : State) (j : Option Job) : (s.setJob j).autoUp = s.autoUp := by simp only [State.setJob]
@[simp] theorem setJob_audio (s : State) (j : Option Job) : (s.setJob j).audio = s.audio := by simp only [State.setJob]
@[simp] theorem setJob_mix (s : State) (j : Option Job) : (s.setJob j).mix = s.mix := by simp only [State.setJob]
@[simp] theorem setJob_env (s : State) (j : Option Job) : (s.setJob j).env = s.env := by simp only [State.setJob]
@[simp] theorem setJob_walls (s : State) (j : Option Job) : (s.setJob j).walls = s.walls := by simp only [State.setJob]
@[simp] theorem setJob_rg (s : State) (j : Option Job) : (s.setJob j).rg = s.rg := by simp only [State.setJob]
@[simp] theorem setJob_mute (s : State) (j : Option Job) : (s.setJob j).mute = s.mute := by simp only [State.setJob]
@[simp] theorem setJob_gates (s : State) (j : Option Job) : (s.setJob j).gates = s.gates := by simp only [State.setJob]
@[simp] theorem setJob_floors (s : State) (j : Option Job) : (s.setJob j).floors = s.floors := by simp only [State.setJob]
@[simp] theorem setJob_ahead (s : State) (j : Option Job) : (s.setJob j).ahead = s.ahead := by simp only [State.setJob]
@[simp] theorem setJob_links (s : State) (j : Option Job) : (s.setJob j).links = s.links := by simp only [State.setJob]
@[simp] theorem setJob_down (s : State) (j : Option Job) : (s.setJob j).down = s.down := by simp only [State.setJob]
@[simp] theorem setJob_portA (s : State) (j : Option Job) : (s.setJob j).portA = s.portA := by simp only [State.setJob]
@[simp] theorem setJob_portB (s : State) (j : Option Job) : (s.setJob j).portB = s.portB := by simp only [State.setJob]
@[simp] theorem setJob_lineA (s : State) (j : Option Job) : (s.setJob j).lineA = s.lineA := by simp only [State.setJob]
@[simp] theorem setJob_recB (s : State) (j : Option Job) : (s.setJob j).recB = s.recB := by simp only [State.setJob]
@[simp] theorem setJob_freeCount (s : State) (j : Option Job) : (s.setJob j).freeCount = s.freeCount := by simp only [State.setJob]

@[simp] theorem retarget_pending (b s : State) : (retarget b s).pending = s.pending := by simp only [retarget]
@[simp] theorem retarget_held (b s : State) : (retarget b s).held = s.held := by simp only [retarget]
@[simp] theorem retarget_pins (b s : State) : (retarget b s).pins = s.pins := by simp only [retarget]
@[simp] theorem retarget_periods (b s : State) : (retarget b s).periods = s.periods := by simp only [retarget]
@[simp] theorem retarget_live (b s : State) : (retarget b s).live = s.live := by simp only [retarget]
@[simp] theorem retarget_rate (b s : State) : (retarget b s).rate = s.rate := by simp only [retarget]
@[simp] theorem retarget_autoUp (b s : State) : (retarget b s).autoUp = s.autoUp := by simp only [retarget]
@[simp] theorem retarget_audio (b s : State) : (retarget b s).audio = s.audio := by simp only [retarget]
@[simp] theorem retarget_mix (b s : State) : (retarget b s).mix = s.mix := by simp only [retarget]
@[simp] theorem retarget_walls (b s : State) : (retarget b s).walls = s.walls := by simp only [retarget]
@[simp] theorem retarget_rg (b s : State) : (retarget b s).rg = s.rg := by simp only [retarget]
@[simp] theorem retarget_mute (b s : State) : (retarget b s).mute = s.mute := by simp only [retarget]
@[simp] theorem retarget_gates (b s : State) : (retarget b s).gates = s.gates := by simp only [retarget]
@[simp] theorem retarget_floors (b s : State) : (retarget b s).floors = s.floors := by simp only [retarget]
@[simp] theorem retarget_ahead (b s : State) : (retarget b s).ahead = s.ahead := by simp only [retarget]
@[simp] theorem retarget_links (b s : State) : (retarget b s).links = s.links := by simp only [retarget]
@[simp] theorem retarget_down (b s : State) : (retarget b s).down = s.down := by simp only [retarget]
@[simp] theorem retarget_portA (b s : State) : (retarget b s).portA = s.portA := by simp only [retarget]
@[simp] theorem retarget_portB (b s : State) : (retarget b s).portB = s.portB := by simp only [retarget]
@[simp] theorem retarget_lineA (b s : State) : (retarget b s).lineA = s.lineA := by simp only [retarget]
@[simp] theorem retarget_recB (b s : State) : (retarget b s).recB = s.recB := by simp only [retarget]
@[simp] theorem retarget_scene (b s : State) : (retarget b s).scene = s.scene := by simp only [retarget]
@[simp] theorem retarget_freeCount (b s : State) : (retarget b s).freeCount = s.freeCount := by simp only [retarget]

@[simp] theorem closeHeld_pending (b s : State) : (closeHeld b s).pending = s.pending := by simp only [closeHeld]
@[simp] theorem closeHeld_held (b s : State) : (closeHeld b s).held = s.held := by simp only [closeHeld]
@[simp] theorem closeHeld_pins (b s : State) : (closeHeld b s).pins = s.pins := by simp only [closeHeld]
@[simp] theorem closeHeld_periods (b s : State) : (closeHeld b s).periods = s.periods := by simp only [closeHeld]
@[simp] theorem closeHeld_live (b s : State) : (closeHeld b s).live = s.live := by simp only [closeHeld]
@[simp] theorem closeHeld_rate (b s : State) : (closeHeld b s).rate = s.rate := by simp only [closeHeld]
@[simp] theorem closeHeld_autoUp (b s : State) : (closeHeld b s).autoUp = s.autoUp := by simp only [closeHeld]
@[simp] theorem closeHeld_audio (b s : State) : (closeHeld b s).audio = s.audio := by simp only [closeHeld]
@[simp] theorem closeHeld_mix (b s : State) : (closeHeld b s).mix = s.mix := by simp only [closeHeld]
@[simp] theorem closeHeld_env (b s : State) : (closeHeld b s).env = s.env := by simp only [closeHeld]
@[simp] theorem closeHeld_walls (b s : State) : (closeHeld b s).walls = s.walls := by simp only [closeHeld]
@[simp] theorem closeHeld_rg (b s : State) : (closeHeld b s).rg = s.rg := by simp only [closeHeld]
@[simp] theorem closeHeld_mute (b s : State) : (closeHeld b s).mute = s.mute := by simp only [closeHeld]
@[simp] theorem closeHeld_floors (b s : State) : (closeHeld b s).floors = s.floors := by simp only [closeHeld]
@[simp] theorem closeHeld_ahead (b s : State) : (closeHeld b s).ahead = s.ahead := by simp only [closeHeld]
@[simp] theorem closeHeld_links (b s : State) : (closeHeld b s).links = s.links := by simp only [closeHeld]
@[simp] theorem closeHeld_down (b s : State) : (closeHeld b s).down = s.down := by simp only [closeHeld]
@[simp] theorem closeHeld_portA (b s : State) : (closeHeld b s).portA = s.portA := by simp only [closeHeld]
@[simp] theorem closeHeld_portB (b s : State) : (closeHeld b s).portB = s.portB := by simp only [closeHeld]
@[simp] theorem closeHeld_lineA (b s : State) : (closeHeld b s).lineA = s.lineA := by simp only [closeHeld]
@[simp] theorem closeHeld_recB (b s : State) : (closeHeld b s).recB = s.recB := by simp only [closeHeld]
@[simp] theorem closeHeld_scene (b s : State) : (closeHeld b s).scene = s.scene := by simp only [closeHeld]
@[simp] theorem closeHeld_freeCount (b s : State) : (closeHeld b s).freeCount = s.freeCount := by simp only [closeHeld]

@[simp] theorem clearAsks_pending (t : Fin 16 → Bool) (c : AskCause) (s : State) : (clearAsks t c s).pending = s.pending := by simp [clearAsks]
@[simp] theorem clearAsks_held (t : Fin 16 → Bool) (c : AskCause) (s : State) : (clearAsks t c s).held = s.held := by simp [clearAsks]
@[simp] theorem clearAsks_pins (t : Fin 16 → Bool) (c : AskCause) (s : State) : (clearAsks t c s).pins = s.pins := by simp [clearAsks]
@[simp] theorem clearAsks_periods (t : Fin 16 → Bool) (c : AskCause) (s : State) : (clearAsks t c s).periods = s.periods := by simp [clearAsks]
@[simp] theorem clearAsks_live (t : Fin 16 → Bool) (c : AskCause) (s : State) : (clearAsks t c s).live = s.live := by simp [clearAsks]
@[simp] theorem clearAsks_rate (t : Fin 16 → Bool) (c : AskCause) (s : State) : (clearAsks t c s).rate = s.rate := by simp [clearAsks]
@[simp] theorem clearAsks_autoUp (t : Fin 16 → Bool) (c : AskCause) (s : State) : (clearAsks t c s).autoUp = s.autoUp := by simp [clearAsks]
@[simp] theorem clearAsks_audio (t : Fin 16 → Bool) (c : AskCause) (s : State) : (clearAsks t c s).audio = s.audio := by simp [clearAsks]
@[simp] theorem clearAsks_mix (t : Fin 16 → Bool) (c : AskCause) (s : State) : (clearAsks t c s).mix = s.mix := by simp [clearAsks]
@[simp] theorem clearAsks_env (t : Fin 16 → Bool) (c : AskCause) (s : State) : (clearAsks t c s).env = s.env := by simp [clearAsks]
@[simp] theorem clearAsks_walls (t : Fin 16 → Bool) (c : AskCause) (s : State) : (clearAsks t c s).walls = s.walls := by simp [clearAsks]
@[simp] theorem clearAsks_rg (t : Fin 16 → Bool) (c : AskCause) (s : State) : (clearAsks t c s).rg = s.rg := by simp [clearAsks]
@[simp] theorem clearAsks_gates (t : Fin 16 → Bool) (c : AskCause) (s : State) : (clearAsks t c s).gates = s.gates := by simp [clearAsks]
@[simp] theorem clearAsks_floors (t : Fin 16 → Bool) (c : AskCause) (s : State) : (clearAsks t c s).floors = s.floors := by simp [clearAsks]
@[simp] theorem clearAsks_ahead (t : Fin 16 → Bool) (c : AskCause) (s : State) : (clearAsks t c s).ahead = s.ahead := by simp [clearAsks]
@[simp] theorem clearAsks_links (t : Fin 16 → Bool) (c : AskCause) (s : State) : (clearAsks t c s).links = s.links := by simp [clearAsks]
@[simp] theorem clearAsks_down (t : Fin 16 → Bool) (c : AskCause) (s : State) : (clearAsks t c s).down = s.down := by simp [clearAsks]
@[simp] theorem clearAsks_lineA (t : Fin 16 → Bool) (c : AskCause) (s : State) : (clearAsks t c s).lineA = s.lineA := by simp [clearAsks]
@[simp] theorem clearAsks_recB (t : Fin 16 → Bool) (c : AskCause) (s : State) : (clearAsks t c s).recB = s.recB := by simp [clearAsks]
@[simp] theorem clearAsks_scene (t : Fin 16 → Bool) (c : AskCause) (s : State) : (clearAsks t c s).scene = s.scene := by simp [clearAsks]
@[simp] theorem clearAsks_freeCount (t : Fin 16 → Bool) (c : AskCause) (s : State) : (clearAsks t c s).freeCount = s.freeCount := by simp [clearAsks]

@[simp] theorem followHolds_pending (b s : State) : (followHolds b s).pending = s.pending := by simp [followHolds]
@[simp] theorem followHolds_held (b s : State) : (followHolds b s).held = s.held := by simp [followHolds]
@[simp] theorem followHolds_pins (b s : State) : (followHolds b s).pins = s.pins := by simp [followHolds]
@[simp] theorem followHolds_periods (b s : State) : (followHolds b s).periods = s.periods := by simp [followHolds]
@[simp] theorem followHolds_live (b s : State) : (followHolds b s).live = s.live := by simp [followHolds]
@[simp] theorem followHolds_rate (b s : State) : (followHolds b s).rate = s.rate := by simp [followHolds]
@[simp] theorem followHolds_autoUp (b s : State) : (followHolds b s).autoUp = s.autoUp := by simp [followHolds]
@[simp] theorem followHolds_audio (b s : State) : (followHolds b s).audio = s.audio := by simp [followHolds]
@[simp] theorem followHolds_mix (b s : State) : (followHolds b s).mix = s.mix := by simp [followHolds]
@[simp] theorem followHolds_env (b s : State) : (followHolds b s).env = s.env := by simp [followHolds]
@[simp] theorem followHolds_walls (b s : State) : (followHolds b s).walls = s.walls := by simp [followHolds]
@[simp] theorem followHolds_rg (b s : State) : (followHolds b s).rg = s.rg := by simp [followHolds]
@[simp] theorem followHolds_floors (b s : State) : (followHolds b s).floors = s.floors := by simp [followHolds]
@[simp] theorem followHolds_ahead (b s : State) : (followHolds b s).ahead = s.ahead := by simp [followHolds]
@[simp] theorem followHolds_links (b s : State) : (followHolds b s).links = s.links := by simp [followHolds]
@[simp] theorem followHolds_down (b s : State) : (followHolds b s).down = s.down := by simp [followHolds]
@[simp] theorem followHolds_lineA (b s : State) : (followHolds b s).lineA = s.lineA := by simp [followHolds]
@[simp] theorem followHolds_recB (b s : State) : (followHolds b s).recB = s.recB := by simp [followHolds]
@[simp] theorem followHolds_scene (b s : State) : (followHolds b s).scene = s.scene := by simp [followHolds]
@[simp] theorem followHolds_freeCount (b s : State) : (followHolds b s).freeCount = s.freeCount := by simp [followHolds]

@[simp] theorem settleHolds_pending (b s : State) : (settleHolds b s).pending = s.pending := by simp [settleHolds]
@[simp] theorem settleHolds_held (b s : State) : (settleHolds b s).held = s.held := by simp [settleHolds]
@[simp] theorem settleHolds_pins (b s : State) : (settleHolds b s).pins = s.pins := by simp [settleHolds]
@[simp] theorem settleHolds_periods (b s : State) : (settleHolds b s).periods = s.periods := by simp [settleHolds]
@[simp] theorem settleHolds_live (b s : State) : (settleHolds b s).live = s.live := by simp [settleHolds]
@[simp] theorem settleHolds_rate (b s : State) : (settleHolds b s).rate = s.rate := by simp [settleHolds]
@[simp] theorem settleHolds_autoUp (b s : State) : (settleHolds b s).autoUp = s.autoUp := by simp [settleHolds]
@[simp] theorem settleHolds_audio (b s : State) : (settleHolds b s).audio = s.audio := by simp [settleHolds]
@[simp] theorem settleHolds_mix (b s : State) : (settleHolds b s).mix = s.mix := by simp [settleHolds]
@[simp] theorem settleHolds_walls (b s : State) : (settleHolds b s).walls = s.walls := by simp [settleHolds]
@[simp] theorem settleHolds_rg (b s : State) : (settleHolds b s).rg = s.rg := by simp [settleHolds]
@[simp] theorem settleHolds_floors (b s : State) : (settleHolds b s).floors = s.floors := by simp [settleHolds]
@[simp] theorem settleHolds_ahead (b s : State) : (settleHolds b s).ahead = s.ahead := by simp [settleHolds]
@[simp] theorem settleHolds_links (b s : State) : (settleHolds b s).links = s.links := by simp [settleHolds]
@[simp] theorem settleHolds_down (b s : State) : (settleHolds b s).down = s.down := by simp [settleHolds]
@[simp] theorem settleHolds_lineA (b s : State) : (settleHolds b s).lineA = s.lineA := by simp [settleHolds]
@[simp] theorem settleHolds_recB (b s : State) : (settleHolds b s).recB = s.recB := by simp [settleHolds]
@[simp] theorem settleHolds_scene (b s : State) : (settleHolds b s).scene = s.scene := by simp [settleHolds]
@[simp] theorem settleHolds_freeCount (b s : State) : (settleHolds b s).freeCount = s.freeCount := by simp [settleHolds]

@[simp] theorem setFloor_pending (p : Fin 4) (c : FloorChange) (s : State) : (setFloor p c s).pending = s.pending := by simp [setFloor]
@[simp] theorem setFloor_held (p : Fin 4) (c : FloorChange) (s : State) : (setFloor p c s).held = s.held := by simp [setFloor]
@[simp] theorem setFloor_pins (p : Fin 4) (c : FloorChange) (s : State) : (setFloor p c s).pins = s.pins := by simp [setFloor]
@[simp] theorem setFloor_periods (p : Fin 4) (c : FloorChange) (s : State) : (setFloor p c s).periods = s.periods := by simp [setFloor]
@[simp] theorem setFloor_live (p : Fin 4) (c : FloorChange) (s : State) : (setFloor p c s).live = s.live := by simp [setFloor]
@[simp] theorem setFloor_rate (p : Fin 4) (c : FloorChange) (s : State) : (setFloor p c s).rate = s.rate := by simp [setFloor]
@[simp] theorem setFloor_autoUp (p : Fin 4) (c : FloorChange) (s : State) : (setFloor p c s).autoUp = s.autoUp := by simp [setFloor]
@[simp] theorem setFloor_audio (p : Fin 4) (c : FloorChange) (s : State) : (setFloor p c s).audio = s.audio := by simp [setFloor]
@[simp] theorem setFloor_mix (p : Fin 4) (c : FloorChange) (s : State) : (setFloor p c s).mix = s.mix := by simp [setFloor]
@[simp] theorem setFloor_walls (p : Fin 4) (c : FloorChange) (s : State) : (setFloor p c s).walls = s.walls := by simp [setFloor]
@[simp] theorem setFloor_rg (p : Fin 4) (c : FloorChange) (s : State) : (setFloor p c s).rg = s.rg := by simp [setFloor]
@[simp] theorem setFloor_mute (p : Fin 4) (c : FloorChange) (s : State) : (setFloor p c s).mute = s.mute := by simp [setFloor]
@[simp] theorem setFloor_gates (p : Fin 4) (c : FloorChange) (s : State) : (setFloor p c s).gates = s.gates := by simp [setFloor]
@[simp] theorem setFloor_ahead (p : Fin 4) (c : FloorChange) (s : State) : (setFloor p c s).ahead = s.ahead := by simp [setFloor]
@[simp] theorem setFloor_links (p : Fin 4) (c : FloorChange) (s : State) : (setFloor p c s).links = s.links := by simp [setFloor]
@[simp] theorem setFloor_down (p : Fin 4) (c : FloorChange) (s : State) : (setFloor p c s).down = s.down := by simp [setFloor]
@[simp] theorem setFloor_lineA (p : Fin 4) (c : FloorChange) (s : State) : (setFloor p c s).lineA = s.lineA := by simp [setFloor]
@[simp] theorem setFloor_recB (p : Fin 4) (c : FloorChange) (s : State) : (setFloor p c s).recB = s.recB := by simp [setFloor]
@[simp] theorem setFloor_scene (p : Fin 4) (c : FloorChange) (s : State) : (setFloor p c s).scene = s.scene := by simp [setFloor]
@[simp] theorem setFloor_freeCount (p : Fin 4) (c : FloorChange) (s : State) : (setFloor p c s).freeCount = s.freeCount := by simp [setFloor]

@[simp] theorem evaluateOn_pending (v : GateView) (s : State) : (evaluateOn v s).pending = s.pending := by simp [evaluateOn]
@[simp] theorem evaluateOn_held (v : GateView) (s : State) : (evaluateOn v s).held = s.held := by simp [evaluateOn]
@[simp] theorem evaluateOn_pins (v : GateView) (s : State) : (evaluateOn v s).pins = s.pins := by simp [evaluateOn]
@[simp] theorem evaluateOn_periods (v : GateView) (s : State) : (evaluateOn v s).periods = s.periods := by simp [evaluateOn]
@[simp] theorem evaluateOn_live (v : GateView) (s : State) : (evaluateOn v s).live = s.live := by simp [evaluateOn]
@[simp] theorem evaluateOn_rate (v : GateView) (s : State) : (evaluateOn v s).rate = s.rate := by simp [evaluateOn]
@[simp] theorem evaluateOn_autoUp (v : GateView) (s : State) : (evaluateOn v s).autoUp = s.autoUp := by simp [evaluateOn]
@[simp] theorem evaluateOn_audio (v : GateView) (s : State) : (evaluateOn v s).audio = s.audio := by simp [evaluateOn]
@[simp] theorem evaluateOn_mix (v : GateView) (s : State) : (evaluateOn v s).mix = s.mix := by simp [evaluateOn]
@[simp] theorem evaluateOn_walls (v : GateView) (s : State) : (evaluateOn v s).walls = s.walls := by simp [evaluateOn]
@[simp] theorem evaluateOn_rg (v : GateView) (s : State) : (evaluateOn v s).rg = s.rg := by simp [evaluateOn]
@[simp] theorem evaluateOn_mute (v : GateView) (s : State) : (evaluateOn v s).mute = s.mute := by simp [evaluateOn]
@[simp] theorem evaluateOn_floors (v : GateView) (s : State) : (evaluateOn v s).floors = s.floors := by simp [evaluateOn]
@[simp] theorem evaluateOn_ahead (v : GateView) (s : State) : (evaluateOn v s).ahead = s.ahead := by simp [evaluateOn]
@[simp] theorem evaluateOn_links (v : GateView) (s : State) : (evaluateOn v s).links = s.links := by simp [evaluateOn]
@[simp] theorem evaluateOn_down (v : GateView) (s : State) : (evaluateOn v s).down = s.down := by simp [evaluateOn]
@[simp] theorem evaluateOn_portA (v : GateView) (s : State) : (evaluateOn v s).portA = s.portA := by simp [evaluateOn]
@[simp] theorem evaluateOn_portB (v : GateView) (s : State) : (evaluateOn v s).portB = s.portB := by simp [evaluateOn]
@[simp] theorem evaluateOn_lineA (v : GateView) (s : State) : (evaluateOn v s).lineA = s.lineA := by simp [evaluateOn]
@[simp] theorem evaluateOn_recB (v : GateView) (s : State) : (evaluateOn v s).recB = s.recB := by simp [evaluateOn]
@[simp] theorem evaluateOn_scene (v : GateView) (s : State) : (evaluateOn v s).scene = s.scene := by simp [evaluateOn]
@[simp] theorem evaluateOn_freeCount (v : GateView) (s : State) : (evaluateOn v s).freeCount = s.freeCount := by simp [evaluateOn]

@[simp] theorem gateEvaluation_pending (s : State) (p : Fin 4) : (gateEvaluation s p).pending = s.pending := by
  unfold gateEvaluation; split <;> simp
@[simp] theorem gateEvaluation_held (s : State) (p : Fin 4) : (gateEvaluation s p).held = s.held := by
  unfold gateEvaluation; split <;> simp
@[simp] theorem gateEvaluation_pins (s : State) (p : Fin 4) : (gateEvaluation s p).pins = s.pins := by
  unfold gateEvaluation; split <;> simp
@[simp] theorem gateEvaluation_periods (s : State) (p : Fin 4) : (gateEvaluation s p).periods = s.periods := by
  unfold gateEvaluation; split <;> simp
@[simp] theorem gateEvaluation_live (s : State) (p : Fin 4) : (gateEvaluation s p).live = s.live := by
  unfold gateEvaluation; split <;> simp
@[simp] theorem gateEvaluation_rate (s : State) (p : Fin 4) : (gateEvaluation s p).rate = s.rate := by
  unfold gateEvaluation; split <;> simp
@[simp] theorem gateEvaluation_autoUp (s : State) (p : Fin 4) : (gateEvaluation s p).autoUp = s.autoUp := by
  unfold gateEvaluation; split <;> simp
@[simp] theorem gateEvaluation_audio (s : State) (p : Fin 4) : (gateEvaluation s p).audio = s.audio := by
  unfold gateEvaluation; split <;> simp
@[simp] theorem gateEvaluation_mix (s : State) (p : Fin 4) : (gateEvaluation s p).mix = s.mix := by
  unfold gateEvaluation; split <;> simp
@[simp] theorem gateEvaluation_walls (s : State) (p : Fin 4) : (gateEvaluation s p).walls = s.walls := by
  unfold gateEvaluation; split <;> simp
@[simp] theorem gateEvaluation_rg (s : State) (p : Fin 4) : (gateEvaluation s p).rg = s.rg := by
  unfold gateEvaluation; split <;> simp
@[simp] theorem gateEvaluation_mute (s : State) (p : Fin 4) : (gateEvaluation s p).mute = s.mute := by
  unfold gateEvaluation; split <;> simp
@[simp] theorem gateEvaluation_floors (s : State) (p : Fin 4) : (gateEvaluation s p).floors = s.floors := by
  unfold gateEvaluation; split <;> simp
@[simp] theorem gateEvaluation_ahead (s : State) (p : Fin 4) : (gateEvaluation s p).ahead = s.ahead := by
  unfold gateEvaluation; split <;> simp
@[simp] theorem gateEvaluation_links (s : State) (p : Fin 4) : (gateEvaluation s p).links = s.links := by
  unfold gateEvaluation; split <;> simp
@[simp] theorem gateEvaluation_down (s : State) (p : Fin 4) : (gateEvaluation s p).down = s.down := by
  unfold gateEvaluation; split <;> simp
@[simp] theorem gateEvaluation_portA (s : State) (p : Fin 4) : (gateEvaluation s p).portA = s.portA := by
  unfold gateEvaluation; split <;> simp
@[simp] theorem gateEvaluation_portB (s : State) (p : Fin 4) : (gateEvaluation s p).portB = s.portB := by
  unfold gateEvaluation; split <;> simp
@[simp] theorem gateEvaluation_lineA (s : State) (p : Fin 4) : (gateEvaluation s p).lineA = s.lineA := by
  unfold gateEvaluation; split <;> simp
@[simp] theorem gateEvaluation_recB (s : State) (p : Fin 4) : (gateEvaluation s p).recB = s.recB := by
  unfold gateEvaluation; split <;> simp
@[simp] theorem gateEvaluation_scene (s : State) (p : Fin 4) : (gateEvaluation s p).scene = s.scene := by
  unfold gateEvaluation; split <;> simp
@[simp] theorem gateEvaluation_freeCount (s : State) (p : Fin 4) : (gateEvaluation s p).freeCount = s.freeCount := by
  unfold gateEvaluation; split <;> simp

@[simp] theorem handCount_pending (p : Fin 4) (s : State) : (handCount p s).pending = s.pending := rfl
@[simp] theorem handCount_held (p : Fin 4) (s : State) : (handCount p s).held = s.held := rfl
@[simp] theorem handCount_pins (p : Fin 4) (s : State) : (handCount p s).pins = s.pins := rfl
@[simp] theorem handCount_periods (p : Fin 4) (s : State) : (handCount p s).periods = s.periods := rfl
@[simp] theorem handCount_live (p : Fin 4) (s : State) : (handCount p s).live = s.live := rfl
@[simp] theorem handCount_rate (p : Fin 4) (s : State) : (handCount p s).rate = s.rate := rfl
@[simp] theorem handCount_autoUp (p : Fin 4) (s : State) : (handCount p s).autoUp = s.autoUp := rfl
@[simp] theorem handCount_audio (p : Fin 4) (s : State) : (handCount p s).audio = s.audio := rfl
@[simp] theorem handCount_mix (p : Fin 4) (s : State) : (handCount p s).mix = s.mix := rfl
@[simp] theorem handCount_env (p : Fin 4) (s : State) : (handCount p s).env = s.env := rfl
@[simp] theorem handCount_walls (p : Fin 4) (s : State) : (handCount p s).walls = s.walls := rfl
@[simp] theorem handCount_rg (p : Fin 4) (s : State) : (handCount p s).rg = s.rg := rfl
@[simp] theorem handCount_mute (p : Fin 4) (s : State) : (handCount p s).mute = s.mute := rfl
@[simp] theorem handCount_gates (p : Fin 4) (s : State) : (handCount p s).gates = s.gates := rfl
@[simp] theorem handCount_floors (p : Fin 4) (s : State) : (handCount p s).floors = s.floors := rfl
@[simp] theorem handCount_links (p : Fin 4) (s : State) : (handCount p s).links = s.links := rfl
@[simp] theorem handCount_down (p : Fin 4) (s : State) : (handCount p s).down = s.down := rfl
@[simp] theorem handCount_portA (p : Fin 4) (s : State) : (handCount p s).portA = s.portA := rfl
@[simp] theorem handCount_portB (p : Fin 4) (s : State) : (handCount p s).portB = s.portB := rfl
@[simp] theorem handCount_lineA (p : Fin 4) (s : State) : (handCount p s).lineA = s.lineA := rfl
@[simp] theorem handCount_recB (p : Fin 4) (s : State) : (handCount p s).recB = s.recB := rfl
@[simp] theorem handCount_scene (p : Fin 4) (s : State) : (handCount p s).scene = s.scene := rfl
@[simp] theorem handCount_freeCount (p : Fin 4) (s : State) : (handCount p s).freeCount = s.freeCount := rfl

@[simp] theorem withWorked_pending (s : State) (v : Vector Bool 4) : (s.withWorked v).pending = s.pending := rfl
@[simp] theorem withWorked_held (s : State) (v : Vector Bool 4) : (s.withWorked v).held = s.held := rfl
@[simp] theorem withWorked_pins (s : State) (v : Vector Bool 4) : (s.withWorked v).pins = s.pins := rfl
@[simp] theorem withWorked_periods (s : State) (v : Vector Bool 4) : (s.withWorked v).periods = s.periods := rfl
@[simp] theorem withWorked_live (s : State) (v : Vector Bool 4) : (s.withWorked v).live = s.live := rfl
@[simp] theorem withWorked_rate (s : State) (v : Vector Bool 4) : (s.withWorked v).rate = s.rate := rfl
@[simp] theorem withWorked_autoUp (s : State) (v : Vector Bool 4) : (s.withWorked v).autoUp = s.autoUp := rfl
@[simp] theorem withWorked_audio (s : State) (v : Vector Bool 4) : (s.withWorked v).audio = s.audio := rfl
@[simp] theorem withWorked_mix (s : State) (v : Vector Bool 4) : (s.withWorked v).mix = s.mix := rfl
@[simp] theorem withWorked_env (s : State) (v : Vector Bool 4) : (s.withWorked v).env = s.env := rfl
@[simp] theorem withWorked_walls (s : State) (v : Vector Bool 4) : (s.withWorked v).walls = s.walls := rfl
@[simp] theorem withWorked_rg (s : State) (v : Vector Bool 4) : (s.withWorked v).rg = s.rg := rfl
@[simp] theorem withWorked_mute (s : State) (v : Vector Bool 4) : (s.withWorked v).mute = s.mute := rfl
@[simp] theorem withWorked_gates (s : State) (v : Vector Bool 4) : (s.withWorked v).gates = s.gates := rfl
@[simp] theorem withWorked_floors (s : State) (v : Vector Bool 4) : (s.withWorked v).floors = s.floors := rfl
@[simp] theorem withWorked_links (s : State) (v : Vector Bool 4) : (s.withWorked v).links = s.links := rfl
@[simp] theorem withWorked_down (s : State) (v : Vector Bool 4) : (s.withWorked v).down = s.down := rfl
@[simp] theorem withWorked_portA (s : State) (v : Vector Bool 4) : (s.withWorked v).portA = s.portA := rfl
@[simp] theorem withWorked_portB (s : State) (v : Vector Bool 4) : (s.withWorked v).portB = s.portB := rfl
@[simp] theorem withWorked_lineA (s : State) (v : Vector Bool 4) : (s.withWorked v).lineA = s.lineA := rfl
@[simp] theorem withWorked_recB (s : State) (v : Vector Bool 4) : (s.withWorked v).recB = s.recB := rfl
@[simp] theorem withWorked_scene (s : State) (v : Vector Bool 4) : (s.withWorked v).scene = s.scene := rfl
@[simp] theorem withWorked_freeCount (s : State) (v : Vector Bool 4) : (s.withWorked v).freeCount = s.freeCount := rfl

@[simp] theorem floorWork_pending (s : State) (p : Fin 4) : (floorWork s p).pending = s.pending := by
  unfold floorWork; split <;> simp
@[simp] theorem floorWork_held (s : State) (p : Fin 4) : (floorWork s p).held = s.held := by
  unfold floorWork; split <;> simp
@[simp] theorem floorWork_pins (s : State) (p : Fin 4) : (floorWork s p).pins = s.pins := by
  unfold floorWork; split <;> simp
@[simp] theorem floorWork_periods (s : State) (p : Fin 4) : (floorWork s p).periods = s.periods := by
  unfold floorWork; split <;> simp
@[simp] theorem floorWork_live (s : State) (p : Fin 4) : (floorWork s p).live = s.live := by
  unfold floorWork; split <;> simp
@[simp] theorem floorWork_rate (s : State) (p : Fin 4) : (floorWork s p).rate = s.rate := by
  unfold floorWork; split <;> simp
@[simp] theorem floorWork_autoUp (s : State) (p : Fin 4) : (floorWork s p).autoUp = s.autoUp := by
  unfold floorWork; split <;> simp
@[simp] theorem floorWork_audio (s : State) (p : Fin 4) : (floorWork s p).audio = s.audio := by
  unfold floorWork; split <;> simp
@[simp] theorem floorWork_mix (s : State) (p : Fin 4) : (floorWork s p).mix = s.mix := by
  unfold floorWork; split <;> simp
@[simp] theorem floorWork_walls (s : State) (p : Fin 4) : (floorWork s p).walls = s.walls := by
  unfold floorWork; split <;> simp
@[simp] theorem floorWork_rg (s : State) (p : Fin 4) : (floorWork s p).rg = s.rg := by
  unfold floorWork; split <;> simp
@[simp] theorem floorWork_mute (s : State) (p : Fin 4) : (floorWork s p).mute = s.mute := by
  unfold floorWork; split <;> simp
@[simp] theorem floorWork_gates (s : State) (p : Fin 4) : (floorWork s p).gates = s.gates := by
  unfold floorWork; split <;> simp
@[simp] theorem floorWork_ahead (s : State) (p : Fin 4) : (floorWork s p).ahead = s.ahead := by
  unfold floorWork; split <;> simp
@[simp] theorem floorWork_links (s : State) (p : Fin 4) : (floorWork s p).links = s.links := by
  unfold floorWork; split <;> simp
@[simp] theorem floorWork_down (s : State) (p : Fin 4) : (floorWork s p).down = s.down := by
  unfold floorWork; split <;> simp
@[simp] theorem floorWork_lineA (s : State) (p : Fin 4) : (floorWork s p).lineA = s.lineA := by
  unfold floorWork; split <;> simp
@[simp] theorem floorWork_recB (s : State) (p : Fin 4) : (floorWork s p).recB = s.recB := by
  unfold floorWork; split <;> simp
@[simp] theorem floorWork_scene (s : State) (p : Fin 4) : (floorWork s p).scene = s.scene := by
  unfold floorWork; split <;> simp
@[simp] theorem floorWork_freeCount (s : State) (p : Fin 4) : (floorWork s p).freeCount = s.freeCount := by
  unfold floorWork; split <;> simp

theorem slots_eq : slots = [0, 1, 2, 3] := by decide

@[simp] theorem takePieces_pending (s : State) : (takePieces s).pending = s.pending := by simp [takePieces, slots_eq]
@[simp] theorem takePieces_held (s : State) : (takePieces s).held = s.held := by simp [takePieces, slots_eq]
@[simp] theorem takePieces_pins (s : State) : (takePieces s).pins = s.pins := by simp [takePieces, slots_eq]
@[simp] theorem takePieces_periods (s : State) : (takePieces s).periods = s.periods := by simp [takePieces, slots_eq]
@[simp] theorem takePieces_live (s : State) : (takePieces s).live = s.live := by simp [takePieces, slots_eq]
@[simp] theorem takePieces_rate (s : State) : (takePieces s).rate = s.rate := by simp [takePieces, slots_eq]
@[simp] theorem takePieces_autoUp (s : State) : (takePieces s).autoUp = s.autoUp := by simp [takePieces, slots_eq]
@[simp] theorem takePieces_audio (s : State) : (takePieces s).audio = s.audio := by simp [takePieces, slots_eq]
@[simp] theorem takePieces_mix (s : State) : (takePieces s).mix = s.mix := by simp [takePieces, slots_eq]
@[simp] theorem takePieces_walls (s : State) : (takePieces s).walls = s.walls := by simp [takePieces, slots_eq]
@[simp] theorem takePieces_rg (s : State) : (takePieces s).rg = s.rg := by simp [takePieces, slots_eq]
@[simp] theorem takePieces_mute (s : State) : (takePieces s).mute = s.mute := by simp [takePieces, slots_eq]
@[simp] theorem takePieces_gates (s : State) : (takePieces s).gates = s.gates := by simp [takePieces, slots_eq]
@[simp] theorem takePieces_links (s : State) : (takePieces s).links = s.links := by simp [takePieces, slots_eq]
@[simp] theorem takePieces_down (s : State) : (takePieces s).down = s.down := by simp [takePieces, slots_eq]
@[simp] theorem takePieces_lineA (s : State) : (takePieces s).lineA = s.lineA := by simp [takePieces, slots_eq]
@[simp] theorem takePieces_recB (s : State) : (takePieces s).recB = s.recB := by simp [takePieces, slots_eq]
@[simp] theorem takePieces_scene (s : State) : (takePieces s).scene = s.scene := by simp [takePieces, slots_eq]
@[simp] theorem takePieces_freeCount (s : State) : (takePieces s).freeCount = s.freeCount := by simp [takePieces, slots_eq]

@[simp] theorem pieceAhead_pending (p : Fin 4) (due : Bool) (s : State) : (pieceAhead p due s).pending = s.pending := by
  unfold pieceAhead; split <;> simp
@[simp] theorem pieceAhead_held (p : Fin 4) (due : Bool) (s : State) : (pieceAhead p due s).held = s.held := by
  unfold pieceAhead; split <;> simp
@[simp] theorem pieceAhead_pins (p : Fin 4) (due : Bool) (s : State) : (pieceAhead p due s).pins = s.pins := by
  unfold pieceAhead; split <;> simp
@[simp] theorem pieceAhead_periods (p : Fin 4) (due : Bool) (s : State) : (pieceAhead p due s).periods = s.periods := by
  unfold pieceAhead; split <;> simp
@[simp] theorem pieceAhead_live (p : Fin 4) (due : Bool) (s : State) : (pieceAhead p due s).live = s.live := by
  unfold pieceAhead; split <;> simp
@[simp] theorem pieceAhead_rate (p : Fin 4) (due : Bool) (s : State) : (pieceAhead p due s).rate = s.rate := by
  unfold pieceAhead; split <;> simp
@[simp] theorem pieceAhead_autoUp (p : Fin 4) (due : Bool) (s : State) : (pieceAhead p due s).autoUp = s.autoUp := by
  unfold pieceAhead; split <;> simp
@[simp] theorem pieceAhead_audio (p : Fin 4) (due : Bool) (s : State) : (pieceAhead p due s).audio = s.audio := by
  unfold pieceAhead; split <;> simp
@[simp] theorem pieceAhead_mix (p : Fin 4) (due : Bool) (s : State) : (pieceAhead p due s).mix = s.mix := by
  unfold pieceAhead; split <;> simp
@[simp] theorem pieceAhead_walls (p : Fin 4) (due : Bool) (s : State) : (pieceAhead p due s).walls = s.walls := by
  unfold pieceAhead; split <;> simp
@[simp] theorem pieceAhead_rg (p : Fin 4) (due : Bool) (s : State) : (pieceAhead p due s).rg = s.rg := by
  unfold pieceAhead; split <;> simp
@[simp] theorem pieceAhead_mute (p : Fin 4) (due : Bool) (s : State) : (pieceAhead p due s).mute = s.mute := by
  unfold pieceAhead; split <;> simp
@[simp] theorem pieceAhead_gates (p : Fin 4) (due : Bool) (s : State) : (pieceAhead p due s).gates = s.gates := by
  unfold pieceAhead; split <;> simp
@[simp] theorem pieceAhead_links (p : Fin 4) (due : Bool) (s : State) : (pieceAhead p due s).links = s.links := by
  unfold pieceAhead; split <;> simp
@[simp] theorem pieceAhead_down (p : Fin 4) (due : Bool) (s : State) : (pieceAhead p due s).down = s.down := by
  unfold pieceAhead; split <;> simp
@[simp] theorem pieceAhead_lineA (p : Fin 4) (due : Bool) (s : State) : (pieceAhead p due s).lineA = s.lineA := by
  unfold pieceAhead; split <;> simp
@[simp] theorem pieceAhead_recB (p : Fin 4) (due : Bool) (s : State) : (pieceAhead p due s).recB = s.recB := by
  unfold pieceAhead; split <;> simp
@[simp] theorem pieceAhead_scene (p : Fin 4) (due : Bool) (s : State) : (pieceAhead p due s).scene = s.scene := by
  unfold pieceAhead; split <;> simp
@[simp] theorem pieceAhead_freeCount (p : Fin 4) (due : Bool) (s : State) : (pieceAhead p due s).freeCount = s.freeCount := by
  unfold pieceAhead; split <;> simp

@[simp] theorem advance_pending (s : State) (p : Port) : (s.advance p).pending = s.pending := by cases p <;> rfl
@[simp] theorem advance_held (s : State) (p : Port) : (s.advance p).held = s.held := by cases p <;> rfl
@[simp] theorem advance_pins (s : State) (p : Port) : (s.advance p).pins = s.pins := by cases p <;> rfl
@[simp] theorem advance_periods (s : State) (p : Port) : (s.advance p).periods = s.periods := by cases p <;> rfl
@[simp] theorem advance_live (s : State) (p : Port) : (s.advance p).live = s.live := by cases p <;> rfl
@[simp] theorem advance_rate (s : State) (p : Port) : (s.advance p).rate = s.rate := by cases p <;> rfl
@[simp] theorem advance_autoUp (s : State) (p : Port) : (s.advance p).autoUp = s.autoUp := by cases p <;> rfl
@[simp] theorem advance_audio (s : State) (p : Port) : (s.advance p).audio = s.audio := by cases p <;> rfl
@[simp] theorem advance_mix (s : State) (p : Port) : (s.advance p).mix = s.mix := by cases p <;> rfl
@[simp] theorem advance_env (s : State) (p : Port) : (s.advance p).env = s.env := by cases p <;> rfl
@[simp] theorem advance_walls (s : State) (p : Port) : (s.advance p).walls = s.walls := by cases p <;> rfl
@[simp] theorem advance_rg (s : State) (p : Port) : (s.advance p).rg = s.rg := by cases p <;> rfl
@[simp] theorem advance_mute (s : State) (p : Port) : (s.advance p).mute = s.mute := by cases p <;> rfl
@[simp] theorem advance_gates (s : State) (p : Port) : (s.advance p).gates = s.gates := by cases p <;> rfl
@[simp] theorem advance_floors (s : State) (p : Port) : (s.advance p).floors = s.floors := by cases p <;> rfl
@[simp] theorem advance_ahead (s : State) (p : Port) : (s.advance p).ahead = s.ahead := by cases p <;> rfl
@[simp] theorem advance_links (s : State) (p : Port) : (s.advance p).links = s.links := by cases p <;> rfl
@[simp] theorem advance_down (s : State) (p : Port) : (s.advance p).down = s.down := by cases p <;> rfl
@[simp] theorem advance_lineA (s : State) (p : Port) : (s.advance p).lineA = s.lineA := by cases p <;> rfl
@[simp] theorem advance_recB (s : State) (p : Port) : (s.advance p).recB = s.recB := by cases p <;> rfl
@[simp] theorem advance_scene (s : State) (p : Port) : (s.advance p).scene = s.scene := by cases p <;> rfl
@[simp] theorem advance_freeCount (s : State) (p : Port) : (s.advance p).freeCount = s.freeCount := by cases p <;> rfl

@[simp] theorem respond_pending (p : Port) (c : Byte) (st : Status) (d : List Nat) (s : State) : (respond p c st d s).pending = s.pending := by cases p <;> simp only [respond]
@[simp] theorem respond_held (p : Port) (c : Byte) (st : Status) (d : List Nat) (s : State) : (respond p c st d s).held = s.held := by cases p <;> simp only [respond]
@[simp] theorem respond_pins (p : Port) (c : Byte) (st : Status) (d : List Nat) (s : State) : (respond p c st d s).pins = s.pins := by cases p <;> simp only [respond]
@[simp] theorem respond_periods (p : Port) (c : Byte) (st : Status) (d : List Nat) (s : State) : (respond p c st d s).periods = s.periods := by cases p <;> simp only [respond]
@[simp] theorem respond_live (p : Port) (c : Byte) (st : Status) (d : List Nat) (s : State) : (respond p c st d s).live = s.live := by cases p <;> simp only [respond]
@[simp] theorem respond_rate (p : Port) (c : Byte) (st : Status) (d : List Nat) (s : State) : (respond p c st d s).rate = s.rate := by cases p <;> simp only [respond]
@[simp] theorem respond_autoUp (p : Port) (c : Byte) (st : Status) (d : List Nat) (s : State) : (respond p c st d s).autoUp = s.autoUp := by cases p <;> simp only [respond]
@[simp] theorem respond_audio (p : Port) (c : Byte) (st : Status) (d : List Nat) (s : State) : (respond p c st d s).audio = s.audio := by cases p <;> simp only [respond]
@[simp] theorem respond_mix (p : Port) (c : Byte) (st : Status) (d : List Nat) (s : State) : (respond p c st d s).mix = s.mix := by cases p <;> simp only [respond]
@[simp] theorem respond_env (p : Port) (c : Byte) (st : Status) (d : List Nat) (s : State) : (respond p c st d s).env = s.env := by cases p <;> simp only [respond]
@[simp] theorem respond_walls (p : Port) (c : Byte) (st : Status) (d : List Nat) (s : State) : (respond p c st d s).walls = s.walls := by cases p <;> simp only [respond]
@[simp] theorem respond_rg (p : Port) (c : Byte) (st : Status) (d : List Nat) (s : State) : (respond p c st d s).rg = s.rg := by cases p <;> simp only [respond]
@[simp] theorem respond_mute (p : Port) (c : Byte) (st : Status) (d : List Nat) (s : State) : (respond p c st d s).mute = s.mute := by cases p <;> simp only [respond]
@[simp] theorem respond_gates (p : Port) (c : Byte) (st : Status) (d : List Nat) (s : State) : (respond p c st d s).gates = s.gates := by cases p <;> simp only [respond]
@[simp] theorem respond_floors (p : Port) (c : Byte) (st : Status) (d : List Nat) (s : State) : (respond p c st d s).floors = s.floors := by cases p <;> simp only [respond]
@[simp] theorem respond_ahead (p : Port) (c : Byte) (st : Status) (d : List Nat) (s : State) : (respond p c st d s).ahead = s.ahead := by cases p <;> simp only [respond]
@[simp] theorem respond_links (p : Port) (c : Byte) (st : Status) (d : List Nat) (s : State) : (respond p c st d s).links = s.links := by cases p <;> simp only [respond]
@[simp] theorem respond_down (p : Port) (c : Byte) (st : Status) (d : List Nat) (s : State) : (respond p c st d s).down = s.down := by cases p <;> simp only [respond]
@[simp] theorem respond_portA (p : Port) (c : Byte) (st : Status) (d : List Nat) (s : State) : (respond p c st d s).portA = s.portA := by cases p <;> simp only [respond]
@[simp] theorem respond_portB (p : Port) (c : Byte) (st : Status) (d : List Nat) (s : State) : (respond p c st d s).portB = s.portB := by cases p <;> simp only [respond]
@[simp] theorem respond_scene (p : Port) (c : Byte) (st : Status) (d : List Nat) (s : State) : (respond p c st d s).scene = s.scene := by cases p <;> simp only [respond]
@[simp] theorem respond_freeCount (p : Port) (c : Byte) (st : Status) (d : List Nat) (s : State) : (respond p c st d s).freeCount = s.freeCount := by cases p <;> simp only [respond]

@[simp] theorem received_pending (p : Port) (s : State) : (received p s).pending = s.pending := by cases p <;> rfl
@[simp] theorem received_held (p : Port) (s : State) : (received p s).held = s.held := by cases p <;> rfl
@[simp] theorem received_pins (p : Port) (s : State) : (received p s).pins = s.pins := by cases p <;> rfl
@[simp] theorem received_periods (p : Port) (s : State) : (received p s).periods = s.periods := by cases p <;> rfl
@[simp] theorem received_live (p : Port) (s : State) : (received p s).live = s.live := by cases p <;> rfl
@[simp] theorem received_rate (p : Port) (s : State) : (received p s).rate = s.rate := by cases p <;> rfl
@[simp] theorem received_autoUp (p : Port) (s : State) : (received p s).autoUp = s.autoUp := by cases p <;> rfl
@[simp] theorem received_audio (p : Port) (s : State) : (received p s).audio = s.audio := by cases p <;> rfl
@[simp] theorem received_mix (p : Port) (s : State) : (received p s).mix = s.mix := by cases p <;> rfl
@[simp] theorem received_env (p : Port) (s : State) : (received p s).env = s.env := by cases p <;> rfl
@[simp] theorem received_walls (p : Port) (s : State) : (received p s).walls = s.walls := by cases p <;> rfl
@[simp] theorem received_rg (p : Port) (s : State) : (received p s).rg = s.rg := by cases p <;> rfl
@[simp] theorem received_mute (p : Port) (s : State) : (received p s).mute = s.mute := by cases p <;> rfl
@[simp] theorem received_gates (p : Port) (s : State) : (received p s).gates = s.gates := by cases p <;> rfl
@[simp] theorem received_floors (p : Port) (s : State) : (received p s).floors = s.floors := by cases p <;> rfl
@[simp] theorem received_ahead (p : Port) (s : State) : (received p s).ahead = s.ahead := by cases p <;> rfl
@[simp] theorem received_links (p : Port) (s : State) : (received p s).links = s.links := by cases p <;> rfl
@[simp] theorem received_down (p : Port) (s : State) : (received p s).down = s.down := by cases p <;> rfl
@[simp] theorem received_recB (p : Port) (s : State) : (received p s).recB = s.recB := by cases p <;> rfl
@[simp] theorem received_scene (p : Port) (s : State) : (received p s).scene = s.scene := by cases p <;> rfl
@[simp] theorem received_freeCount (p : Port) (s : State) : (received p s).freeCount = s.freeCount := by cases p <;> rfl

@[simp] theorem regroupCause_pending (b : Bool) (s : State) : (regroupCause b s).pending = s.pending := by
  unfold regroupCause; dsimp only; split <;> [rfl; split; rfl] <;> rfl
@[simp] theorem regroupCause_held (b : Bool) (s : State) : (regroupCause b s).held = s.held := by
  unfold regroupCause; dsimp only; split <;> [rfl; split; rfl] <;> rfl
@[simp] theorem regroupCause_pins (b : Bool) (s : State) : (regroupCause b s).pins = s.pins := by
  unfold regroupCause; dsimp only; split <;> [rfl; split; rfl] <;> rfl
@[simp] theorem regroupCause_periods (b : Bool) (s : State) : (regroupCause b s).periods = s.periods := by
  unfold regroupCause; dsimp only; split <;> [rfl; split; rfl] <;> rfl
@[simp] theorem regroupCause_live (b : Bool) (s : State) : (regroupCause b s).live = s.live := by
  unfold regroupCause; dsimp only; split <;> [rfl; split; rfl] <;> rfl
@[simp] theorem regroupCause_rate (b : Bool) (s : State) : (regroupCause b s).rate = s.rate := by
  unfold regroupCause; dsimp only; split <;> [rfl; split; rfl] <;> rfl
@[simp] theorem regroupCause_autoUp (b : Bool) (s : State) : (regroupCause b s).autoUp = s.autoUp := by
  unfold regroupCause; dsimp only; split <;> [rfl; split; rfl] <;> rfl
@[simp] theorem regroupCause_audio (b : Bool) (s : State) : (regroupCause b s).audio = s.audio := by
  unfold regroupCause; dsimp only; split <;> [rfl; split; rfl] <;> rfl
@[simp] theorem regroupCause_mix (b : Bool) (s : State) : (regroupCause b s).mix = s.mix := by
  unfold regroupCause; dsimp only; split <;> [rfl; split; rfl] <;> rfl
@[simp] theorem regroupCause_env (b : Bool) (s : State) : (regroupCause b s).env = s.env := by
  unfold regroupCause; dsimp only; split <;> [rfl; split; rfl] <;> rfl
@[simp] theorem regroupCause_walls (b : Bool) (s : State) : (regroupCause b s).walls = s.walls := by
  unfold regroupCause; dsimp only; split <;> [rfl; split; rfl] <;> rfl
@[simp] theorem regroupCause_mute (b : Bool) (s : State) : (regroupCause b s).mute = s.mute := by
  unfold regroupCause; dsimp only; split <;> [rfl; split; rfl] <;> rfl
@[simp] theorem regroupCause_gates (b : Bool) (s : State) : (regroupCause b s).gates = s.gates := by
  unfold regroupCause; dsimp only; split <;> [rfl; split; rfl] <;> rfl
@[simp] theorem regroupCause_floors (b : Bool) (s : State) : (regroupCause b s).floors = s.floors := by
  unfold regroupCause; dsimp only; split <;> [rfl; split; rfl] <;> rfl
@[simp] theorem regroupCause_ahead (b : Bool) (s : State) : (regroupCause b s).ahead = s.ahead := by
  unfold regroupCause; dsimp only; split <;> [rfl; split; rfl] <;> rfl
@[simp] theorem regroupCause_links (b : Bool) (s : State) : (regroupCause b s).links = s.links := by
  unfold regroupCause; dsimp only; split <;> [rfl; split; rfl] <;> rfl
@[simp] theorem regroupCause_down (b : Bool) (s : State) : (regroupCause b s).down = s.down := by
  unfold regroupCause; dsimp only; split <;> [rfl; split; rfl] <;> rfl
@[simp] theorem regroupCause_portA (b : Bool) (s : State) : (regroupCause b s).portA = s.portA := by
  unfold regroupCause; dsimp only; split <;> [rfl; split; rfl] <;> rfl
@[simp] theorem regroupCause_portB (b : Bool) (s : State) : (regroupCause b s).portB = s.portB := by
  unfold regroupCause; dsimp only; split <;> [rfl; split; rfl] <;> rfl
@[simp] theorem regroupCause_lineA (b : Bool) (s : State) : (regroupCause b s).lineA = s.lineA := by
  unfold regroupCause; dsimp only; split <;> [rfl; split; rfl] <;> rfl
@[simp] theorem regroupCause_recB (b : Bool) (s : State) : (regroupCause b s).recB = s.recB := by
  unfold regroupCause; dsimp only; split <;> [rfl; split; rfl] <;> rfl
@[simp] theorem regroupCause_scene (b : Bool) (s : State) : (regroupCause b s).scene = s.scene := by
  unfold regroupCause; dsimp only; split <;> [rfl; split; rfl] <;> rfl
@[simp] theorem regroupCause_freeCount (b : Bool) (s : State) : (regroupCause b s).freeCount = s.freeCount := by
  unfold regroupCause; dsimp only; split <;> [rfl; split; rfl] <;> rfl

@[simp] theorem startLine_pending (s : State) : (startLine s).pending = s.pending := by
  unfold startLine; split <;> [rfl; split] <;> rfl
@[simp] theorem startLine_held (s : State) : (startLine s).held = s.held := by
  unfold startLine; split <;> [rfl; split] <;> rfl
@[simp] theorem startLine_pins (s : State) : (startLine s).pins = s.pins := by
  unfold startLine; split <;> [rfl; split] <;> rfl
@[simp] theorem startLine_periods (s : State) : (startLine s).periods = s.periods := by
  unfold startLine; split <;> [rfl; split] <;> rfl
@[simp] theorem startLine_live (s : State) : (startLine s).live = s.live := by
  unfold startLine; split <;> [rfl; split] <;> rfl
@[simp] theorem startLine_rate (s : State) : (startLine s).rate = s.rate := by
  unfold startLine; split <;> [rfl; split] <;> rfl
@[simp] theorem startLine_autoUp (s : State) : (startLine s).autoUp = s.autoUp := by
  unfold startLine; split <;> [rfl; split] <;> rfl
@[simp] theorem startLine_audio (s : State) : (startLine s).audio = s.audio := by
  unfold startLine; split <;> [rfl; split] <;> rfl
@[simp] theorem startLine_mix (s : State) : (startLine s).mix = s.mix := by
  unfold startLine; split <;> [rfl; split] <;> rfl
@[simp] theorem startLine_env (s : State) : (startLine s).env = s.env := by
  unfold startLine; split <;> [rfl; split] <;> rfl
@[simp] theorem startLine_walls (s : State) : (startLine s).walls = s.walls := by
  unfold startLine; split <;> [rfl; split] <;> rfl
@[simp] theorem startLine_rg (s : State) : (startLine s).rg = s.rg := by
  unfold startLine; split <;> [rfl; split] <;> rfl
@[simp] theorem startLine_mute (s : State) : (startLine s).mute = s.mute := by
  unfold startLine; split <;> [rfl; split] <;> rfl
@[simp] theorem startLine_gates (s : State) : (startLine s).gates = s.gates := by
  unfold startLine; split <;> [rfl; split] <;> rfl
@[simp] theorem startLine_floors (s : State) : (startLine s).floors = s.floors := by
  unfold startLine; split <;> [rfl; split] <;> rfl
@[simp] theorem startLine_ahead (s : State) : (startLine s).ahead = s.ahead := by
  unfold startLine; split <;> [rfl; split] <;> rfl
@[simp] theorem startLine_links (s : State) : (startLine s).links = s.links := by
  unfold startLine; split <;> [rfl; split] <;> rfl
@[simp] theorem startLine_down (s : State) : (startLine s).down = s.down := by
  unfold startLine; split <;> [rfl; split] <;> rfl
@[simp] theorem startLine_portA (s : State) : (startLine s).portA = s.portA := by
  unfold startLine; split <;> [rfl; split] <;> rfl
@[simp] theorem startLine_portB (s : State) : (startLine s).portB = s.portB := by
  unfold startLine; split <;> [rfl; split] <;> rfl
@[simp] theorem startLine_recB (s : State) : (startLine s).recB = s.recB := by
  unfold startLine; split <;> [rfl; split] <;> rfl
@[simp] theorem startLine_scene (s : State) : (startLine s).scene = s.scene := by
  unfold startLine; split <;> [rfl; split] <;> rfl
@[simp] theorem startLine_freeCount (s : State) : (startLine s).freeCount = s.freeCount := by
  unfold startLine; split <;> [rfl; split] <;> rfl

@[simp] theorem moveReceived_pending (s : State) : (moveReceived s).pending = s.pending := by
  unfold moveReceived; split <;> rfl
@[simp] theorem moveReceived_held (s : State) : (moveReceived s).held = s.held := by
  unfold moveReceived; split <;> rfl
@[simp] theorem moveReceived_pins (s : State) : (moveReceived s).pins = s.pins := by
  unfold moveReceived; split <;> rfl
@[simp] theorem moveReceived_periods (s : State) : (moveReceived s).periods = s.periods := by
  unfold moveReceived; split <;> rfl
@[simp] theorem moveReceived_live (s : State) : (moveReceived s).live = s.live := by
  unfold moveReceived; split <;> rfl
@[simp] theorem moveReceived_rate (s : State) : (moveReceived s).rate = s.rate := by
  unfold moveReceived; split <;> rfl
@[simp] theorem moveReceived_autoUp (s : State) : (moveReceived s).autoUp = s.autoUp := by
  unfold moveReceived; split <;> rfl
@[simp] theorem moveReceived_audio (s : State) : (moveReceived s).audio = s.audio := by
  unfold moveReceived; split <;> rfl
@[simp] theorem moveReceived_mix (s : State) : (moveReceived s).mix = s.mix := by
  unfold moveReceived; split <;> rfl
@[simp] theorem moveReceived_env (s : State) : (moveReceived s).env = s.env := by
  unfold moveReceived; split <;> rfl
@[simp] theorem moveReceived_walls (s : State) : (moveReceived s).walls = s.walls := by
  unfold moveReceived; split <;> rfl
@[simp] theorem moveReceived_rg (s : State) : (moveReceived s).rg = s.rg := by
  unfold moveReceived; split <;> rfl
@[simp] theorem moveReceived_mute (s : State) : (moveReceived s).mute = s.mute := by
  unfold moveReceived; split <;> rfl
@[simp] theorem moveReceived_gates (s : State) : (moveReceived s).gates = s.gates := by
  unfold moveReceived; split <;> rfl
@[simp] theorem moveReceived_floors (s : State) : (moveReceived s).floors = s.floors := by
  unfold moveReceived; split <;> rfl
@[simp] theorem moveReceived_ahead (s : State) : (moveReceived s).ahead = s.ahead := by
  unfold moveReceived; split <;> rfl
@[simp] theorem moveReceived_links (s : State) : (moveReceived s).links = s.links := by
  unfold moveReceived; split <;> rfl
@[simp] theorem moveReceived_down (s : State) : (moveReceived s).down = s.down := by
  unfold moveReceived; split <;> rfl
@[simp] theorem moveReceived_portA (s : State) : (moveReceived s).portA = s.portA := by
  unfold moveReceived; split <;> rfl
@[simp] theorem moveReceived_portB (s : State) : (moveReceived s).portB = s.portB := by
  unfold moveReceived; split <;> rfl
@[simp] theorem moveReceived_recB (s : State) : (moveReceived s).recB = s.recB := by
  unfold moveReceived; split <;> rfl
@[simp] theorem moveReceived_scene (s : State) : (moveReceived s).scene = s.scene := by
  unfold moveReceived; split <;> rfl
@[simp] theorem moveReceived_freeCount (s : State) : (moveReceived s).freeCount = s.freeCount := by
  unfold moveReceived; split <;> rfl

@[simp] theorem settleLine_pending (s : State) : (settleLine s).pending = s.pending := by
  simp [settleLine]
@[simp] theorem settleLine_held (s : State) : (settleLine s).held = s.held := by
  simp [settleLine]
@[simp] theorem settleLine_pins (s : State) : (settleLine s).pins = s.pins := by
  simp [settleLine]
@[simp] theorem settleLine_periods (s : State) : (settleLine s).periods = s.periods := by
  simp [settleLine]
@[simp] theorem settleLine_live (s : State) : (settleLine s).live = s.live := by
  simp [settleLine]
@[simp] theorem settleLine_rate (s : State) : (settleLine s).rate = s.rate := by
  simp [settleLine]
@[simp] theorem settleLine_autoUp (s : State) : (settleLine s).autoUp = s.autoUp := by
  simp [settleLine]
@[simp] theorem settleLine_audio (s : State) : (settleLine s).audio = s.audio := by
  simp [settleLine]
@[simp] theorem settleLine_mix (s : State) : (settleLine s).mix = s.mix := by
  simp [settleLine]
@[simp] theorem settleLine_env (s : State) : (settleLine s).env = s.env := by
  simp [settleLine]
@[simp] theorem settleLine_walls (s : State) : (settleLine s).walls = s.walls := by
  simp [settleLine]
@[simp] theorem settleLine_rg (s : State) : (settleLine s).rg = s.rg := by
  simp [settleLine]
@[simp] theorem settleLine_mute (s : State) : (settleLine s).mute = s.mute := by
  simp [settleLine]
@[simp] theorem settleLine_gates (s : State) : (settleLine s).gates = s.gates := by
  simp [settleLine]
@[simp] theorem settleLine_floors (s : State) : (settleLine s).floors = s.floors := by
  simp [settleLine]
@[simp] theorem settleLine_ahead (s : State) : (settleLine s).ahead = s.ahead := by
  simp [settleLine]
@[simp] theorem settleLine_links (s : State) : (settleLine s).links = s.links := by
  simp [settleLine]
@[simp] theorem settleLine_down (s : State) : (settleLine s).down = s.down := by
  simp [settleLine]
@[simp] theorem settleLine_portA (s : State) : (settleLine s).portA = s.portA := by
  simp [settleLine]
@[simp] theorem settleLine_portB (s : State) : (settleLine s).portB = s.portB := by
  simp [settleLine]
@[simp] theorem settleLine_recB (s : State) : (settleLine s).recB = s.recB := by
  simp [settleLine]
@[simp] theorem settleLine_scene (s : State) : (settleLine s).scene = s.scene := by
  simp [settleLine]
@[simp] theorem settleLine_freeCount (s : State) : (settleLine s).freeCount = s.freeCount := by
  simp [settleLine]

end Sys2Proof.Machine
end

