-- ==== Sys2Proof/Laws/Ops.lean ====
section
/-! SUPPORT. What each shared operation can do, said once: tables, notices, envelope targets, hold sets, floor records,
links, requests and the regroup machine. -/

namespace Sys2Proof
variable {α : Type} {n : Nat}

theorem tab_get (f : Fin n → α) (i : Fin n) : (tab f)[i] = f i := by simp

/-- A table with one entry replaced, read at a number. -/
@[simp] theorem put_val (v : Vector α n) (i : Fin n) (x : α) (k : Nat) (hk : k < n) :
    (put v i x)[k] = if i.val = k then x else v[k] := by simp [put, Vector.getElem_set]

theorem put_get (v : Vector α n) (i j : Fin n) (x : α) : (put v i x)[j] = if j = i then x else v[j] := by
  simp [Fin.ext_iff, eq_comm]

theorem put_same (v : Vector α n) (i : Fin n) (x : α) : (put v i x)[i] = x := by simp

theorem put_other (v : Vector α n) (i j : Fin n) (x : α) (h : j ≠ i) : (put v i x)[j] = v[j] := by
  rw [put_get, if_neg h]

end Sys2Proof

namespace Sys2Proof.Machine
open Host

/-! ## Commands -/

theorem running_held (f : State → State) (s : State) (h : s.held = true) : running f s = .next s := by simp [running, h]

theorem running_next (f : State → State) (s : State) (h : s.held = false) : running f s = .next (settleLine (f s)) := by
  simp [running, h]

/-- Every command is answered with a next state. -/
theorem exec_next (c : Instr) (s : State) : ∃ t, exec c s = .next t := by
  have h : ∀ f : State → State, ∃ t, running f s = .next t := fun f => by unfold running; split <;> exact ⟨_, rfl⟩
  cases c <;> first | exact h _ | exact ⟨_, rfl⟩

/-- A request other than CLEAR, taken as a command, is the request served (R144). -/
theorem exec_request (c : Instr) (p : Port) (r : Request) (s : State) (h : portRequest c = some (p, r)) (hc : r ≠ .clear) :
    exec c s = running (request p r) s := by
  cases c <;> simp only [portRequest, Option.some.injEq, Prod.mk.injEq, reduceCtorEq] at h <;>
    (obtain ⟨rfl, rfl⟩ := h) <;> first | rfl | exact absurd rfl hc

/-- A request whose class the profile does not allow is answered ACCESS (R144). -/
theorem request_denied (p : Port) (r : Request) (s : State) (h : allows (s.port p).profile r.reqClass = false) :
    request p r s = respond p (requestCode r.name) .access (s.port p).cursor.data (received p s) := by
  simp [request, serve, h, answerData, State.refuse, Status.taken]

/-- A request whose class is allowed is answered as its body says (R144). -/
theorem request_allowed (p : Port) (r : Request) (s : State) (h : allows (s.port p).profile r.reqClass = true) :
    request p r s =
      let a := r.body p (s.port p).keep (received p s)
      respond p (requestCode r.name) a.status (answerData (s.port p).cursor a) a.state := by
  simp [request, serve, h]

/-! ## Notices (R159) -/

section
variable (r : PortRec) (ns : List Notice) (q : Notice)

@[simp] theorem portPost_profile : (r.post q).profile = r.profile := by unfold PortRec.post; split <;> rfl
@[simp] theorem portPost_cursor : (r.post q).cursor = r.cursor := by unfold PortRec.post; split <;> rfl
@[simp] theorem portPost_batch : (r.post q).batch = r.batch := by unfold PortRec.post; split <;> rfl
@[simp] theorem portPost_committed : (r.post q).committed = r.committed := by unfold PortRec.post; split <;> rfl
@[simp] theorem portPost_keep : (r.post q).keep = r.keep := by unfold PortRec.post; split <;> rfl

@[simp] theorem postAll_profile : (r.postAll ns).profile = r.profile := by
  induction ns generalizing r with
  | nil => rfl
  | cons n ns ih => simpa [PortRec.postAll] using ih (r.post n)
@[simp] theorem postAll_cursor : (r.postAll ns).cursor = r.cursor := by
  induction ns generalizing r with
  | nil => rfl
  | cons n ns ih => simpa [PortRec.postAll] using ih (r.post n)
@[simp] theorem postAll_batch : (r.postAll ns).batch = r.batch := by
  induction ns generalizing r with
  | nil => rfl
  | cons n ns ih => simpa [PortRec.postAll] using ih (r.post n)
@[simp] theorem postAll_committed : (r.postAll ns).committed = r.committed := by
  induction ns generalizing r with
  | nil => rfl
  | cons n ns ih => simpa [PortRec.postAll] using ih (r.post n)
@[simp] theorem postAll_keep : (r.postAll ns).keep = r.keep := by
  induction ns generalizing r with
  | nil => rfl
  | cons n ns ih => simpa [PortRec.postAll] using ih (r.post n)

/-- One notice keeps a queue within its bound. -/
theorem portPost_bounded (h : PortBounded r) : PortBounded (r.post q) := by
  refine ⟨?_, fun ob hb => h.2 ob (by simpa using hb)⟩
  unfold PortRec.post
  split
  · simp; omega
  · exact h.1

/-- Notices keep a queue within its bound. -/
theorem postAll_bounded (h : PortBounded r) : PortBounded (r.postAll ns) := by
  induction ns generalizing r with
  | nil => exact h
  | cons n ns ih => exact ih (r.post n) (portPost_bounded r n h)

/-- What notices leave in a queue: those that find room, in order, and the overflow flag where one did not. -/
theorem postAll_spec :
    (r.postAll ns).queue = r.queue ++ ns.take (Config.queueCap - r.queue.length)
    ∧ (r.postAll ns).overflow = (r.overflow || decide (Config.queueCap - r.queue.length < ns.length)) := by
  induction ns generalizing r with
  | nil => simp [PortRec.postAll]
  | cons n ns ih =>
    have h := ih (r.post n)
    simp only [PortRec.postAll, List.foldl_cons] at h ⊢
    rw [h.1, h.2]
    unfold PortRec.post
    split
    · rename_i hl
      obtain ⟨k, hk⟩ : ∃ k, Config.queueCap - r.queue.length = k + 1 := ⟨Config.queueCap - r.queue.length - 1, by omega⟩
      have hk' : Config.queueCap - (r.queue ++ [n]).length = k := by simp; omega
      refine ⟨?_, ?_⟩
      · simp only [hk, hk', List.take_succ_cons, List.append_assoc, List.cons_append, List.nil_append]
      · simp only [hk, hk', List.length_cons, Nat.add_lt_add_iff_right]
    · rename_i hl
      have hz : Config.queueCap - r.queue.length = 0 := by omega
      simp [hz]

end

theorem post_bounded (s : State) (ns : List Notice) (h : QueuesBounded s) : QueuesBounded (s.post ns) :=
  ⟨postAll_bounded _ ns h.1, postAll_bounded _ ns h.2⟩

@[simp] theorem post_portA (s : State) (ns : List Notice) : (s.post ns).portA = s.portA.postAll ns := rfl
@[simp] theorem post_portB (s : State) (ns : List Notice) : (s.post ns).portB = s.portB.postAll ns := rfl
theorem post_port (s : State) (ns : List Notice) (p : Port) : (s.post ns).port p = (s.port p).postAll ns := by cases p <;> rfl

/-! ## Hold sets and envelope targets (R57 to R59, R70) -/

/-- What a hold set depends on. -/
theorem holdSet_congr {s t : State} (hm : t.mute = s.mute) (hl : t.live = s.live) (hk : t.links = s.links) (i : Fin 26) :
    t.holdSet i = s.holdSet i := by
  simp [State.holdSet, State.groupHeld, State.linkHeld, hm, hl, hk]

/-- What an envelope's target depends on. -/
theorem targetOf_congr {s t : State} (hm : t.mute = s.mute) (hl : t.live = s.live) (hk : t.links = s.links)
    (hg : t.gates = s.gates) (hf : t.floors = s.floors) (hr : t.rg.map = s.rg.map) (i : Fin 26) :
    t.targetOf i = s.targetOf i := by
  simp [State.targetOf, State.heldSource, holdSet_congr hm hl hk, State.floorLevel, State.mode, State.micPart, State.partOf,
    State.lead, State.floorOf, State.isChair, hl, hg, hf, hr]

/-- Targets stay derived where nothing that they depend on moved. -/
theorem targetsDerived_congr {s t : State} (hm : t.mute = s.mute) (hl : t.live = s.live) (hk : t.links = s.links)
    (hg : t.gates = s.gates) (hf : t.floors = s.floors) (hr : t.rg.map = s.rg.map) (he : t.env = s.env)
    (h : TargetsDerived s) : TargetsDerived t := fun i => by
  rw [he, targetOf_congr hm hl hk hg hf hr]; exact h i

/-- After any event that derives targets again, every target is the derived one (R59). -/
theorem retarget_derived (before s : State) : TargetsDerived (retarget before s) := fun i => by
  rw [targetOf_congr (s := s) (t := retarget before s) (by simp) (by simp) (by simp) (by simp) (by simp) (by simp)]
  simp only [retarget, tab_get, retargetOne]
  split
  · rename_i h; exact h.symm
  · rfl

/-- An envelope's value does not move when its target does (R61). -/
theorem retarget_value (before s : State) (i : Fin 26) : ((retarget before s).env[i]).value = (s.env[i]).value := by
  simp only [retarget, tab_get, retargetOne]; split <;> rfl

theorem settleLine_derived (s : State) (h : TargetsDerived s) : TargetsDerived (settleLine s) :=
  targetsDerived_congr (by simp) (by simp) (by simp) (by simp) (by simp) (by simp) (by simp) h

theorem respond_derived (p : Port) (code : Byte) (st : Status) (data : List Nat) (s : State) (h : TargetsDerived s) :
    TargetsDerived (respond p code st data s) :=
  targetsDerived_congr (by simp) (by simp) (by simp) (by simp) (by simp) (by simp) (by simp) h

theorem received_derived (p : Port) (s : State) (h : TargetsDerived s) : TargetsDerived (received p s) :=
  targetsDerived_congr (by simp) (by simp) (by simp) (by simp) (by simp) (by simp) (by simp) h

theorem post_derived (s : State) (ns : List Notice) (h : TargetsDerived s) : TargetsDerived (s.post ns) :=
  targetsDerived_congr (by simp) (by simp) (by simp) (by simp) (by simp) (by simp) (by simp) h

/-! ## Events of the mute unit (R71, R85, R99) -/

/-- A gate closed by a new hold, or the gate as it was (R99). -/
theorem closeHeld_gate (before s : State) (m : Fin 16) :
    (closeHeld before s).gates[m] =
      if before.heldSource (micSource m) = false ∧ s.heldSource (micSource m) = true ∧ (s.gates[m]).isOpen = true
      then shutGate else s.gates[m] := by
  simp only [closeHeld, tab_get, shutGate, Bool.and_eq_true, Bool.not_eq_true', and_assoc]

/-- Clearing UNMUTE_ASK flags leaves every hold. -/
theorem clearAsks_recs (test : Fin 16 → Bool) (cause : AskCause) (s : State) (i : Fin 26) :
    ((clearAsks test cause s).mute.recs[i]).priv = (s.mute.recs[i]).priv
    ∧ ((clearAsks test cause s).mute.recs[i]).chair = (s.mute.recs[i]).chair
    ∧ ((clearAsks test cause s).mute.recs[i]).far = (s.mute.recs[i]).far := by
  simp only [clearAsks, State.withRecs, post_mute, tab_get]
  split
  · split <;> exact ⟨rfl, rfl, rfl⟩
  · exact ⟨rfl, rfl, rfl⟩

theorem clearAsks_groupMuted (test : Fin 16 → Bool) (cause : AskCause) (s : State) :
    (clearAsks test cause s).mute.groupMuted = s.mute.groupMuted := by simp [clearAsks, State.withRecs]

theorem clearAsks_quiet (test : Fin 16 → Bool) (cause : AskCause) (s : State) :
    (clearAsks test cause s).mute.quiet = s.mute.quiet := by simp [clearAsks, State.withRecs]

/-- Clearing UNMUTE_ASK flags leaves every hold set. -/
theorem clearAsks_holdSet (test : Fin 16 → Bool) (cause : AskCause) (s : State) (i : Fin 26) :
    (clearAsks test cause s).holdSet i = s.holdSet i := by
  have h := clearAsks_recs test cause s i
  simp only [State.holdSet, State.groupHeld, State.linkHeld, h.1, h.2.1, h.2.2, clearAsks_groupMuted, clearAsks_live,
    clearAsks_links]

/-- What an event of the mute unit leaves: derived targets, the stored holds, group and quiet flags of the event, and gates
that are closed by it or as they were. -/
theorem settleHolds_spec (before s : State) :
    TargetsDerived (settleHolds before s)
    ∧ (∀ i : Fin 26, ((settleHolds before s).mute.recs[i]).priv = (s.mute.recs[i]).priv
        ∧ ((settleHolds before s).mute.recs[i]).chair = (s.mute.recs[i]).chair
        ∧ ((settleHolds before s).mute.recs[i]).far = (s.mute.recs[i]).far)
    ∧ (settleHolds before s).mute.groupMuted = s.mute.groupMuted ∧ (settleHolds before s).mute.quiet = s.mute.quiet
    ∧ (∀ i : Fin 26, (settleHolds before s).holdSet i = s.holdSet i)
    ∧ ∀ m : Fin 16, (settleHolds before s).gates[m] =
        if before.heldSource (micSource m) = false ∧ s.heldSource (micSource m) = true ∧ (s.gates[m]).isOpen = true
        then shutGate else s.gates[m] := by
  refine ⟨retarget_derived _ _, fun i => ?_, ?_, ?_, fun i => ?_, fun m => ?_⟩
  · simpa [settleHolds, followHolds] using clearAsks_recs (askEnds before s) .cleared ((closeHeld before s).post _) i
  · simp [settleHolds, followHolds, clearAsks_groupMuted]
  · simp [settleHolds, followHolds, clearAsks_quiet]
  · rw [settleHolds, holdSet_congr (s := followHolds before s) (by simp) (by simp) (by simp), followHolds, clearAsks_holdSet,
      holdSet_congr (s := s) (by simp) (by simp) (by simp)]
  · simpa [settleHolds, followHolds] using closeHeld_gate before s m

/-! ## Floor records, links, the regroup machine -/

/-- What a change of a floor record leaves (R59, R105). -/
theorem setFloor_spec (p : Fin 4) (c : FloorChange) (s : State) :
    TargetsDerived (setFloor p c s) ∧ (setFloor p c s).floors = put s.floors p c.1 := by
  exact ⟨retarget_derived _ _, by simp [setFloor]⟩

/-- What a link's change of state leaves in the links, the stored holds and the targets (R140). -/
theorem moveLink_links (i : Fin 16) (l : LinkRec) (cause : LinkCause) (code : Option Byte) (f : MuteRec → MuteRec)
    (clears removes : Bool) (s : State) : (moveLink i l cause code f clears removes s).links = put s.links i l := by
  cases clears <;> cases removes <;> simp [moveLink, afterLinkChange, State.setLink]

theorem moveLink_derived (i : Fin 16) (l : LinkRec) (cause : LinkCause) (code : Option Byte) (f : MuteRec → MuteRec)
    (clears removes : Bool) (s : State) : TargetsDerived (moveLink i l cause code f clears removes s) := by
  cases removes
  · simp only [moveLink, afterLinkChange]; exact retarget_derived _ _
  · simp only [moveLink, afterLinkChange, if_true]; exact (setFloor_spec _ _ _).1

/-- The states that a regroup cause can leave (R27, R28). -/
theorem regroupCause_state (timed : Bool) (s : State) :
    ((regroupCause timed s).rg.state = .fadingOut ∧ (regroupCause timed s).rg.changes = s.rg.changes)
    ∨ ((regroupCause timed s).rg.state = .fadingIn ∧ s.rg.state = .fadingOut ∧ s.rg.changes = []
        ∧ (regroupCause timed s).rg.changes = []) := by
  unfold regroupCause
  split
  · exact .inl ⟨rfl, rfl⟩
  · rename_i h
    dsimp only
    split
    · rename_i hc
      have he : s.rg.changes = [] := by
        simp only [Regroup.cancels, derivePending, Bool.and_eq_true, List.isEmpty_iff] at hc
        exact hc.2
      exact .inr ⟨rfl, h, he, he⟩
    · exact .inl ⟨h, rfl⟩
  · exact .inl ⟨rfl, rfl⟩

theorem regroupCause_map (timed : Bool) (s : State) : (regroupCause timed s).rg.map = s.rg.map := by
  unfold regroupCause
  split
  · rfl
  · dsimp only; split <;> rfl
  · rfl

/-! ## A link's events at a boundary (R127 to R137) -/

/-- What a link's events at a boundary may touch: the record of that link, never another's, nor the audio, the tables and the map. -/
def OnlyLink (i : Fin 16) (s t : State) : Prop :=
  (∀ j : Fin 16, j ≠ i → t.links[j] = s.links[j]) ∧ t.audio = s.audio ∧ t.live = s.live ∧ t.rg = s.rg

theorem OnlyLink.trans {i : Fin 16} {s t u : State} (h : OnlyLink i s t) (k : OnlyLink i t u) : OnlyLink i s u :=
  ⟨fun j hj => (k.1 j hj).trans (h.1 j hj), k.2.1.trans h.2.1, k.2.2.1.trans h.2.2.1, k.2.2.2.trans h.2.2.2⟩

theorem setLink_only (i : Fin 16) (l : LinkRec) (s : State) : OnlyLink i s (s.setLink i l) :=
  ⟨fun _ hj => put_other _ _ _ _ hj, rfl, rfl, rfl⟩

theorem moveLink_only (i : Fin 16) (l : LinkRec) (cause : LinkCause) (code : Option Byte) (f : MuteRec → MuteRec)
    (clears removes : Bool) (s : State) : OnlyLink i s (moveLink i l cause code f clears removes s) := by
  refine ⟨fun j hj => by rw [moveLink_links]; exact put_other _ _ _ _ hj, ?_, ?_, ?_⟩ <;>
    cases clears <;> cases removes <;> simp [moveLink, afterLinkChange, State.setLink]

theorem OnlyLink.refl (i : Fin 16) (s : State) : OnlyLink i s s := ⟨fun _ _ => rfl, rfl, rfl, rfl⟩

theorem enterFault_only (cause : LinkCause) (code : Option Byte) (i : Fin 16) (s : State) :
    OnlyLink i s (enterFault cause code i s) := moveLink_only ..

theorem refuseDoze_only (cause : LinkCause) (i : Fin 16) (s : State) : OnlyLink i s (refuseDoze cause i s) :=
  (setLink_only i { (s.links[i]).noHandshake with dozeRefused := true } s).trans
    ⟨fun _ _ => by simp [refuseDoze], by simp [refuseDoze], by simp [refuseDoze], by simp [refuseDoze]⟩

theorem autoUpBoundary_only (i : Fin 16) (s : State) : OnlyLink i s (autoUpBoundary i s) := by
  simp only [autoUpBoundary]
  split_ifs
  · exact setLink_only ..
  · exact moveLink_only ..
  · exact setLink_only ..
  · exact .refl ..

theorem judgeFrame_only (i : Fin 16) (s : State) : OnlyLink i s (judgeFrame i s) := by
  simp only [judgeFrame]
  split_ifs
  · exact .refl ..
  · exact setLink_only ..
  · exact setLink_only ..
  · exact (setLink_only ..).trans (moveLink_only ..)
  · exact setLink_only ..
  · exact .refl ..

theorem failAttempt_only (i : Fin 16) (s : State) : OnlyLink i s (failAttempt i s) := by
  simp only [failAttempt]
  split_ifs
  · exact (setLink_only ..).trans (enterFault_only ..)
  · exact setLink_only ..

theorem OnlyLink.ite {i : Fin 16} {s t u : State} {c : Prop} [Decidable c] (h : OnlyLink i s t) (k : OnlyLink i s u) :
    OnlyLink i s (if c then t else u) := by split <;> assumption

theorem linkTimeouts_only (i : Fin 16) (s : State) : OnlyLink i s (linkTimeouts i s) := by
  simp only [linkTimeouts]
  have h1 := OnlyLink.ite (c := (s.links[i]).handshake = .doze ∧ (s.links[i]).hsTimer = Config.handshakeTop)
    (refuseDoze_only .noAck i s) (.refl i s)
  have h2 := fun u => OnlyLink.ite (c := (u.links[i]).handshake = .detach ∧ (u.links[i]).hsTimer = Config.handshakeTop)
    (enterFault_only .noAck none i u) (.refl i u)
  have h3 := fun u => OnlyLink.ite (c := (u.links[i]).state.inTraining = true ∧ (u.links[i]).attemptTimer = Config.attemptTop)
    (failAttempt_only i u) (.refl i u)
  exact (h1.trans (h2 _)).trans (h3 _)

theorem residencyBoundary_only (b : LinkRec) (i : Fin 16) (s : State) : OnlyLink i s (residencyBoundary b i s) := by
  simp only [residencyBoundary]
  split_ifs
  · exact moveLink_only ..
  · exact .refl ..

/-- What `linkBoundary` can do beside its own link's record (R127 to R137). -/
theorem linkBoundary_only (i : Fin 16) (s : State) : OnlyLink i s (linkBoundary s i) := by
  rw [linkBoundary]
  have a := setLink_only i (s.links[i]).raiseTimers s
  generalize s.setLink i (s.links[i]).raiseTimers = u at a ⊢
  have b := a.trans (autoUpBoundary_only i u)
  generalize autoUpBoundary i u = v at b ⊢
  have c := b.trans (judgeFrame_only i v)
  generalize judgeFrame i v = w at c ⊢
  exact (c.trans (linkTimeouts_only i w)).trans (residencyBoundary_only _ i _)

/-! ## Envelopes (R55) -/

/-- One step of a ramp does not pass its target, and moves by the step or reaches it. -/
theorem stepToward_spec (v t k : Nat) :
    (v ≤ t → v ≤ stepToward v t k ∧ stepToward v t k ≤ t ∧ (stepToward v t k = v + k ∨ stepToward v t k = t))
    ∧ (t ≤ v → t ≤ stepToward v t k ∧ stepToward v t k ≤ v ∧ (stepToward v t k + k = v ∨ stepToward v t k = t)) := by
  unfold stepToward
  split <;> constructor <;> intro h <;> omega

/-! ## Work taken ahead of its boundary, and the form of a status entry -/

/-- What GATE_HOLD_EXPIRY can do: nothing, or the whole evaluation of the slot with its count handed over (R92, R98). -/
theorem gateHoldExpiry_spec (m : Fin 16) (s : State) :
    gateHoldExpiry m s = s
    ∨ (s.evaluationDue (s.micPart m) = true ∧ expires (s.nextView (s.micPart m)) s.gates m = true
        ∧ gateHoldExpiry m s = handCount (s.micPart m) (evaluateOn (s.nextView (s.micPart m)) s)) := by
  simp only [gateHoldExpiry]
  split
  · rename_i h
    exact .inr ⟨(Bool.and_eq_true _ _ ▸ h).1, (Bool.and_eq_true _ _ ▸ h).2, rfl⟩
  · exact .inl rfl

/-- What a timed row of the floor unit can do: nothing, or the slot's whole piece of work, marked taken (R115). -/
theorem pieceAhead_spec (p : Fin 4) (due : Bool) (s : State) :
    pieceAhead p due s = s
    ∨ (due = true ∧ s.slotIn .chaired p = true ∧ s.ahead.floors[p] = false
        ∧ pieceAhead p due s = (setFloor p (floorPiece p (s.lead p) s.floors[p]) s).withWorked (put s.ahead.floors p true)) := by
  simp only [pieceAhead, floorWork]
  split
  · rename_i h
    simp only [Bool.and_eq_true, Bool.not_eq_true'] at h
    exact .inr ⟨h.1.1, h.1.2, h.2, by rw [if_pos (by simp [h])]⟩
  · exact .inl rfl

/-- When the switch test of a boundary makes a switch (R28, R32). -/
theorem switchDue_iff (g : Regroup) : (g.switchDue && !g.tested) = true ↔ SwitchStands g := by
  simp only [Regroup.switchDue, SwitchStands, Bool.and_eq_true, decide_eq_true_eq, List.all_eq_true, List.mem_finRange,
    Bool.or_eq_true, Bool.not_eq_true', forall_const]
  constructor
  · rintro ⟨⟨h, hr⟩, ht⟩
    exact ⟨h, ht, fun b hb => (hr b).resolve_left (by simp [hb])⟩
  · rintro ⟨h, ht, hr⟩
    exact ⟨⟨h, fun b => or_iff_not_imp_left.2 fun hb => hr b (by simpa using hb)⟩, ht⟩

/-- When the completion test of a boundary ends the regroup (R31). -/
theorem endDue_iff (g : Regroup) : (g.risen && g.laterBoundary) = true ↔ EndStands g := by
  simp only [Regroup.risen, Regroup.laterBoundary, EndStands, Config.unity, Bool.and_eq_true, decide_eq_true_eq, List.all_eq_true,
    List.mem_finRange, Bool.or_eq_true, Bool.not_eq_true', forall_const, Bool.and_eq_false_iff]
  constructor
  · rintro ⟨⟨h, hr⟩, hf⟩
    exact ⟨h, hf, fun b hb => of_decide_eq_true ((hr b).resolve_left (by simp [hb]))⟩
  · rintro ⟨h, hf, hr⟩
    exact ⟨⟨h, fun b => or_iff_not_imp_left.2 fun hb => decide_eq_true (hr b (by simpa using hb))⟩, hf⟩

/-- A status entry takes exactly as many operands as a SHOW returns fields, and answers READ_ONLY (R148). -/
theorem readStatus_spec (count : Nat) (ops : List Nat) (r : EnterValue × Bool) :
    readStatus count ops = some r ↔ ops.length = count ∧ r = (.readOnly, false) := by
  unfold readStatus
  split <;> simp_all [eq_comm]

end Sys2Proof.Machine
end

