-- ==== Sys2Proof/WellFormed.lean ====
section
/-! DEFINITION. Which commands can reach the part: operands that fit their framing (9.6, 9.7) and whole upstream frames
(9.11). Operands out of a request's own range are well formed: the part answers them BAD_OPERAND (R144). -/

namespace Sys2Proof

/-- An operand is a hexadecimal number of 1 to 8 digits, or four bytes (9.6, R157). -/
def Operand.wf (n : Nat) : Bool := decide (n < 4294967296)

/-- The number a target carries fits an operand. -/
def Target.wf : Target → Bool
  | .source n => Operand.wf n
  | .partition n => Operand.wf n
  | .allMics => true

/-- A command fits its framing. -/
def Instr.wf : Instr → Bool
  | .upstreamFrameArrival _ bytes => decide (bytes.length = 150)
  | .portBReadTransaction _ count => decide (0 < count)
  | .select _ t v i => Operand.wf t && Operand.wf v && Operand.wf i
  | .enter _ ops => ops.all Operand.wf
  | .mask _ n => Operand.wf n
  | .wall _ n _ => Operand.wf n
  | .hold _ t => t.wf
  | .free _ t => t.wf
  | .dismiss _ t => t.wf
  | .gmute _ n => Operand.wf n
  | .gunmute _ n => Operand.wf n
  | .quiet _ n _ => Operand.wf n
  | .ask _ n => Operand.wf n
  | .withdraw _ n => Operand.wf n
  | .release _ n => Operand.wf n
  | .grant _ n => Operand.wf n
  | .grantNext _ n => Operand.wf n
  | .revoke _ n => Operand.wf n
  | .clearQ _ n => Operand.wf n
  | .linkNop _ n => Operand.wf n
  | .linkUp _ n => Operand.wf n
  | .linkDoze _ n => Operand.wf n
  | .linkDetach _ n => Operand.wf n
  | .linkRetrain _ n => Operand.wf n
  | .load _ p b => Operand.wf p && Operand.wf b
  | .capture _ b => Operand.wf b
  | .store _ b p => Operand.wf b && Operand.wf p
  | .amend _ b p => Operand.wf b && Operand.wf p
  | .erase _ p => Operand.wf p
  | .apply _ b => Operand.wf b
  | .startUp _ _ _ => true
  | .resetAsserted => true
  | .samplePeriod _ _ => true
  | .frameBoundary _ _ => true
  | .badFrameRun _ => true
  | .wallSenseChange _ => true
  | .gateHoldExpiry _ => true
  | .queueExpiry _ => true
  | .speechWarn _ => true
  | .speechExpiry _ => true
  | .attemptFail _ => true
  | .dozeHandshakeTimeout _ => true
  | .detachHandshakeTimeout _ => true
  | .residencyMet _ => true
  | .autoUp _ => true
  | .batchApplication _ => true
  | .batchIdleTimeout _ => true
  | .regroupSwitch => true
  | .regroupDone => true
  | .hello _ _ _ _ => true
  | .buttonMute _ _ => true
  | .buttonTalk _ _ => true
  | .buttonAll _ _ => true
  | .dozeAck _ => true
  | .dozeNak _ => true
  | .detachAck _ => true
  | .faultReport _ _ => true
  | .wake _ => true
  | .portACharacterReceived _ => true
  | .portALineEnd => true
  | .portALineSent => true
  | .portBWriteTransaction _ _ => true
  | .showEntry _ => true
  | .beginBatch _ => true
  | .commit _ => true
  | .abandon _ => true
  | .notices _ => true
  | .flags _ _ _ => true
  | .lower _ _ => true
  | .freeAll _ => true
  | .loadComplete _ => true
  | .captureCopy _ => true
  | .storeComplete _ => true
  | .amendComplete _ _ => true
  | .eraseComplete => true
  | .clear _ => true
  | .eraseStage => true

end Sys2Proof
end

