-- ==== Sys2Proof/Tests/Slice0.lean ====
section
/-! SUPPORT. Small tests: ill-formed commands, one step of each command against the manual's own values, and a witness for
the hypotheses of each statement. -/

namespace Sys2Proof.Tests
open Sys2Proof Sys2Proof.Machine Host
set_option Elab.async false

/-! ## States and one step -/

/-- The state after one command. -/
def after (c : Instr) (s : State) : State :=
  match exec c s with
  | .next t => t
  | _ => s

/-- Reset, with both ports FULL, no notice, and every link ACTIVE. -/
def room : State :=
  { State.reset with
    portA := { State.reset.portA with queue := [] }
    portB := { State.reset.portB with queue := [], profile := .full }
    links := tab fun i => { State.reset.links[i] with state := .active, wasActive := true, autoPending := false } }

/-- The room with the section fields of the worked sequence 7.10 in S0, M4 its chair microphone. -/
def chaired : State :=
  { room with live := { room.live with
      sec := put room.live.sec 0 { factorySection with
        mode := .chaired, speakerLimit := 2, autoGrant := true, overflow := .bump, lifetime := 30, speechLimit := 90
        warnLead := 15, expiry := .revoke }
      src := put room.live.src 4 { trim := 32768, sect := 0, chair := true } } }

/-- A state with link 0's record changed. -/
def withLink (f : LinkRec → LinkRec) (s : State) : State := s.setLink 0 (f s.links[0])

/-- A state with slot 0's floor record. -/
def withFloor (queue : List QueueEntry) (grants : List GrantEntry) (s : State) : State :=
  { s with floors := put s.floors 0 { queue := queue, grants := grants } }

/-- A grant with an elapsed count. -/
def grantAt (m : Fin 16) (n : Nat) (warned : Bool) : GrantEntry := { mic := m, elapsed := n, warned := warned }

/-- A state whose slot 0 was evaluated ahead of the boundary, with its count. -/
def evaluated (n : Nat) (s : State) : State := { s with ahead := { s.ahead with counts := put s.ahead.counts 0 (some n) } }

/-- A state with the cursor of Port A placed. -/
def at' (t : TableId) (v : View) (k : Nat) (s : State) : State :=
  { s with portA := { s.portA with cursor := { table := t, view := v, index := k } } }

/-- A state with Port A's open batch. -/
def opened (es : List Entry) (s : State) : State := { s with portA := { s.portA with batch := some { entries := es, idle := 7 } } }

/-- A state with buffer 0 replaced. -/
def withBuf (x : Buffer) (s : State) : State := s.setBuf 0 x

/-- Buffer 0 holding a captured scene. -/
def captured : Buffer := { emptyBuffer with status := .captured }

/-- A page whose check matches its contents. -/
def goodPage (c : Contents) : Page := { mark := true, flag := 1, label := c.label, count := 41, check := c.check, contents := c }

/-- Contents of a page with a power-on record that gives Port B CONFIG. -/
def contents : Contents :=
  { label := noLabel, image := factoryImage, powerOn := some { factoryPowerOn with profileB := .config } }

/-- A state with page 0 valid. -/
def withPage (s : State) : State := s.setPage 0 (goodPage contents)

/-- A job of the store engine on page 0 and buffer 0. -/
def job (op : EngineOp) (erased : Bool) : Job :=
  { op := op, page := 0, buffer := if op = .erase then none else some 0, erased := erased, kept := 41, powerOn := none }

/-- The room with a job in flight, buffer 0 locked by it. -/
def working (op : EngineOp) (erased : Bool) : State :=
  (withBuf { captured with status := .modified, lock := .engine } (withPage room)).setJob (some (job op erased))

/-- The room in FADING_OUT after wall W0 was overridden CLOSED. -/
def fading : State := after (.wall .a 0 .closed) room

/-- The same with the apply mark, the image of buffer 0 still to be placed. -/
def applying : State :=
  after (.apply .a 0) (withBuf { captured with image := { factoryImage with wall := put factoryImage.wall 0 .closed } } room)

/-- The room with a snapshot and every ramp up. -/
def sounding : State :=
  let s := after (.frameBoundary (same 3 .high) false) room
  { s with rg := { s.rg with r := same 26 32768 }, env := tab fun i => { s.env[i] with value := 32768, target := 32768 } }

/-- A text as characters. -/
def text (cs : List Char) : List Byte := ascii cs

/-- A whole line at the front of the receive buffer's carriage return. -/
def withText (cs : List Char) (s : State) : State :=
  { s with lineA := { s.lineA with rx := [0x0D], buf := ascii cs } }

/-! ## Ill-formed commands -/

theorem test_wf_refuses_frame : Instr.wf (.upstreamFrameArrival 0 [1, 2, 3]) = false := by decide +kernel
theorem test_wf_refuses_empty_read : Instr.wf (.portBReadTransaction 0x68 0) = false := by decide +kernel
theorem test_wf_refuses_select :
    [Instr.select .a 4294967296 0 0, .select .a 0 4294967296 0, .select .a 0 0 4294967296].any Instr.wf = false := by decide +kernel
theorem test_wf_refuses_enter : Instr.wf (.enter .a [0, 4294967296]) = false := by decide +kernel
theorem test_wf_refuses_targets :
    [Instr.hold .a (.source 4294967296), .free .b (.partition 4294967296), .dismiss .a (.source 4294967296)].any Instr.wf = false := by
  decide +kernel
theorem test_wf_refuses_conference :
    [Instr.gmute .a 4294967296, .gunmute .a 4294967296, .quiet .a 4294967296 true, .ask .a 4294967296, .withdraw .a 4294967296,
      .release .a 4294967296, .grant .a 4294967296, .grantNext .a 4294967296, .revoke .a 4294967296,
      .clearQ .a 4294967296].any Instr.wf = false := by decide +kernel
theorem test_wf_refuses_edits : [Instr.mask .a 4294967296, .wall .a 4294967296 .follow].any Instr.wf = false := by decide +kernel
theorem test_wf_refuses_links :
    [Instr.linkNop .a 4294967296, .linkUp .a 4294967296, .linkDoze .a 4294967296, .linkDetach .a 4294967296,
      .linkRetrain .a 4294967296].any Instr.wf = false := by decide +kernel
theorem test_wf_refuses_scenes :
    [Instr.load .a 4294967296 0, .load .a 0 4294967296, .capture .a 4294967296, .store .a 4294967296 0, .store .a 0 4294967296,
      .amend .a 4294967296 0, .amend .a 0 4294967296, .erase .a 4294967296, .apply .a 4294967296].any Instr.wf = false := by
  decide +kernel
/-- An operand out of its request's own range still fits its framing. -/
theorem test_wf_accepts : [Instr.hold .a (.source 26), .enter .b [65536], .startUp .pin (same 3 .low) 7].all Instr.wf = true := by
  decide +kernel

/-- The table gives no row bits, so no word spells a command. -/
theorem test_no_word_spells : decodeTableWord 32 0 = none := rfl

/-! ## Start-up, reset, samples and boundaries -/

/-- R170: START carries its cause and defaults used 1 when page 0 is invalid. -/
theorem test_startUp : (after (.startUp .pin (same 3 .low) 0) room).portA.queue = [.start .pin true] := by decide +kernel
/-- R20, R170: every wall low is CLOSED: four partitions. -/
theorem test_startUp_map : (after (.startUp .pin (same 3 .low) 0) room).rg.map = #v[0, 1, 2, 3] := by decide +kernel
theorem test_resetAsserted : (after .resetAsserted room).attention .a = false ∧ (after .resetAsserted room).held = true := by
  decide +kernel
/-- R68: in sample period 0 of the first computation frame an F envelope takes one step of code 0, 342. -/
theorem test_samplePeriod :
    ((after (.samplePeriod (same 8 0) (same 2 0)) (after (.frameBoundary (same 3 .high) false) room)).env[16]).value = 342 := by
  decide +kernel
/-- R9: bits 31 to 8 of a slot are its sample, bits 7 to 0 of slot 0 the marker. -/
theorem test_samplePeriod_slot :
    ((after (.samplePeriod (same 8 0x123456A5) (same 2 0)) room).audio.tdmIn[3])[0] = 0x123456 ∧
    (after (.samplePeriod (same 8 0x123456A5) (same 2 0)) room).audio.tdmGood = 1 := by decide +kernel
/-- R10: LOST, count 0, and a good frame: count 1. -/
theorem test_frameBoundary :
    (after (.frameBoundary (same 3 .high) false) { room with audio := { room.audio with tdmGood := 48 } }).audio.syncCount = 1 := by
  decide +kernel
/-- 2.6: the fiftieth consecutive sample flips the sensed state. -/
theorem test_frameBoundary_wall :
    ((after (.frameBoundary (same 3 .low) false) (room.setWallCount 1 49)).walls[1]).sensed = .closed := by decide +kernel
theorem test_badFrameRun :
    ((after (.badFrameRun 0) (withLink (fun l => { l with badRun := 7 }) room)).links[0]).state = .retrain := by decide +kernel
theorem test_wallSenseChange :
    (after (.wallSenseChange 1) (room.setWallCount 1 49)).portB.queue = [.wall 1 .closed .follow .closed] := by decide +kernel
/-- 6.7, boundary 7: the last OPEN microphone becomes LAST_ON. R6: a loud microphone whose link leaves ACTIVE at that boundary (a
detach handshake at its eighth frame) is delivered as zeros there, so the evaluation taken ahead does not open it. -/
theorem test_gateHoldExpiry :
    let loud : LinkRec → LinkRec := fun l => { l with arrival := some { good := true, samples := same 48 8000000 } }
    let g : State := { room with gates := put room.gates 0 ⟨.opened, 1⟩, audio := { room.audio with noise := same 26 100 } }
    let stays : State := { g with links := put g.links 1 (loud g.links[1]) }
    let leaves : State := { g with links := put g.links 1 { loud g.links[1] with handshake := .detach, hsTimer := 7 } }
    (((after (.gateHoldExpiry 0) leaves).gates[0]).state = .lastOn ∧ ((after (.gateHoldExpiry 0) leaves).gates[1]).state = .closed) ∧
    ((after (.gateHoldExpiry 0) stays).gates[0]).state = .closed ∧ ((after (.gateHoldExpiry 0) stays).gates[1]).state = .opened := by
  decide +kernel
/-- R92: the evaluation of the slot is taken whole: the other counters of the slot are lowered too, and the count handed over.
R94: where two microphones expire together the louder, or else the lower, becomes LAST_ON, and none is OPEN beside it. -/
theorem test_gateHoldExpiry_whole :
    let t := after (.gateHoldExpiry 0) { room with gates := put (put room.gates 0 ⟨.opened, 1⟩) 1 ⟨.opened, 2⟩ }
    let two := after (.gateHoldExpiry 0) { room with gates := put (put room.gates 0 ⟨.opened, 1⟩) 1 ⟨.opened, 1⟩ }
    ((t.gates[0]).state = .closed ∧ t.gates[1] = ⟨.opened, 1⟩ ∧ t.ahead.counts[0] = some 1) ∧
    (two.gates[0]).state = .lastOn ∧ (two.gates[1]).state = .closed := by decide +kernel
/-- R92, R99: a slot evaluated ahead is not evaluated again, and its factor is that of the count handed over. -/
theorem test_frameBoundary_evaluated :
    let t := after (.frameBoundary (same 3 .high) false) (evaluated 2 { room with gates := put room.gates 0 ⟨.opened, 1⟩ })
    t.gates[0] = ⟨.opened, 1⟩ ∧ (t.mix.snap.map fun k => k.factor[0]) = some 23170 ∧ t.ahead = noneAhead := by decide +kernel
theorem test_queueExpiry :
    ((after (.queueExpiry 7) (withFloor [{ mic := 7, age := 29999 }] [] chaired)).floors[0]).queue = [] := by decide +kernel
/-- R115: the piece is taken whole: the other entries of the slot are advanced at the same event, and not again. -/
theorem test_queueExpiry_whole :
    let t := after (.queueExpiry 7) (withFloor [⟨7, 29999⟩, ⟨8, 3⟩] [grantAt 5 5 false, grantAt 6 4 false] chaired)
    t.floors[0] = ⟨[⟨8, 4⟩], [grantAt 5 6 false, grantAt 6 5 false]⟩
    ∧ (after (.frameBoundary (same 3 .high) false) t).floors[0] = t.floors[0] := by decide +kernel
/-- 7.10: limit 90 s and lead 15 s warn at 75000 frames. -/
theorem test_speechWarn :
    (after (.speechWarn 5) (withFloor [] [grantAt 5 74999 false] chaired)).portA.queue = [.speechWarn 0 5 90] := by decide +kernel
theorem test_speechExpiry :
    (after (.speechExpiry 5) (withFloor [] [grantAt 5 89999 true] chaired)).portA.queue = [.speechExpired 0 5 true 90] := by
  decide +kernel
theorem test_attemptFail :
    ((after (.attemptFail 0) (withLink (fun l => { l with state := .training, attemptTimer := 199, attemptCount := 2 }) room)).links[0]).state
      = .fault := by decide +kernel
theorem test_dozeHandshakeTimeout :
    ((after (.dozeHandshakeTimeout 0) (withLink (fun l => { l with handshake := .doze, hsTimer := 7 }) room)).links[0]).dozeRefused
      = true := by decide +kernel
/-- 8.12: the eighth frame of a detach handshake faults the link with NO_ACK. -/
theorem test_detachHandshakeTimeout :
    (after (.detachHandshakeTimeout 0) (withLink (fun l => { l with handshake := .detach, hsTimer := 7 }) room)).portB.queue.head?
      = some (.link 0 .active .fault .noAck none) := by decide +kernel
theorem test_residencyMet :
    ((after (.residencyMet 0) (withLink (fun l => { l with state := .fault, residency := 249, requested := .up }) room)).links[0]).state
      = .down := by decide +kernel
theorem test_autoUp :
    ((after (.autoUp 0) (withLink (fun l => { l with state := .down, armed := true, autoPending := true }) room)).links[0]).state
      = .training := by decide +kernel
theorem test_batchApplication :
    (after (.batchApplication .a) { room with portA := { room.portA with
      committed := [{ entries := [.xpt 113 24000], byCommit := true }] } }).live.xpt[113] = 24000 := by decide +kernel
theorem test_batchIdleTimeout :
    (after (.batchIdleTimeout .a) { room with portA := { room.portA with batch := some { entries := [.xpt 1 5], idle := 1999 } } }).portA.queue
      = [.batchAbandoned 1] := by decide +kernel
/-- R20: with W0 closed the map is 0, 1, 1, 1. -/
theorem test_regroupSwitch : (after .regroupSwitch fading).rg.map = #v[0, 1, 1, 1] := by decide +kernel
/-- 2.5: a wall change at boundary k with an empty affected set gives no switch there. -/
theorem test_regroupSwitch_after_cause :
    (after .regroupSwitch (after (.wallSenseChange 2) (room.setWallCount 2 49))).rg.map = same 4 0 := by decide +kernel
theorem test_regroupDone :
    (after .regroupDone { fading with rg := { fading.rg with state := .fadingIn, r := same 26 32768 } }).rg.state = .steady := by
  decide +kernel

/-! ## Links -/

/-- The published check value of this CRC: over the characters 123456789 it is 29B1h. -/
theorem test_crc16 : crc16 (text ['1', '2', '3', '4', '5', '6', '7', '8', '9']) = 0x29B1 := by decide +kernel
/-- R123: an upstream frame that is not received whole leaves no arrival. -/
theorem test_upstreamFrameArrival : ((after (.upstreamFrameArrival 0 [6, 0, 0]) room).links[0]).arrival = none := by decide +kernel
theorem test_hello :
    ((after (.hello 0 7 (same 3 true) (some .engaged)) (withLink (fun l => { l with state := .training, lock := true }) room)).mute.recs[0]).priv
      = true := by decide +kernel
/-- 5.9: MUTE toggles PRIVACY. -/
theorem test_buttonMute : ((after (.buttonMute 4 false) room).mute.recs[4]).priv = true := by decide +kernel
/-- R126: a press with the bit of the last accepted one is a repeat. -/
theorem test_buttonMute_repeat : ((after (.buttonMute 4 true) room).mute.recs[4]).priv = false := by decide +kernel
/-- 7.10: TALK by M5 with room and an empty queue is granted. -/
theorem test_buttonTalk : ((after (.buttonTalk 5 false) chaired).floors[0]).grants = [grantAt 5 0 false] := by decide +kernel
/-- 5.11: ALL by the chair microphone sets quiet and holds the others. -/
theorem test_buttonAll :
    (after (.buttonAll 4 false) chaired).mute.quiet[0] = true ∧ ((after (.buttonAll 4 false) chaired).mute.recs[5]).chair = true ∧
    ((after (.buttonAll 4 false) chaired).mute.recs[4]).chair = false := by decide +kernel
/-- 8.11: DOZE_ACK takes the link to DOZE. -/
theorem test_dozeAck : ((after (.dozeAck 0) (withLink (fun l => { l with handshake := .doze }) room)).links[0]).state = .doze := by
  decide +kernel
theorem test_dozeNak :
    (after (.dozeNak 0) (withLink (fun l => { l with handshake := .doze }) room)).portA.queue = [.dozeRefused 0 .nak] := by decide +kernel
theorem test_detachAck :
    ((after (.detachAck 0) (withLink (fun l => { l with handshake := .detach }) room)).links[0]).state = .detached := by decide +kernel
theorem test_faultReport : ((after (.faultReport 0 9) room).links[0]).faultCode = some 9 := by decide +kernel
theorem test_wake : ((after (.wake 0) (withLink (fun l => { l with state := .doze }) room)).links[0]).retrainCount = 1 := by decide +kernel
theorem test_linkNop : ((after (.linkNop .a 0) (withLink (fun l => { l with state := .down, armed := false }) room)).links[0]).armed = true := by
  decide +kernel
/-- 8.12: UP on an unarmed DOWN link is IGNORED (2). -/
theorem test_linkUp : (after (.linkUp .b 0) (withLink (fun l => { l with state := .down, armed := false }) room)).recB.data = [2, 0] := by
  decide +kernel
/-- 8.11: DOZE in ACTIVE is TAKEN (0), the link staying ACTIVE (2). -/
theorem test_linkDoze : (after (.linkDoze .b 3) room).recB.data = [0, 2] := by decide +kernel
theorem test_linkDetach : ((after (.linkDetach .b 9) room).links[9]).handshake = .detach := by decide +kernel
theorem test_linkRetrain : ((after (.linkRetrain .a 9) room).links[9]).state = .retrain := by decide +kernel

/-! ## Port framing -/

theorem test_portACharacterReceived : (after (.portACharacterReceived 0x73) room).lineA.buf = text ['S'] := by decide +kernel
/-- 9.6: SELECT 0 0 71 places the cursor on crosspoint 113. -/
theorem test_portALineEnd :
    (after .portALineEnd (withText ['S', 'E', 'L', 'E', 'C', 'T', ' ', '0', ' ', '0', ' ', '7', '1'] room)).portA.cursor.index = 113 := by
  decide +kernel
theorem test_portALineEnd_long :
    (after .portALineEnd { withText ['X'] room with lineA := { (withText ['X'] room).lineA with long := true } }).lineA.sending
      = some (.response .long [0, 0]) := by decide +kernel
theorem test_portALineSent :
    (after .portALineSent { room with
      portA := { room.portA with queue := [.sync .lost] }
      lineA := { room.lineA with sending := some (.notice (.sync .lost)) } }).portA.queue = [] := by decide +kernel
/-- R157: HOLD (10h), 8 operand bytes: a source target and source 3. -/
theorem test_portBWriteTransaction :
    ((after (.portBWriteTransaction 0x68 [0x10, 8, 0, 0, 0, 0, 0, 0, 0, 3]) room).mute.recs[3]).far = true := by decide +kernel
theorem test_portBWriteTransaction_truncated :
    (after (.portBWriteTransaction 0x68 [0x10, 8, 0]) room).recB.status = .truncated := by decide +kernel
/-- R157, R158: the response NONE, then zeros. -/
theorem test_portBReadTransaction : (after (.portBReadTransaction 0x68 5) room).recB.readOut = [0, 0, 0, 0, 0] := by decide +kernel

/-! ## Requests -/

theorem test_select : (after (.select .b 0x14 0 51) room).portB.cursor = { table := .meters, view := .live, index := 51 } := by decide +kernel
theorem test_select_bad : (after (.select .b 0x14 1 0) room).recB.status = .badOperand := by decide +kernel
/-- R46, R147: the excluded crosspoint 0 is shown as 0, and the cursor advances. -/
theorem test_showEntry : (after (.showEntry .b) room).recB.data = [0] ∧ (after (.showEntry .b) room).portB.cursor.index = 1 := by decide +kernel
/-- 9.11: a page header on Port B has 22 bytes of operands: flag 1, label 16, count 3, check 2. -/
theorem test_showEntry_page :
    ((after (.showEntry .b) { room with portB := { room.portB with cursor := { table := .pages, view := .live, index := 31 } } }).recB.bytes).length
      = 25 := by decide +kernel
/-- 9.9: a trim of 10000h is CLAMPED. -/
theorem test_enter : (after (.enter .a [0x10000, 0, 0]) (at' .source .live 10 room)).lineA.sending = some (.response .clamped []) := by
  decide +kernel
theorem test_enter_excluded : (after (.enter .a [5]) (at' .crosspoint .live 27 room)).lineA.sending = some (.response .excluded [0, 27]) := by
  decide +kernel
/-- 9.9: the set {F0 to F7, L0, L1} is 3FF0000h. -/
theorem test_mask : ((after (.mask .a 0x3FF0000) room).portA.keep.map fun k => (k[15], k[16], k[25])) = some (false, true, true) := by decide +kernel
theorem test_beginBatch : (after (.beginBatch .a) room).portA.batch = some { entries := [], idle := 0 } := by decide +kernel
theorem test_commit : (after (.commit .a) (opened [.xpt 1 5] room)).portA.committed = [{ entries := [.xpt 1 5], byCommit := true }] := by
  decide +kernel
/-- 9.9: a section write begins a regroup. -/
theorem test_commit_section :
    (after (.commit .a) (opened [.src 9 { trim := 40000, sect := 3, chair := false }] room)).rg.state = .fadingOut := by decide +kernel
theorem test_abandon : (after (.abandon .a) (opened [.xpt 1 5] room)).portA.batch = none := by decide +kernel
theorem test_wall : (after (.wall .a 0 .closed) room).rg.pendMap = #v[0, 1, 1, 1] := by decide +kernel
theorem test_notices : (after (.notices .b) { room with portB := { room.portB with queue := [.sync .lost], overflow := true } }).recB.data = [2] := by
  decide +kernel
theorem test_flags : (after (.flags .a .echo true) { room with lineA := { room.lineA with follow := true } }).lineA.sending
    = some (.response .ok [1, 0, 0]) := by decide +kernel
theorem test_lower : (after (.lower .a .observe) room).portA.profile = .observe := by decide +kernel
theorem test_hold : ((after (.hold .a (.source 4)) room).mute.recs[4]).chair = true := by decide +kernel
/-- 5.9: Port B's FREE of a source without FAR is NOT_HELD. -/
theorem test_free : (after (.free .b (.source 4)) (after (.hold .a (.source 4)) room)).recB.status = .notHeld := by decide +kernel
theorem test_freeAll : ((after (.freeAll .b) (after (.hold .b .allMics) room)).mute.recs[4]).far = false := by decide +kernel
theorem test_gmute : (after (.gmute .b 2) room).mute.groupMuted[2] = true := by decide +kernel
theorem test_gunmute : (after (.gunmute .a 2) (after (.gmute .b 2) room)).mute.groupMuted[2] = false := by decide +kernel
/-- 5.11: QUIET 0 ON holds the non-chair microphones of partition 0 alone. -/
theorem test_quiet : ((after (.quiet .b 0 true) chaired).mute.recs[5]).chair = true ∧ ((after (.quiet .b 0 true) chaired).mute.recs[4]).chair = false := by
  decide +kernel
theorem test_dismiss :
    (after (.dismiss .a (.source 4)) { room with mute := { room.mute with recs := put room.mute.recs 4 ⟨false, true, false, true⟩ } }).portA.queue
      = [.unmute 4 false .dismiss] := by decide +kernel
/-- 7.10: with a full list M7 is QUEUED. -/
theorem test_ask : ((after (.ask .a 7) (withFloor [] [grantAt 5 300 false, grantAt 6 100 false] chaired)).floors[0]).queue
    = [{ mic := 7, age := 0 }] := by decide +kernel
theorem test_withdraw : ((after (.withdraw .a 7) (withFloor [⟨6, 9⟩, ⟨7, 5⟩, ⟨8, 1⟩] [] chaired)).floors[0]).queue = [⟨6, 9⟩, ⟨8, 1⟩] := by
  decide +kernel
theorem test_release : (after (.release .a 5) (withFloor [] [grantAt 5 300 false] chaired)).portA.queue = [.floor 0 5 .released] := by decide +kernel
/-- R110: BUMP posts BUMPED before GRANTED. -/
theorem test_grant : (after (.grant .a 7) (withFloor [] [grantAt 5 300 false, grantAt 6 100 false] chaired)).portA.queue
    = [.floor 0 5 .bumped, .floor 0 7 .granted] := by decide +kernel
theorem test_grantNext : ((after (.grantNext .a 0) (withFloor [⟨6, 9⟩, ⟨7, 5⟩] [] chaired)).floors[0]).grants = [grantAt 6 0 false] := by
  decide +kernel
theorem test_revoke : (after (.revoke .b 5) (withFloor [] [] chaired)).recB.status = .notGranted := by decide +kernel
theorem test_clearQ : (after (.clearQ .a 0) (withFloor [⟨6, 9⟩, ⟨7, 5⟩] [] chaired)).portA.queue = [.floor 0 6 .cleared, .floor 0 7 .cleared] := by
  decide +kernel

/-! ## Scenes (10.7) -/

theorem test_load : ((after (.load .a 0 1) (withPage room)).scene.bufs[1]).lock = .engine := by decide +kernel
theorem test_load_busy : (after (.load .b 7 1) (working .store false)).recB.status = .busy := by decide +kernel
/-- The engine's read failed: CHECK_FAILED, the page invalid. -/
theorem test_loadComplete : ((after (.loadComplete false) (working .load false)).scene.pages[0]).mark = false := by decide +kernel
theorem test_capture : ((after (.capture .a 0) room).scene.bufs[0]).lock = .capture := by decide +kernel
theorem test_captureCopy : ((after (.captureCopy 0) (after (.capture .a 0) room)).scene.bufs[0]).status = .captured := by decide +kernel
theorem test_store : ((after (.store .a 0 0) (withBuf captured (withPage room))).scene.job.map Job.kept) = some 41 := by decide +kernel
theorem test_eraseStage : ((after .eraseStage (working .store false)).scene.pages[0]).flag = 0 := by decide +kernel
/-- The store count becomes 42. -/
theorem test_storeComplete : ((after (.storeComplete true) (working .store true)).scene.pages[0]).count = 42 := by decide +kernel
theorem test_storeComplete_failed : (after (.storeComplete false) (working .store true)).portA.queue = [.scene .failed (some 0) (some 0)] := by
  decide +kernel
theorem test_amend : (after (.amend .b 0 0) (withBuf captured (withPage room))).recB.status = .emptyBuffer := by decide +kernel
theorem test_amendComplete : (after (.amendComplete true true) (working .amend true)).portA.queue = [.scene .amended (some 0) (some 0)] := by
  decide +kernel
theorem test_erase : ((after (.erase .a 0) (withPage room)).scene.pages[0]).mark = false := by decide +kernel
theorem test_eraseComplete : ((after .eraseComplete (working .erase true)).scene.pages[0]).count = 41 := by decide +kernel
theorem test_apply : applying.rg.applyMark = some 0 := by decide +kernel
theorem test_clear : (after (.clear .a) room).portB.queue = [.start .clear true] := by decide +kernel
/-- R18, R170: CLEAR takes the levels at the sense lines at the event, not those of the last boundary; the next one draws anew. -/
theorem test_clear_samples :
    (∀ w : Fin 3, ((after (.clear .a) room).walls[w]).sensed = levelWall room.freeSense[w]) ∧
    (after (.clear .a) room).freeCount = room.freeCount + 1 :=
  ⟨fun w => by fin_cases w <;> rfl, by decide +kernel⟩

/-! ## Witnesses of the hypotheses of the statements -/

theorem exec_after (c : Instr) (s : State) : exec c s = .next (after c s) := by
  obtain ⟨t, h⟩ := exec_next c s
  simp [after, h]

theorem step_after (c : Instr) (rest : List Instr) (s : State) :
    step { s with pending := c :: rest } = .next (after c { s with pending := rest }) := exec_after c _

theorem ready_of {s : State} {p : Port} {k : ReqClass} (h : (s.held = false ∧ allows (s.port p).profile k = true)) : Ready s p k := h

theorem ready_room : ∀ p k, Ready room p k := by
  intro p k; cases p <;> cases k <;> exact ready_of (by decide +kernel)

theorem ready_chaired : ∀ p k, Ready chaired p k := by
  intro p k; cases p <;> cases k <;> exact ready_of (by decide +kernel)

/-- FADING_OUT after W0 was overridden CLOSED, M9 in S3: its sound is cut off from every bus of S0. -/
def divided : State :=
  after (.wall .a 0 .closed)
    { room with live := { room.live with src := put room.live.src 9 { trim := 32768, sect := 3, chair := false } } }

theorem witness_StepRunsFrontCommand : State.reset.pending = [] := rfl

theorem witness_StepTakesOneCommand : ∃ s t : State, s.pending = [.freeAll .a, .resetAsserted] ∧ step s = .next t :=
  ⟨_, _, rfl, step_after (.freeAll .a) [.resetAsserted] room⟩

theorem witness_ResetPinHoldsThePart :
    (after .resetAsserted room).held = true ∧ (∀ k w a, Instr.freeAll .a ≠ .startUp k w a) ∧ Instr.freeAll .a ≠ .resetAsserted :=
  ⟨by decide +kernel, fun _ _ _ => by simp, by simp⟩

theorem withPage_page : (withPage room).scene.pages[(0 : Fin 32)] = goodPage contents := put_same _ _ _

/-- Page 0 valid with a power-on record, and page 0 invalid (2.2: with its walls FOLLOW, a line at each level). -/
theorem witness_StartUpLoadsPageZero :
    ((withPage room).scene.job = none ∧
      (let g := (withPage room).scene.pages[(0 : Fin 32)]
       decide (g.flag = 1 ∧ g.check = g.contents.check) = true ∧ ∃ r, g.contents.powerOn = some r)) ∧
    (room.scene.job = none ∧ (room.scene.pages[(0 : Fin 32)]).flag ≠ 1) ∧
    (after (.startUp .pin #v[.low, .high, .low] 0) room).rg.map = #v[0, 1, 1, 3] := by
  refine ⟨⟨by decide +kernel, ?_⟩, ⟨by decide +kernel, by decide +kernel⟩, by decide +kernel⟩
  rw [withPage_page]
  exact ⟨decide_eq_true ⟨rfl, rfl⟩, _, rfl⟩

/-- A page operation that breaks its page, of each kind, and one that does not. -/
theorem witness_StartUpBreaksPageOperation :
    (∀ op e, (working op e).scene.job = some (job op e) ∧ (job op e).op = op ∧ (job op e).erased = e ∧ (1 : Fin 32) ≠ (job op e).page) ∧
    ∃ t, exec (.startUp .pin (same 3 .high) 7) (working .amend false) = .next t :=
  ⟨fun _ _ => ⟨rfl, rfl, rfl, by simp [job]⟩, _, exec_after _ _⟩

theorem witness_ClearIsStartUp : Ready room .a .system ∧ Ready room .b .system := ⟨ready_room _ _, ready_room _ _⟩

theorem witness_OnlyStartUpRaisesProfile : ∃ t, exec (.lower .a .observe) room = .next t := ⟨_, exec_after _ _⟩

theorem witness_RoundingGoesToNearest :
    (0 < 1) ∧ |(1 : Int) - 2 ^ 1 * roundAt 1 1| = |(1 : Int) - 2 ^ 1 * 0| ∧ |(1 : Int) - 2 ^ 1 * roundAt 1 1| = |(1 : Int) - 2 ^ 1 * 1| := by
  decide

/-- The first and the last sample period of a frame. -/
theorem witness_SamplePeriodComputesTheMix : ∀ n ∈ [0, 47],
    let s := { sounding with periods := n }
    s.held = false ∧ (∃ k, s.mix.snap = some k) ∧ s.periods < 48 := by
  have h : ∀ n ∈ [0, 47], let s := { sounding with periods := n }
      s.held = false ∧ s.mix.snap.isSome = true ∧ s.periods < 48 := by decide +kernel
  intro n hn
  exact ⟨(h n hn).1, Option.isSome_iff_exists.mp (h n hn).2.1, (h n hn).2.2⟩

theorem witness_SamplePeriodMovesPortSamples : room.held = false ∧ room.periods < 48 := by decide +kernel

/-- A pod's own bus, and another section's source after the switch that closed W0. -/
theorem witness_BusIgnoresNonContributingSources :
    ∃ k t t', sounding.mix.snap = some k ∧ contributes k.map k.srcSect k.busSect 0 0 = false ∧
      exec (.samplePeriod (same 8 0) (same 2 0)) sounding = .next t ∧
      exec (.samplePeriod (same 8 0) (same 2 0))
        { sounding with audio := { sounding.audio with input := sounding.audio.input.set 0 (same 48 1) } } = .next t' := by
  have h : (sounding.mix.snap.any fun k => contributes k.map k.srcSect k.busSect 0 0 == false) = true := by decide +kernel
  cases hs : sounding.mix.snap with
  | none => simp [hs] at h
  | some k => exact ⟨k, _, _, rfl, by simpa [hs] using h, exec_after _ _, exec_after _ _⟩

/-- A link ACTIVE at both boundaries; a link of every state; and a boundary at which no switch is due and no link moves. -/
theorem witness_BoundaryHandsOverAndMeasures :
    let t := after (.frameBoundary (same 3 .high) true) room
    (room.held = false ∧ (room.links[(15 : Fin 16)]).wasActive = true ∧ t.audio.sync ≠ .locked ∧
      (t.links[(15 : Fin 16)]).wasActive = true ∧ NoSwitchDue room ∧ LinksStay room t) ∧
    ∀ st ∈ [LinkState.down, .training, .active, .doze, .retrain, .detached, .fault],
      ((after (.frameBoundary (same 3 .high) false) (withLink (fun l => { l with state := st }) room)).links[(0 : Fin 16)]).state = st := by
  refine ⟨⟨?_, ?_, ?_, ?_, ?_, ?_⟩, ?_⟩
  case _ => decide +kernel
  case _ => decide +kernel
  case _ => decide +kernel
  case _ => decide +kernel
  case _ => unfold NoSwitchDue; decide +kernel
  case _ => unfold LinksStay; decide +kernel
  case _ => decide +kernel

/-- Each clause at 48 and 47 good markers. -/
theorem witness_BoundaryJudgesSync :
    let st : Nat → Sync → Nat → State := fun g y n => { room with audio := { room.audio with tdmGood := g, sync := y, syncCount := n } }
    [st 48 .lost 0, st 48 .lost 1, st 48 .locked 2, st 47 .locked 2, st 0 .lost 1].all (fun s => !s.held && !(s.port .a).overflow) = true ∧
    ∃ t, exec (.frameBoundary (same 3 .high) false) (st 48 .lost 1) = .next t :=
  ⟨by decide +kernel, _, exec_after _ _⟩

theorem witness_BoundaryTracksNoise : ∃ t, room.held = false ∧ exec (.frameBoundary (same 3 .high) true) room = .next t ∧
    (15 : Fin 26) = micSource 15 ∧ (room.links[(15 : Fin 16)]).wasActive = true ∧ (t.links[(15 : Fin 16)]).wasActive = true :=
  ⟨_, by decide +kernel, exec_after _ _, by decide, by decide +kernel, by decide +kernel⟩

/-- A microphone of a GATED partition, with and without an evaluation taken ahead; and one of a partition that is not GATED. -/
theorem witness_BoundaryTakesSnapshot : (∀ s ∈ [room, evaluated 3 room], ∃ t, s.held = false ∧
    exec (.frameBoundary (same 3 .low) false) s = .next t ∧ NoSwitchDue s ∧ t.mode (t.micPart 15) = .gated) ∧
    ∃ t, chaired.held = false ∧ exec (.frameBoundary (same 3 .low) false) chaired = .next t ∧
      chaired.mode (chaired.partOf (chaired.live.src[(15 : Fin 26)]).sect) ≠ .gated := by
  refine ⟨fun s h => ?_, _, by decide +kernel, exec_after _ _, by decide +kernel⟩
  refine ⟨_, ?_, exec_after _ _, ?_, ?_⟩ <;> revert s <;> (try unfold NoSwitchDue) <;> decide +kernel

/-- Each bus ramp code, read after the batch due at the boundary. -/
theorem witness_BoundaryTakesSnapshot_step : ∀ code : Fin 4,
    let s := { room with portB := { room.portB with committed := [{ entries := [.dev 1 code.val], byCommit := true }] } }
    (((s.portA.committed ++ s.portB.committed).flatMap (·.entries)).foldl Image.write s.live).busCode = code.val ∧ s.held = false := by
  decide +kernel

theorem witness_MapJoinsOpenWalls : (0 : Fin 4) ≤ 3 ∧ ∀ w : Fin 3, 0 ≤ w.val → w.val < 3 → (same 3 WallState.opened)[w] = .opened := by
  decide

/-- The sampled level agrees; differs at counts 48 and 49; a flip that changes the effective state, and one that an override
hides. -/
theorem witness_WallSensesAreDebounced :
    (∃ t, exec (.frameBoundary (same 3 .low) false) (room.setWallCount 2 49) = .next t) ∧
    levelWall (same 3 .high)[(2 : Fin 3)] = ((room.setWallCount 2 7).walls[(2 : Fin 3)]).sensed ∧
    levelWall (same 3 .low)[(2 : Fin 3)] ≠ ((room.setWallCount 2 48).walls[(2 : Fin 3)]).sensed ∧
    ((room.setWallCount 2 48).walls[(2 : Fin 3)]).count < 49 ∧ ((room.setWallCount 2 49).walls[(2 : Fin 3)]).count = 49 ∧
    (room.setWallCount 2 49).held = false ∧
    (let s := room.setWallCount 2 49
     effectiveOf s.live.wall[(2 : Fin 3)] .closed ≠ (s.walls[(2 : Fin 3)]).effective) ∧
    (let s := { room.setWallCount 2 49 with live := { room.live with wall := same 3 .opened } }
     effectiveOf s.live.wall[(2 : Fin 3)] .closed = (s.walls[(2 : Fin 3)]).effective) :=
  ⟨⟨_, exec_after _ _⟩, by decide +kernel, by decide +kernel, by decide +kernel, by decide +kernel, by decide +kernel,
    by decide +kernel, by decide +kernel⟩

/-- At a boundary: a flip of W2 alone that is a cause, from STEADY and from FADING_IN; W2's flip hidden by an override; and no flip. -/
theorem witness_WallSensesAreDebounced_boundary :
    let sense := same 3 Level.low
    let flips (s : State) (w : Fin 3) : Bool := decide (levelWall sense[w] ≠ (s.walls[w]).sensed ∧ 49 ≤ (s.walls[w]).count)
    let causes (s : State) (w : Fin 3) : Bool :=
      flips s w && decide (effectiveOf s.live.wall[w] (levelWall sense[w]) ≠ (s.walls[w]).effective)
    (∀ state ∈ [RegroupState.steady, .fadingIn],
      let s := { room.setWallCount 2 49 with rg := { room.rg with state := state } }
      ¬SwitchStands (wallsSampled sense s).rg ∧ ¬EndStands (wallsSampled sense s).rg ∧ s.held = false ∧ s.rg.state ≠ .fadingOut ∧
      causes s 2 = true ∧ ∀ x : Fin 3, causes s x = true → x = 2) ∧
    (let s := { room.setWallCount 2 49 with live := { room.live with wall := same 3 .opened } }
     flips s 2 = true ∧ ∀ w : Fin 3, causes s w = false) ∧
    (¬SwitchStands (wallsSampled sense room).rg ∧ (∀ w : Fin 3, flips room w = false) ∧ room.portB.queue.length < 32) ∧
    (after (.frameBoundary sense false) (room.setWallCount 2 49)).rg.state = .fadingOut := by
  unfold SwitchStands EndStands; refine ⟨?_, ?_, ?_, ?_⟩ <;> decide +kernel

/-- Under no mark with a bus affected, under the apply mark, and with the fade-out to be cancelled. -/
theorem witness_CauseStartsFadeOut :
    let s := { room with live := { room.live with wall := put room.live.wall 0 .closed } }
    let back := regroupCause true { room with rg := { room.rg with state := .fadingOut } }
    room.rg.state = .steady ∧ s.rg.state = .steady ∧ divided.rg.affected[(0 : Fin 26)] = true ∧
    { room.rg with applyMark := some 1 }.applyMark.isSome = true ∧
    (room.rg.applyMark = none ∧ back.rg.pendMap = room.rg.map ∧ room.rg.changes = []) := by decide +kernel

theorem fading_clean : RegroupClean fading.rg ∧ MapsLegal fading :=
  ⟨⟨by decide +kernel, by decide +kernel⟩, ⟨same 3 .opened, by decide +kernel⟩, ⟨put (same 3 .opened) 0 .closed, by decide +kernel⟩⟩

/-- In FADING_OUT at the switch, and in STEADY. -/
theorem witness_EveryStepKeepsRegroupMachine :
    (∃ s t, RegroupClean s.rg ∧ MapsLegal s ∧ step s = .next t ∧ s.rg.state = .fadingOut) ∧
    (∃ s t, RegroupClean s.rg ∧ MapsLegal s ∧ step s = .next t ∧ s.rg.state = .steady) :=
  ⟨⟨{ fading with pending := [.regroupSwitch] }, _, fading_clean.1, fading_clean.2, step_after .regroupSwitch [] fading, by decide +kernel⟩,
    ⟨{ room with pending := [.wall .a 2 .closed] }, _, ⟨by decide +kernel, by decide +kernel⟩, ⟨⟨same 3 .opened, by decide +kernel⟩, ⟨same 3 .opened, by decide +kernel⟩⟩,
      step_after (.wall .a 2 .closed) [] room, by decide +kernel⟩⟩

theorem witness_MapChangesOnlyAtSwitch :
    ∃ t, exec .regroupSwitch fading = .next t ∧ t.rg.map ≠ fading.rg.map ∧ fading.rg.tested = false :=
  ⟨_, exec_after _ _, by decide +kernel, by decide +kernel⟩

/-- The chaired room, its queue and grants in S0, about to be split at W0: a slot that keeps its sources and one that gets
some, in a partition that is CHAIRED and in one that is not; the section of M9 is `q`. -/
def splitting (mode : Mode) (q : Fin 4) : State :=
  let s := withFloor [⟨7, 5⟩, ⟨9, 1⟩] [grantAt 5 300 false, grantAt 4 100 true] chaired
  after (.wall .a 0 .closed) { s with live := { s.live with
    src := put s.live.src 9 { trim := 32768, sect := q, chair := false }
    sec := put s.live.sec 3 { factorySection with mode := mode } } }

/-- Not due in STEADY, while a ramp stands at 1 and when the test was taken; due with a changed partition and a slot not in
use, with a committed list, and for an APPLY. -/
theorem witness_RegroupSwitchPlacesChanges :
    (room.held = false ∧ room.portA.committed = [] ∧ room.portB.committed = [] ∧ room.rg.state ≠ .fadingOut) ∧
    (let s := { divided with rg := { divided.rg with r := same 26 1 } }
     s.held = false ∧ s.portA.committed = [] ∧ s.portB.committed = [] ∧ s.rg.affected[(0 : Fin 26)] = true ∧ s.rg.r[(0 : Fin 26)] ≠ 0) ∧
    (fading.held = false ∧ fading.portA.committed = [] ∧ fading.portB.committed = [] ∧ fading.rg.state = .fadingOut ∧
      (∀ b : Fin 26, fading.rg.affected[b] = true → fading.rg.r[b] = 0) ∧ fading.rg.applyFrom = none ∧
      partitionChanged fading (after .regroupSwitch fading) 1 = true ∧ isLead (after .regroupSwitch fading).rg.map 3 = false ∧
      fading.rg.tested = false) ∧
    (applying.held = false ∧ applying.portA.committed = [] ∧ applying.portB.committed = [] ∧ applying.rg.state = .fadingOut ∧
      (∀ b : Fin 26, applying.rg.affected[b] = true → applying.rg.r[b] = 0) ∧ applying.rg.applyFrom = some 0) ∧
    { fading with rg := { fading.rg with tested := true } }.rg.tested = true ∧
    (let s := { fading with portB := { fading.portB with committed := [{ entries := [.dev 1 2], byCommit := true }] } }
     s.held = false ∧ s.portB.committed ≠ [] ∧ s.rg.state = .fadingOut ∧ s.rg.tested = false ∧ s.ahead.floors = same 4 false ∧
      ∀ b : Fin 26, s.rg.affected[b] = true → s.rg.r[b] = 0) ∧
    (let s := fading.withWorked (put fading.ahead.floors 0 true)
     s.held = false ∧ s.rg.state = .fadingOut ∧ s.rg.tested = false ∧ s.ahead.floors[(0 : Fin 4)] = true ∧
      ∀ b : Fin 26, s.rg.affected[b] = true → s.rg.r[b] = 0) :=
  ⟨by decide +kernel, by decide +kernel, by decide +kernel, by decide +kernel, by decide +kernel, by decide +kernel,
    by decide +kernel⟩

/-- Changed partitions with one old record, one that is discarded and one that is kept, a chair microphone among its grants;
and, in a room of two sections that join, one with two. -/
theorem witness_RegroupSwitchPlacesChanges_floors :
    (∀ mode ∈ [Mode.chaired, .gated], let s := splitting mode 3
      let t := after .regroupSwitch s
      (∀ b : Fin 26, s.rg.affected[b] = true → s.rg.r[b] = 0) ∧ s.rg.tested = false ∧
      isLead t.rg.map 0 = true ∧ t.mode 0 = .chaired ∧ t.isChair 4 = true ∧ (s.floors[(0 : Fin 4)]).granted 4 = true ∧
      (∀ o : Fin 4, o ≠ 0 → s.floors[o] = emptyFloor) ∧ isLead t.rg.map 1 = true ∧ t.micPart 9 = 1) ∧
    (let s : State := { fading with rg := { fading.rg with map := #v[0, 1, 1, 1], pendMap := same 4 0 },
                                    floors := #v[⟨[⟨7, 5⟩], []⟩, ⟨[⟨9, 5⟩], [grantAt 8 3 false]⟩, emptyFloor, emptyFloor] }
     (s.floors[(0 : Fin 4)]).queue.length = 1 ∧ (s.floors[(1 : Fin 4)]).queue.length = 1) :=
  ⟨by decide +kernel, by decide⟩

/-- A boundary at which the switch stands: of a pending override, of an APPLY, and of a wall's cause that joins the fade-out. -/
theorem witness_RegroupSwitchPlacesChanges_boundary :
    (∀ s ∈ [fading, fading.setWallCount 2 49], s.held = false ∧ s.rg.applyFrom = none ∧ SwitchStands (wallsSampled (same 3 .high) s).rg) ∧
    (applying.held = false ∧ applying.rg.applyFrom = some 0 ∧ SwitchStands (wallsSampled (same 3 .high) applying).rg) ∧
    SwitchStands (wallsSampled (same 3 .low) (fading.setWallCount 2 49)).rg ∧
    (after (.frameBoundary (same 3 .high) false) fading).rg.map = #v[0, 1, 1, 1] ∧
    (after (.frameBoundary (same 3 .low) false) (fading.setWallCount 2 49)).rg.map = #v[0, 1, 1, 3] := by
  unfold SwitchStands; decide +kernel

/-- The end of a regroup by its row, with the model's mark that the entry is older cleared by a boundary or never set; not yet; and at
a boundary, its queue with room. -/
theorem witness_RegroupDoneReturnsToSteady_boundary :
    let done (x : Option (Fin 2)) (fresh : Bool) : State := { divided with rg := { divided.rg with
      state := .fadingIn, fresh := fresh, pre := false, applyMark := x, r := same 26 32768 } }
    (∀ x ∈ [none, some 1], ∀ fresh ∈ [true, false], EndStands (done x fresh).rg ∧ (done x fresh).held = false) ∧
    (room.held = false ∧ ¬EndStands room.rg) ∧
    (∀ x ∈ [none, some 1], EndStands (wallsSampled (same 3 .high) (done x true)).rg
      ∧ (after (.frameBoundary (same 3 .high) false) (done x true)).portB.overflow = false
      ∧ (after (.frameBoundary (same 3 .high) false) (done x true)).rg.state = .steady) ∧
    ¬EndStands (wallsSampled (same 3 .high) room).rg := by
  unfold EndStands; refine ⟨?_, ?_, ?_, ?_⟩ <;> decide +kernel

theorem witness_RegroupDoneReturnsToSteady :
    let done : Option (Fin 2) → State := fun x =>
      { divided with rg := { divided.rg with state := .fadingIn, fresh := false, applyMark := x, r := same 26 32768 } }
    ∀ x ∈ [none, some 1], (done x).held = false ∧ (done x).rg.state = .fadingIn ∧ (done x).rg.fresh = false ∧
      (done x).rg.touched[(0 : Fin 26)] = true ∧ ∀ b : Fin 26, (done x).rg.touched[b] = true → (done x).rg.r[b] = 32768 := by
  decide +kernel

/-- Some sources held, the others not. -/
theorem witness_EveryStepKeepsTargetsDerived : ∃ s t, TargetsDerived s ∧ step s = .next t ∧
    (s.env[(16 : Fin 26)]).target = 32768 ∧ (s.env[(4 : Fin 26)]).target < 32768 :=
  ⟨{ retarget room room with pending := [.hold .a (.source 4)] }, _, retarget_derived room room,
    step_after (.hold .a (.source 4)) [] (retarget room room), by decide +kernel, by decide +kernel⟩

/-- M4 held with its gate CLOSED, M5 open; and M5 LAST_ON alone. -/
theorem witness_EveryStepKeepsHeldGatesClosed :
    (∃ s t, HeldGatesClosed s ∧ step s = .next t ∧ s.heldSource (micSource 4) = true ∧ (s.gates[(5 : Fin 16)]).state = .opened) ∧
    ∃ s t, MapsLegal s ∧ CommittedPlain s ∧ LastOnAlone s ∧ step s = .next t ∧ (s.gates[(5 : Fin 16)]).state = .lastOn := by
  let s := { after (.hold .a (.source 4)) room with gates := put room.gates 5 { state := .opened, counter := 3 } }
  let u := { room with gates := put room.gates 5 { state := .lastOn, counter := 0 } }
  refine ⟨⟨{ s with pending := [.hold .a (.source 5)] }, _, by unfold HeldGatesClosed; decide +kernel,
    step_after (.hold .a (.source 5)) [] s, by decide +kernel, by decide +kernel⟩,
    { u with pending := [.frameBoundary (same 3 .high) false] }, _, ⟨⟨same 3 .opened, by decide +kernel⟩, same 3 .opened, by decide +kernel⟩,
    ?_, by unfold LastOnAlone; decide +kernel, step_after (.frameBoundary (same 3 .high) false) [] u, by decide +kernel⟩
  intro p; cases p <;> decide +kernel

/-- A full grant list and a queue. -/
theorem witness_EveryStepKeepsFloorRecords :
    ∃ s t, MapsLegal s ∧ FloorsKept s ∧ step s = .next t ∧ (s.floors[(0 : Fin 4)]).grants.length = 2 := by
  let s := withFloor [⟨7, 5⟩] [grantAt 5 300 false, grantAt 6 100 false] chaired
  refine ⟨{ s with pending := [.grant .a 7] }, _, ⟨⟨same 3 .opened, by decide +kernel⟩, same 3 .opened, by decide +kernel⟩, ⟨?_, ?_⟩,
    step_after (.grant .a 7) [] s, by decide +kernel⟩
  · unfold FloorRec.Bounded; decide +kernel
  · intro p; cases p <;> decide +kernel

theorem witness_EveryStepKeepsQueuesBounded : ∃ s t, QueuesBounded s ∧ step s = .next t ∧ s.portA.queue.length = 32 := by
  let s := { opened [.xpt 1 5] room with
    portA := { (opened [.xpt 1 5] room).portA with queue := List.replicate 32 (.sync .lost) } }
  refine ⟨{ s with pending := [.commit .a] }, _, ⟨⟨?_, ?_⟩, ?_, ?_⟩, step_after (.commit .a) [] s, ?_⟩
  · decide +kernel
  · intro ob h; obtain rfl : ({ entries := [.xpt 1 5], idle := 7 } : OpenBatch) = ob := Option.some.inj h; decide
  · decide +kernel
  · intro ob h; exact absurd h (by have : room.portB.batch = none := by decide +kernel
                                   simp [s, opened, this])
  · decide +kernel

/-! ### Holds, floor and gates -/

theorem targetSet_of {s : State} {tg : Target} (h : (s.targetSet tg).isSome = true) : ∃ set, s.targetSet tg = some set :=
  Option.isSome_iff_exists.mp h

theorem witness_HoldPlacesThePortsClass : Ready room .a .conference ∧ Ready room .b .conference ∧
    (∃ set, room.targetSet (.source 25) = some set) ∧ (∃ set, room.targetSet (.partition 0) = some set) ∧
    ∃ set, room.targetSet .allMics = some set :=
  ⟨ready_room _ _, ready_room _ _, targetSet_of (by decide +kernel), targetSet_of (by decide +kernel), targetSet_of (by decide +kernel)⟩

/-- A target that carries the class, and one that does not. -/
theorem witness_FreeReleasesThePortsClass :
    Ready (after (.hold .a (.source 4)) room) .a .conference ∧
    (∃ set, (after (.hold .a (.source 4)) room).targetSet (.source 4) = some set ∧ set[(4 : Fin 26)] = true ∧
      ((after (.hold .a (.source 4)) room).mute.recs[(4 : Fin 26)]).chair = true) ∧
    Ready room .b .conference ∧
    ∃ set, room.targetSet (.source 4) = some set ∧ ∀ i : Fin 26, set[i] = true → (room.mute.recs[i]).far = false :=
  ⟨ready_of (by decide +kernel), ⟨tab fun j => decide (j = 4), by decide +kernel, by decide, by decide +kernel⟩,
    ready_room _ _, ⟨tab fun j => decide (j = 4), by decide +kernel, by decide +kernel⟩⟩

theorem witness_FreeAllByPort : Ready room .a .conference ∧ Ready room .b .conference := ⟨ready_room _ _, ready_room _ _⟩

theorem witness_GroupMuteSetsAndClears : Ready room .a .conference ∧ Ready room .b .conference := ⟨ready_room _ _, ready_room _ _⟩

/-- Turning the flag on, turning it off, and naming the state it has. -/
theorem witness_QuietActsOnNonChairs :
    (Ready chaired .a .conference ∧ isLead chaired.rg.map 0 = true ∧ chaired.mute.quiet[(0 : Fin 4)] ≠ true ∧
      chaired.micPart 4 = 0 ∧ chaired.isChair 4 = true ∧ chaired.isChair 5 = false) ∧
    (let s := after (.quiet .a 0 true) chaired
     Ready s .b .conference ∧ isLead s.rg.map 0 = true ∧ s.mute.quiet[(0 : Fin 4)] ≠ false) ∧
    chaired.mute.quiet[(0 : Fin 4)] = false :=
  ⟨⟨ready_chaired _ _, by decide +kernel⟩, ⟨ready_of (by decide +kernel), by decide +kernel⟩, by decide +kernel⟩

theorem witness_DismissClearsAsks : Ready room .a .conference ∧
    (∃ set, room.targetSet (.source 15) = some set) ∧ (∀ n, Target.source 15 = .source n → n < 16) ∧
    (∃ set, room.targetSet (.partition 0) = some set) ∧ (∀ n, Target.partition 0 = .source n → n < 16) :=
  ⟨ready_room _ _, targetSet_of (by decide +kernel), fun n h => by cases h; decide, targetSet_of (by decide +kernel),
    fun n h => by cases h⟩

/-- The chaired room with a queue of M7 and M8 and a full grant list. -/
def floorFull : State := withFloor [⟨7, 5⟩, ⟨8, 1⟩] [grantAt 5 300 false, grantAt 6 100 true] chaired

theorem ready_floorFull : ∀ p k, Ready floorFull p k := by
  intro p k; cases p <;> cases k <;> exact ready_of (by decide +kernel)

/-- A new press in a partition that is not CHAIRED, and in one that is: by a chair microphone, a granted one, a queued one and
another; a repeated press, and one in DOZE. -/
theorem witness_AcceptedPressesInActive :
    (room.held = false ∧ (room.links[(15 : Fin 16)]).state = .active ∧ (room.links[(15 : Fin 16)]).lastBit ≠ false ∧
      room.mode (room.micPart 15) ≠ .chaired) ∧
    (∀ m ∈ [(4 : Fin 16), 5, 7, 9], floorFull.held = false ∧ (floorFull.links[m]).state = .active ∧ (floorFull.links[m]).lastBit ≠ false ∧
      floorFull.mode (floorFull.micPart m) = .chaired) ∧
    (floorFull.isChair 4 = true ∧ floorFull.isChair 5 = false ∧ (floorFull.floors[(0 : Fin 4)]).granted 5 = true ∧
      floorFull.isChair 7 = false ∧ (floorFull.floors[(0 : Fin 4)]).queued 7 = true ∧ (floorFull.floors[(0 : Fin 4)]).granted 7 = false ∧
      floorFull.isChair 9 = false ∧ (floorFull.floors[(0 : Fin 4)]).queued 9 = false ∧ (floorFull.floors[(0 : Fin 4)]).granted 9 = false) ∧
    ((room.links[(15 : Fin 16)]).lastBit = true) ∧
    (let l := (withLink (fun l => { l with state := .doze }) room).links[(0 : Fin 16)]
     l.state = .doze ∧ l.lastBit ≠ false) := by decide +kernel

/-- Granted at once, and queued. -/
theorem witness_AskQueuesOrGrants : ∀ s ∈ [chaired, floorFull],
    Ready s .a .conference ∧ s.mode (s.micPart 9) = .chaired ∧ (s.links[(9 : Fin 16)]).state = .active ∧
    (s.floors[s.micPart 9]).granted 9 = false ∧ s.isChair 9 = false ∧ (s.floors[s.micPart 9]).queued 9 = false := by
  intro s h
  rcases List.mem_cons.mp h with rfl | h
  · exact ⟨ready_chaired _ _, by decide +kernel⟩
  · obtain rfl := List.mem_singleton.mp h
    exact ⟨ready_floorFull _ _, by decide +kernel⟩

/-- Each refusal of ASK: a link that is not ACTIVE, a granted source, a chair microphone, a queued source. -/
theorem witness_AskQueuesOrGrants_refused :
    ((withLink (fun l => { l with state := .doze }) floorFull).links[(0 : Fin 16)]).state ≠ .active ∧
    (∀ m ∈ [(4 : Fin 16), 5, 7], (floorFull.links[m]).state = .active) ∧ (floorFull.floors[floorFull.micPart 5]).granted 5 = true ∧
    floorFull.isChair 4 = true ∧ (floorFull.floors[floorFull.micPart 7]).granted 7 = false ∧ floorFull.isChair 7 = false ∧
    (floorFull.floors[floorFull.micPart 7]).queued 7 = true := by decide +kernel

theorem witness_FloorEntriesLeave : Ready floorFull .b .conference ∧ floorFull.mode (floorFull.micPart 7) = .chaired ∧
    isLead floorFull.rg.map (floorFull.micPart 7) = true ∧ (floorFull.floors[(0 : Fin 4)]).queued 7 = true ∧
    (floorFull.floors[(0 : Fin 4)]).granted 5 = true :=
  ⟨ready_floorFull _ _, by decide +kernel⟩

/-- A queued source that is the head of the queue, and one that is not in the queue with its link ACTIVE. -/
theorem witness_GrantGivesTheFloor : Ready floorFull .a .conference ∧ floorFull.mode (floorFull.micPart 7) = .chaired ∧
    (floorFull.floors[(0 : Fin 4)]).granted 7 = false ∧ floorFull.isChair 7 = false ∧
    (floorFull.floors[(0 : Fin 4)]).queued 7 = true ∧ isLead floorFull.rg.map (floorFull.micPart 7) = true ∧
    (∃ e rest, (floorFull.floors[floorFull.micPart 7]).queue = e :: rest ∧ e.mic = 7) ∧
    (floorFull.links[(9 : Fin 16)]).state = .active ∧ (floorFull.floors[floorFull.micPart 9]).queued 9 = false :=
  ⟨ready_floorFull _ _, by decide +kernel, by decide +kernel, by decide +kernel, by decide +kernel, by decide +kernel,
    ⟨_, _, rfl, by decide⟩, by decide +kernel, by decide +kernel⟩

/-- Each refusal of GRANT and GRANT_NEXT, and a grant list below and at its limit, under both policies. -/
theorem witness_GrantGivesTheFloor_refused :
    let off := withLink (fun l => { l with state := .down }) floorFull
    (off.mode (off.micPart 0) = .chaired ∧ (off.floors[off.micPart 0]).granted 0 = false ∧ off.isChair 0 = false ∧
      (off.floors[off.micPart 0]).queued 0 = false ∧ (off.links[(0 : Fin 16)]).state ≠ .active) ∧
    ((floorFull.floors[floorFull.micPart 5]).granted 5 = true ∧ floorFull.isChair 4 = true) ∧
    (chaired.mode (chaired.micPart 7) = .chaired ∧ isLead chaired.rg.map (chaired.micPart 7) = true ∧
      (chaired.floors[chaired.micPart 7]).queue = [] ∧ (chaired.floors[chaired.micPart 7]).grants.length < (chaired.lead 0).speakerLimit) ∧
    (floorFull.floors[(0 : Fin 4)]).grants.length = (floorFull.lead 0).speakerLimit ∧ (floorFull.lead 0).overflow = .bump := by
  decide +kernel

/-- A record at its speaker limit, with an age and an elapsed count at their stop; a boundary over a CHAIRED slot. -/
theorem witness_FloorWorkKeepsBounds :
    FloorRec.Bounded { queue := [⟨7, 3600000⟩], grants := [grantAt 5 3600000 true] } 1 ∧
    ∃ t, floorFull.held = false ∧ exec (.frameBoundary (same 3 .high) false) floorFull = .next t ∧ NoSwitchDue floorFull ∧
      LinksStay floorFull t ∧ floorFull.slotIn .chaired 0 = true ∧ floorFull.ahead.floors[(0 : Fin 4)] = false :=
  ⟨by unfold FloorRec.Bounded; decide, _, by decide +kernel, exec_after _ _, by unfold NoSwitchDue; decide +kernel,
    by unfold LinksStay; decide +kernel, by decide +kernel⟩

/-- At the lifetime, the lead and the limit, under REVOKE and under WARN_ONLY; one frame before each; and a slot whose piece was
taken already. -/
theorem witness_FloorTimersExpire :
    (∀ n ∈ [29998, 29999], let s := withFloor [⟨7, n⟩] [] chaired
     s.held = false ∧ s.slotIn .chaired (s.micPart 7) = true ∧ s.ahead.floors[s.micPart 7] = false ∧
     0 < (s.lead (s.micPart 7)).lifetime ∧ (s.floors[s.micPart 7]).queue = [⟨7, n⟩] ∧
     (n = 29999 ↔ (s.lead (s.micPart 7)).lifetime * 1000 ≤ n + 1)) ∧
    (∀ n ∈ [74998, 74999], let s := withFloor [] [grantAt 5 n false] chaired
     s.held = false ∧ s.slotIn .chaired (s.micPart 5) = true ∧ s.ahead.floors[s.micPart 5] = false ∧
     0 < (s.lead (s.micPart 5)).warnLead ∧ (s.lead (s.micPart 5)).warnLead < (s.lead (s.micPart 5)).speechLimit ∧
     (s.floors[s.micPart 5]).grants = [grantAt 5 n false] ∧
     (n = 74999 ↔ ((s.lead (s.micPart 5)).speechLimit - (s.lead (s.micPart 5)).warnLead) * 1000 ≤ n + 1)) ∧
    (∀ x ∈ [Expiry.revoke, .warnOnly], ∀ n ∈ [89998, 89999],
      let c := withFloor [] [grantAt 5 n true] chaired
      let s := { c with live := { c.live with sec := put c.live.sec 0 { c.live.sec[0] with expiry := x } } }
      s.held = false ∧ s.slotIn .chaired (s.micPart 5) = true ∧ s.ahead.floors[s.micPart 5] = false ∧
      (s.floors[s.micPart 5]).grants = [grantAt 5 n true] ∧ 0 < (s.lead (s.micPart 5)).speechLimit ∧
      (n = 89999 ↔ (s.lead (s.micPart 5)).speechLimit * 1000 = n + 1) ∧ (s.lead (s.micPart 5)).expiry = x) ∧
    (floorFull.withWorked (same 4 true)).ahead.floors[floorFull.micPart 7] = true :=
  ⟨by decide +kernel, by decide +kernel, by decide +kernel, by decide +kernel⟩

/-- A slot of two microphones with an open limit of 1, one of them LAST_ON; and a boundary over a GATED slot. -/
theorem witness_EvaluationKeepsOpenLimit :
    (let v : GateView := { members := [0, 1], cand := fun _ => true, peak := fun m => m.val, chair := fun _ => false
                           limit := 1, hold := 300, lastOn := true }
     let gs : Gates := put (same 16 shutGate) 0 { state := .lastOn, counter := 0 }
     v.members.Nodup ∧ v.members.Pairwise (· < ·) ∧ 1 ≤ v.limit ∧ (2 : Fin 16) ∉ v.members ∧
     ∀ x ∈ v.members, ∀ y ∈ v.members, (gs[x]).state = .lastOn → x = y ∨ (gs[y]).state = .closed) ∧
    ∃ t, room.held = false ∧ exec (.frameBoundary (same 3 .high) false) room = .next t ∧ NoSwitchDue room ∧ MapsLegal room ∧
      room.mode (room.micPart 15) = .gated ∧ room.rg.noEval[room.micPart 15] = false ∧ room.ahead.counts[room.micPart 15] = none :=
  ⟨by decide, _, by decide +kernel, exec_after _ _, by unfold NoSwitchDue; decide +kernel,
    ⟨⟨same 3 .opened, by decide +kernel⟩, same 3 .opened, by decide +kernel⟩, by decide +kernel⟩

/-- With last-on Off; with another member staying OPEN; alone with last-on On; a louder one expiring with it; a candidate in the
slot; a slot evaluated already; a counter that does not reach 0; a boundary at which a link leaves ACTIVE. -/
theorem witness_GateHoldExpiryCloses :
    let g : State := { room with gates := put room.gates 0 { state := .opened, counter := 1 } }
    let off : State := { g with live := { g.live with sec := put g.live.sec 0 { g.live.sec[0] with lastOn := false } } }
    let two : State := { g with gates := put g.gates 1 { state := .opened, counter := 2 } }
    let sounds : Nat → State → State := fun n s =>
      { s with links := put s.links 1 { s.links[1] with arrival := some { good := true, samples := same 48 (BitVec.ofNat 24 n) } } }
    let loud := sounds 1 { g with gates := put g.gates 1 { state := .opened, counter := 1 } }
    let talk := sounds 8000000 { g with audio := { g.audio with noise := same 26 100 } }
    (∀ s ∈ [g, off, two, loud, talk], s.held = false ∧ s.slotIn .gated (s.micPart 0) = true ∧ s.rg.noEval[s.micPart 0] = false ∧
      s.ahead.counts[s.micPart 0] = none ∧ 0 ∈ (s.nextView (s.micPart 0)).members ∧
      (s.gates[(0 : Fin 16)]).state = .opened ∧ (s.gates[(0 : Fin 16)]).counter ≤ 1 ∧ (s.nextView (s.micPart 0)).cand 0 = false ∧
      1 ≤ (s.nextView (s.micPart 0)).limit) ∧
    (off.nextView (off.micPart 0)).lastOn = false ∧
    (1 ∈ (two.nextView (two.micPart 0)).members ∧ (two.gates[(1 : Fin 16)]).state = .opened ∧ 1 < (two.gates[(1 : Fin 16)]).counter) ∧
    ((g.nextView (g.micPart 0)).lastOn = true ∧
      ∀ x ∈ (g.nextView (g.micPart 0)).members, (g.nextView (g.micPart 0)).cand x = false ∧ (x = 0 ∨ (g.gates[x]).state = .closed)) ∧
    ((after (.gateHoldExpiry 0) g).gates[(0 : Fin 16)]).state = .lastOn ∧
    (let v := loud.nextView (loud.micPart 0)
     1 ∈ v.members ∧ (loud.gates[(1 : Fin 16)]).state = .opened ∧ (loud.gates[(1 : Fin 16)]).counter ≤ 1 ∧ v.cand 1 = false ∧
       v.peak 0 < v.peak 1) ∧
    (1 ∈ (talk.nextView (talk.micPart 0)).members ∧ (talk.nextView (talk.micPart 0)).cand 1 = true) ∧
    (evaluated 1 g).ahead.counts[g.micPart 0] ≠ none ∧ ¬(two.gates[(1 : Fin 16)]).counter ≤ 1 ∧
    (let leaves := { talk with links := put talk.links 1 { talk.links[1] with handshake := .detach, hsTimer := 7 } }
     exec (.frameBoundary (same 3 .high) false) leaves = .next (after (.frameBoundary (same 3 .high) false) leaves) ∧
       talk.nextPeak 1 = 8000000 ∧ leaves.nextPeak 1 = 0 ∧ leaves.nextNoise 1 = 100) := by
  refine ⟨?_, ?_, ?_, ?_, ?_, ?_, ?_, ?_, ?_, exec_after _ _, ?_⟩ <;> decide +kernel

/-! ### Links -/

/-- Every state with every handshake, DOWN armed and not, ACTIVE refused DOZE and not, FAULT before and at its residency. -/
theorem witness_LinkRequestsByState : Ready room .a .config ∧ Ready room .b .config ∧
    ∀ st ∈ [LinkState.down, .training, .active, .doze, .retrain, .detached, .fault], ∀ h ∈ [Handshake.none, .doze, .detach],
    ∀ b ∈ [true, false], ∀ n ∈ [249, 250],
      let l := (withLink (fun l => { l with state := st, handshake := h, armed := b, dozeRefused := b, residency := n }) room).links[(0 : Fin 16)]
      l.state = st ∧ l.handshake = h ∧ l.armed = b ∧ l.dozeRefused = b ∧ l.residency = n :=
  ⟨ready_room _ _, ready_room _ _, by decide +kernel⟩

theorem witness_PodMessagesMoveTheLink :
    room.held = false ∧ (room.links[(0 : Fin 16)]).state.inUse = true ∧
    (let l := (withLink (fun l => { l with state := .training, lock := true }) room).links[(0 : Fin 16)]
     l.state = .training ∧ l.lock = true) ∧
    (let l := (withLink (fun l => { l with state := .retrain, lock := true }) room).links[(0 : Fin 16)]
     l.state = .retrain ∧ l.lock = true) ∧
    (let l := (withLink (fun l => { l with handshake := .doze }) room).links[(0 : Fin 16)]
     l.state = .active ∧ l.handshake = .doze) ∧
    (let l := (withLink (fun l => { l with state := .doze, handshake := .detach }) room).links[(0 : Fin 16)]
     l.state.inUse = true ∧ l.handshake = .detach ∧ l.state = .doze) ∧
    (∀ st ∈ [LinkState.down, .detached, .fault],
      let l := (withLink (fun l => { l with state := st }) room).links[(0 : Fin 16)]
      l.state.out = true ∧ l.state.inUse = false ∧ l.state ≠ .doze ∧ l.state ≠ .active) ∧
    (let l := (withLink (fun l => { l with state := .training }) room).links[(0 : Fin 16)]
     l.state = .training ∧ l.lock = false ∧ l.handshake ≠ .detach) := by decide +kernel

theorem witness_LinkTimersExpire :
    let rec' : (LinkRec → LinkRec) → LinkRec := fun f => (withLink f room).links[(0 : Fin 16)]
    room.held = false ∧
    (let l := rec' fun l => { l with badRun := 7 }
     l.wasActive = true ∧ l.state = .active ∧ l.goodFrame = false ∧ l.badRun = 7) ∧
    (∀ n ∈ [0, 1, 2], let l := rec' fun l => { l with state := .training, attemptTimer := 199, attemptCount := n }
     l.state.inTraining = true ∧ l.attemptTimer = 199 ∧ l.attemptFresh = false ∧ l.attemptCount = n) ∧
    (∀ h ∈ [Handshake.doze, .detach], let l := rec' fun l => { l with handshake := h, hsTimer := 7 }
     l.handshake = h ∧ l.hsTimer = 7 ∧ l.hsFresh = false) ∧
    (∀ q ∈ [LinkReq.up, .nop], let l := rec' fun l => { l with state := .fault, residency := 249, requested := q }
     l.state = .fault ∧ l.residency = 249 ∧ l.residencyFresh = false ∧ l.requested = q) ∧
    (let l := rec' fun l => { l with state := .down, armed := true, autoPending := true }
     l.state = .down ∧ l.autoPending = true ∧ l.autoWait = false ∧ l.armed = true) := by
  refine ⟨?_, ?_, ?_, ?_, ?_, ?_⟩ <;> decide +kernel

/-- The clauses of the boundary: each state, each timer one short and at its time, a good frame and none. -/
theorem witness_LinkTimersExpire_boundary :
    let rec' : (LinkRec → LinkRec) → LinkRec := fun f => (withLink f room).links[(0 : Fin 16)]
    (∃ t, exec (.frameBoundary (same 3 .high) false) room = .next t) ∧
    (∀ n ∈ [6, 7], let l := rec' fun l => { l with badRun := n }
     l.handshake = .none ∧ l.state = .active ∧ l.wasActive = true ∧ l.goodFrame = false ∧ l.badRun = n) ∧
    (let l := rec' fun l => { l with arrival := some { good := true, samples := silence } }
     l.state = .active ∧ l.wasActive = true ∧ l.goodFrame = true) ∧
    (∀ a ∈ [198, 199], ∀ n ∈ [1, 2], let l := rec' fun l => { l with state := .training, attemptTimer := a, attemptCount := n }
     l.handshake = .none ∧ l.state = .training ∧ l.attemptTimer = a ∧ l.attemptFresh = false ∧ l.attemptCount = n) ∧
    (∀ a ∈ [248, 249, 250], ∀ q ∈ [LinkReq.up, .nop], let l := rec' fun l => { l with state := .fault, residency := a, requested := q }
     l.handshake = .none ∧ l.state = .fault ∧ l.residency = a ∧ l.residencyFresh = false ∧ l.requested = q) ∧
    (∀ a ∈ [true, false], ∀ b ∈ [true, false], ∀ c ∈ [true, false],
     let l := rec' fun l => { l with state := .down, autoPending := a, autoWait := b, armed := c }
     l.handshake = .none ∧ l.state = .down ∧ l.autoPending = a ∧ l.autoWait = b ∧ l.armed = c) ∧
    (∀ h ∈ [Handshake.doze, .detach], let l := rec' fun l => { l with handshake := h, hsTimer := 7 }
     l.state = .active ∧ l.handshake = h ∧ l.hsTimer = 7 ∧ l.hsFresh = false ∧ l.badRun < 7) := by
  refine ⟨⟨_, exec_after _ _⟩, ?_, ?_, ?_, ?_, ?_, ?_⟩ <;> decide +kernel

/-- The 148 bytes of a frame of one word repeated, with a control slot. -/
def messageBody (slot : List Byte) : List Byte := (List.replicate 48 [(0x12 : Byte), 0x34, 0x56]).flatten ++ slot

theorem messageBody_frame (a b c d p q : Byte) :
    let x := messageBody [a, b, c, d] ++ [p, q]
    x.length = 150 ∧ x.take 148 = messageBody [a, b, c, d] ∧ x.getD 148 0 = p ∧ x.getD 149 0 = q ∧ (x.drop 144).take 4 = [a, b, c, d] :=
  ⟨rfl, rfl, rfl, rfl, rfl⟩

theorem bytes_join (c : BitVec 16) : c.extractLsb' 8 8 ++ c.extractLsb' 0 8 = c := by
  apply BitVec.eq_of_getLsbD_eq
  intro i hi
  rw [BitVec.getLsbD_append]
  by_cases h : i < 8
  · simp [h]
  · simp [h, show i - 8 < 8 by omega, show 8 + (i - 8) = i by omega]

theorem check_differs (c : BitVec 16) : c ≠ ~~~c := fun h => by
  have := congrArg (fun x => x.getLsbD 0) h
  simp at this

/-- Every control slot in a frame whose bytes carry the check of the 148 before it, and in one whose bytes do not: each message of
9.11 and each code or field outside it. -/
theorem witness_UpstreamFrameIsChecked : room.held = false ∧ ∀ a b c d : Byte,
    ∀ k ∈ [crc16 (messageBody [a, b, c, d]), ~~~crc16 (messageBody [a, b, c, d])],
    let x := messageBody [a, b, c, d] ++ [k.extractLsb' 8 8, k.extractLsb' 0 8]
    x.length = 150 ∧ (x.drop 144).take 4 = [a, b, c, d] ∧
    (crc16 (x.take 148) = x.getD 148 0 ++ x.getD 149 0 ↔ k = crc16 (messageBody [a, b, c, d])) := by
  refine ⟨by decide +kernel, fun a b c d k _ => ?_⟩
  obtain ⟨h1, h2, h3, h4, h5⟩ := messageBody_frame a b c d (k.extractLsb' 8 8) (k.extractLsb' 0 8)
  refine ⟨h1, h5, ?_⟩
  show crc16 (List.take 148 _) = List.getD _ 148 0 ++ List.getD _ 149 0 ↔ _
  rw [h2, h3, h4, bytes_join]
  exact eq_comm

theorem witness_LinkEventsFrame : ∃ t, exec (.faultReport 0 9) room = .next t := ⟨_, exec_after _ _⟩

/-! ### Ports -/

/-- A class not allowed; and, allowed, an operand out of range in each clause, and a mode that is not CHAIRED. -/
theorem witness_RefusedRequestsChangeNothing :
    (portRequest (.clear .b) = some (.b, .clear) ∧ State.reset.held = false ∧
      allows (State.reset.port .b).profile Request.clear.reqClass = false) ∧
    (∀ c ∈ [Instr.select .a 7 0 0, .select .a 0 3 0, .select .a 0 0 676, .select .a 0x14 1 0, .mask .a 67108864, .wall .a 3 .follow,
        .hold .a (.source 26), .free .a (.partition 4), .dismiss .a (.source 16), .gmute .a 8, .quiet .a 1 true, .quiet .a 4 true,
        .ask .a 16, .grantNext .a 1, .clearQ .a 4, .linkUp .a 16, .load .a 32 0, .store .a 2 0, .capture .a 2, .erase .a 32,
        .ask .a 15, .clearQ .a 0],
      (portRequest c).any (fun x => allows (room.port x.1).profile x.2.reqClass) = true) ∧
    tableOf 7 = none ∧ viewOf 3 = none ∧ (tableOf 0 = some .crosspoint ∧ entryCount .crosspoint ≤ 676) ∧
    (tableOf 0x14 = some .meters ∧ isStatus .meters = true) ∧ room.targetSet (.source 26) = none ∧
    room.targetSet (.partition 4) = none ∧ isLead room.rg.map 1 = false ∧ room.mode (room.micPart 15) ≠ .chaired ∧
    isLead room.rg.map 0 = true ∧ room.mode 0 ≠ .chaired := by
  refine ⟨?_, ?_, ?_⟩ <;> decide +kernel

/-- A configuration entry in LIVE, in a buffer, and a status entry; an entry with content, and an EMPTY buffer's; a buffer that
is not; the follow entry, its content changed and not. -/
theorem witness_SelectAndShow :
    room.held = false ∧ 675 < entryCount .crosspoint ∧ isStatus .crosspoint = false ∧ viewOf 2 = some (.sb 1) ∧
    51 < entryCount .meters ∧ viewOf 0 = some .live ∧
    (room.entryAt (room.port .b).cursor).isSome = true ∧ (room.entryAt { table := .wall, view := .sb 0, index := 2 }).isSome = false ∧
    (room.scene.bufs[(0 : Fin 2)]).status = .empty ∧ ((withBuf captured room).scene.bufs[(0 : Fin 2)]).status ≠ .empty ∧
    (∀ sent ∈ [room.entryAt { table := .wall, view := .live, index := 2 }, none],
      let s := { room with lineA := { room.lineA with
        follow := true, followEntry := some { cursor := { table := .wall, view := .live, index := 2 }, sent := sent } } }
      s.held = false ∧ s.lineA.follow = true ∧
      ((after (.frameBoundary (same 3 .high) false) s).entryAt { table := .wall, view := .live, index := 2 } = sent ↔ sent ≠ none)) ∧
    (let c := { room with lineA := { room.lineA with follow := true } }
     c.lineA.follow = true) ∧
    (∀ x ∈ [none, some factoryPowerOn], let s := withBuf { captured with powerOn := x } room
     (s.scene.bufs[(0 : Fin 2)]).powerOn = x ∧ (s.scene.bufs[(0 : Fin 2)]).status ≠ .empty) := by
  decide +kernel

/-- R142, R163: an identity, a fault code and a power-on record that are present stand in their entries. -/
theorem test_entries_present :
    let pod : PodIdentity := { kind := 7, buttons := #v[true, false, true], slide := .engaged }
    let l := withLink (fun l => { l with identity := some pod, faultCode := some 9 }) room
    let b := withBuf { captured with powerOn := some factoryPowerOn, label := #v[1, 2, 3, 4] } room
    ((l.entryAt { table := .link, view := .live, index := 0 }).map (List.drop 16)) = some [7, 5, 2, 9] ∧
    b.entryAt { table := .device, view := .sb 0, index := 0 } = some [0, 2, 0, 2, 2, 0, 0, 0, 65535, 1, 2, 3, 4] := by
  decide +kernel

/-- Each form at the cursor, each outcome of a LIVE entry, and each of a buffer's. -/
theorem witness_EnterByTheEntryAtTheCursor :
    (∀ s ∈ [room, at' .holds .live 0 room, at' .meters .live 51 room], s.held = false ∧ allows (s.port .a).profile .config = true) ∧
    readForm room { table := .source, view := .live, index := 0 } [1, 4, 0] = none ∧
    readForm room { table := .grant, view := .live, index := 0 } [0, 0, 0] = some (.readOnly, false) ∧
    readForm room { table := .meters, view := .live, index := 51 } [5, 0] = some (.clip 0, false) ∧
    readForm room { table := .meters, view := .live, index := 0 } [5, 1] = some (.clip 1, false) ∧
    (room.port .a).keep = none ∧ room.rg.applyMark = none ∧ (room.port .a).batch = none ∧ applying.rg.applyMark.isSome = true ∧
    (readForm room { table := .crosspoint, view := .live, index := 675 } [65536] = some (.entry (.xpt 675 65535), true) ∧
      excluded 675 = false ∧ (Entry.xpt 675 65535).isCause room.live = false ∧ excluded 27 = true ∧
      (Entry.xpt 675 65535).key ≠ (Entry.xpt 1 5).key ∧ ((opened [.xpt 1 5] room).port .a).batch = some { entries := [.xpt 1 5], idle := 7 } ∧
      (List.replicate 64 (Entry.xpt 1 5)).all (fun y => decide (y.key ≠ (Entry.xpt 675 65535).key)) = true) ∧
    (readForm room { table := .wall, view := .sb 0, index := 2 } [1, 0, 0, 0]).isSome = true ∧
    ((room.scene.bufs[(0 : Fin 2)]).lock = .free ∧ (room.scene.bufs[(0 : Fin 2)]).status = .empty) ∧
    (((withBuf captured room).scene.bufs[(0 : Fin 2)]).lock = .free ∧ ((withBuf captured room).scene.bufs[(0 : Fin 2)]).status ≠ .empty) ∧
    ((working .store false).scene.bufs[(0 : Fin 2)]).lock ≠ .free := by
  refine ⟨?_, ?_, ?_, ?_, ?_, ?_, ?_, ?_, ?_, ?_, ?_, ?_, ?_, ?_⟩ <;> decide +kernel

/-- Forms of the buffer device entry and of the status tables; a cause, with and without a change of the port pending; a
position already in the batch; an excluded position of a buffer. -/
theorem witness_EnterByTheEntryAtTheCursor_more :
    (∀ ops ∈ [[1, 4, 0, 0, 0, 9], [1, 4, 0, 1, 0, 1, 0, 1, 65535, 0, 0, 0, 9]],
      (readForm (withBuf captured room) { table := .device, view := .sb 0, index := 0 } ops).isSome = true) ∧
    (withBuf captured room).scene.bufs[0].powerOn = none ∧
    (let s := withBuf { captured with powerOn := some factoryPowerOn } room
     (readForm s { table := .device, view := .sb 0, index := 0 } [1, 4, 0, 0, 0, 9]) = none ∧
     (readForm s { table := .device, view := .sb 0, index := 0 } [1, 4, 0, 1, 0, 1, 0, 1, 65535, 0, 0, 0, 9]).isSome = true ∧
     (readForm s { table := .device, view := .sb 0, index := 0 } [1, 4, 0, 1, 0, 1, 0, 1, 65536, 0, 0, 0, 9]) = none) ∧
    ((room.entryAt { table := .link, view := .live, index := 15 }).isSome = true ∧
      room.entryAt { table := .queue, view := .live, index := 63 } = none ∧
      readForm room { table := .queue, view := .live, index := 63 } [0] = none) ∧
    (readForm room { table := .source, view := .live, index := 15 } [0, 3, 1] =
        some (.entry (.src 15 { trim := 0, sect := 3, chair := true }), false) ∧
      (Entry.src 15 { trim := 0, sect := 3, chair := true }).isCause room.live = true ∧
      fading.rg.applyMark = none ∧ fading.rg.changes.any (fun y => decide (y.port = .a)) = true ∧
      fading.rg.changes.any (fun y => decide (y.port = .b)) = false) ∧
    (Entry.xpt 1 5).key = (Entry.xpt 1 9).key ∧
    (readForm (withBuf captured room) { table := .crosspoint, view := .sb 0, index := 27 } [5] = some (.entry (.xpt 27 5), false) ∧
      excluded 27 = true) := by
  refine ⟨?_, ?_, ?_, ?_, ?_, ?_, ?_⟩ <;> decide +kernel

/-- A set in range and one beyond it, a request other than MASK; a keep-set met in LIVE under the apply mark, without a batch, with
the group pending in the batch, with a batch of 63 and of 64 other entries; and in a buffer's view, locked, EMPTY and loaded. -/
theorem witness_KeepSetGovernsTheNextEnter :
    let meets : View → State → State := fun v s =>
      at' .group v 7 { s with portA := { s.portA with keep := some (same 26 true) } }
    let holds : State → View → Prop := fun s v => allows (s.port .a).profile .config = true ∧ s.held = false ∧
      (s.port .a).keep = some (same 26 true) ∧ (s.port .a).cursor = { table := .group, view := v, index := (7 : Fin 8).val }
    Ready room .a .config ∧ (67108863 < 2 ^ 26 ∧ 2 ^ 26 ≤ 67108864) ∧
    (portRequest (.showEntry .a) = some (.a, .showEntry) ∧ ∀ n, Request.showEntry ≠ .mask n) ∧
    (∀ s ∈ [room, applying, opened [.xpt 1 5, .grp 7 (same 26 false)] room, opened (List.replicate 63 (.xpt 1 5)) room,
        opened (List.replicate 64 (.xpt 1 5)) room], holds (meets .live s) .live) ∧
    (∀ s ∈ [room, working .store false, withBuf captured room], holds (meets (.sb 0) s) (.sb 0)) ∧
    ((meets .live room).rg.applyMark = none ∧ ((meets .live room).port .a).batch = none) ∧
    (meets .live applying).rg.applyMark.isSome = true ∧
    (((meets .live (opened [.xpt 1 5, .grp 7 (same 26 false)] room)).port .a).batch =
        some { entries := [.xpt 1 5, .grp 7 (same 26 false)], idle := 7 } ∧ (Entry.grp 7 (same 26 false)).key = (.group, 7)) ∧
    ((Entry.xpt 1 5).key ≠ (.group, 7) ∧
      ((meets .live (opened (List.replicate 64 (.xpt 1 5)) room)).port .a).batch = some { entries := List.replicate 64 (.xpt 1 5), idle := 7 }) ∧
    (((meets (.sb 0) (working .store false)).scene.bufs[(0 : Fin 2)]).lock ≠ .free ∧
      (let b := (meets (.sb 0) room).scene.bufs[(0 : Fin 2)]; b.lock = .free ∧ b.status = .empty) ∧
      (let b := (meets (.sb 0) (withBuf captured room)).scene.bufs[(0 : Fin 2)]; b.lock = .free ∧ b.status ≠ .empty)) := by
  refine ⟨ready_room _ _, by decide, ⟨rfl, fun n => by simp⟩, ?_, ?_, ?_, ?_, ?_, ?_, ?_⟩ <;> decide +kernel

/-- The apply mark; a change already pending; none; a batch open with 63 entries, with 64, and with the wall in it. -/
theorem witness_WallWaitsForASwitch :
    Ready applying .a .config ∧ applying.rg.applyMark.isSome = true ∧
    (Ready fading .a .config ∧ (fading.port .a).batch = none ∧ fading.rg.changes.any (fun c => decide (c.port = .a)) = true) ∧
    (Ready room .b .config ∧ room.rg.applyMark = none ∧ (room.port .b).batch = none ∧
      room.rg.changes.any (fun c => decide (c.port = .b)) = false) ∧
    (Ready (opened (List.replicate 63 (.xpt 1 5)) room) .a .config ∧
      (List.replicate 63 (Entry.xpt 1 5)).all (fun y => decide (y.key ≠ (.wall, 2))) = true ∧
      (List.replicate 63 (Entry.xpt 1 5)).length < 64) ∧
    (Ready (opened (List.replicate 64 (.xpt 1 5)) room) .a .config ∧ 64 ≤ (List.replicate 64 (Entry.xpt 1 5)).length) ∧
    (Ready (opened [.wall 2 .opened] room) .a .config ∧ ∃ y ∈ [Entry.wall 2 .opened], y.key = (.wall, 2)) :=
  ⟨ready_of (by decide +kernel), by decide +kernel, ⟨ready_of (by decide +kernel), by decide +kernel⟩,
    ⟨ready_room _ _, by decide +kernel⟩, ⟨ready_of (by decide +kernel), by decide +kernel⟩,
    ⟨ready_of (by decide +kernel), by decide⟩, ready_of (by decide +kernel), by decide⟩

/-- No batch; a batch that needs no switch; one that does, with and without a change pending; the apply mark. -/
theorem witness_BatchRequestsMoveTheBatch :
    (Ready room .a .config ∧ (room.port .a).batch = none) ∧
    (Ready (opened [.xpt 1 5] room) .a .config ∧ (opened [.xpt 1 5] room).rg.applyMark = none ∧
      [Entry.xpt 1 5].any (Entry.isCause (opened [.xpt 1 5] room).live) = false) ∧
    (∀ s ∈ [opened [.wall 0 .opened] room, opened [.wall 0 .opened] fading],
      s.held = false ∧ allows (s.port .a).profile .config = true ∧ s.rg.applyMark = none ∧
      [Entry.wall 0 .opened].any (Entry.isCause s.live) = true) ∧
    (opened [.wall 0 .opened] room).rg.changes.any (fun c => decide (c.port = .a)) = false ∧
    (opened [.wall 0 .opened] fading).rg.changes.any (fun c => decide (c.port = .a)) = true ∧
    (Ready (opened [.xpt 1 5] applying) .a .config ∧ (opened [.xpt 1 5] applying).rg.applyMark.isSome = true) :=
  ⟨⟨ready_room _ _, by decide +kernel⟩, ⟨ready_of (by decide +kernel), by decide +kernel⟩, by decide +kernel, by decide +kernel,
    by decide +kernel, ready_of (by decide +kernel), by decide +kernel⟩

/-- A batch closed by COMMIT that changes a section's mode, with targets derived; an idle count of 1999. -/
theorem witness_BatchesAreAppliedOrAbandoned :
    (let b : Batch := { entries := [.sec 0 { factorySection with mode := .chaired }], byCommit := true }
     let s := retarget room { room with portA := { room.portA with committed := [b] } }
     s.held = false ∧ TargetsDerived s ∧ (s.port .a).committed = [b] ∧ b.byCommit = true ∧
     s.mode 0 ≠ (after (.batchApplication .a) s).mode 0 ∧ s.mode ((after (.batchApplication .a) s).micPart 0) ≠ (after (.batchApplication .a) s).mode ((after (.batchApplication .a) s).micPart 0)) ∧
    (let s := { room with portB := { room.portB with batch := some { entries := [], idle := 1999 } } }
     s.held = false ∧ ∃ ob, (s.port .b).batch = some ob ∧ ob.idle = 1999) ∧
    (∃ ob, ((opened [.dev 1 2] room).port .a).batch = some ob ∧ ob.idle < 1999) ∧ room.rg.state ≠ .fadingOut :=
  ⟨⟨by decide +kernel, retarget_derived _ _, by decide +kernel, rfl, by decide +kernel, by decide +kernel⟩,
    ⟨by decide +kernel, _, rfl, rfl⟩, ⟨_, rfl, by decide⟩, by decide +kernel⟩

/-- A profile that takes nothing more, and one that would. -/
theorem witness_ProfileNoticesAndFlags :
    room.held = false ∧ (∀ c, allows .conference c = true → allows (room.port .a).profile c = true) ∧
    (∃ c, allows .full c = true ∧ allows (State.reset.port .b).profile c = false) :=
  ⟨by decide +kernel, by intro c; cases c <;> decide +kernel, .config, by decide, by decide +kernel⟩

/-- While a response waits, with the buffer short of its end and at it; while none waits, with the line short of 80 and at it;
and a line of each kind. -/
theorem witness_PortACharactersAndLines :
    (∀ n ∈ [127, 128], let s := { room with lineA := { room.lineA with
        responses := [.response .ok []], sending := some .overflow, rx := List.replicate n 0x41 } }
      s.held = false ∧ s.lineA.responses ≠ [] ∧ s.lineA.sending.isSome = true ∧ s.lineA.rx.length = n ∧ s.lineA.echo = room.lineA.echo) ∧
    (∀ n ∈ [79, 80], let s := { room with lineA := { room.lineA with buf := List.replicate n 0x41 } }
      s.lineA.responses = [] ∧ s.lineA.rx = [] ∧ s.lineA.buf.length = n) ∧
    ((0x7A : Byte) ≠ 0x0D ∧ (0x7A : Byte) ≠ 0x0A ∧ (0x7B : Byte) ≠ 0x0D) ∧
    ((withText [' '] room).lineA.rx = [0x0D] ∧ (withText [' '] room).lineA.responses = [] ∧ (withText [' '] room).lineA.long = false ∧
      (withText [' '] room).lineA.overrun = false ∧ splitWords (withText [' '] room).lineA.buf [] = []) ∧
    (splitWords (text ['X', 'X']) [] = [text ['X', 'X']] ∧ requestOfText (text ['X', 'X']) = none) ∧
    (splitWords (text ['H', 'O', 'L', 'D', ' ', '0', ' ', 'F']) [] = [text ['H', 'O', 'L', 'D'], text ['0'], text ['F']] ∧
      requestOfText (text ['H', 'O', 'L', 'D']) = some .hold ∧ wordOperands [text ['0'], text ['F']] = some [0, 15] ∧
      readRequest .hold [0, 15] = some (.hold (.source 15)) ∧ Request.hold (.source 15) ≠ .clear) ∧
    (let s := { room with lineA := { room.lineA with sending := some .overflow } }
     s.lineA.sending = some .overflow) := by
  refine ⟨?_, ?_, ?_, ?_, ?_, ?_, ?_⟩ <;> decide +kernel

/-- ECHO on, while a line is sent and while none is; a line feed and a carriage return; the mark OVERRUN and a line too long; a
line of a wrong operand count, under a profile that has its class and one that has not; a CLEAR line. -/
theorem witness_PortACharactersAndLines_more :
    (∀ x ∈ [none, some TxLine.overflow], let s := { room with lineA := { room.lineA with
        echo := true, responses := [.response .ok []], sending := x, rx := List.replicate 127 0x41 } }
      s.lineA.echo = true ∧ s.lineA.rx.length < 128 ∧ s.lineA.sending = x) ∧
    (∀ ch ∈ [(0x0A : Byte), 0x0D], exec (.portACharacterReceived ch) room = .next (after (.portACharacterReceived ch) room)) ∧
    (let s := { withText ['X'] room with lineA := { (withText ['X'] room).lineA with overrun := true } }
     s.lineA.rx = [0x0D] ∧ s.lineA.responses = [] ∧ s.lineA.overrun = true) ∧
    (let s := { withText ['X'] room with lineA := { (withText ['X'] room).lineA with long := true } }
     s.lineA.overrun = false ∧ s.lineA.long = true) ∧
    (splitWords (text ['F', 'R', 'E', 'E', ' ', '0']) [] = [text ['F', 'R', 'E', 'E'], text ['0']] ∧
      requestOfText (text ['F', 'R', 'E', 'E']) = some .free ∧ wordOperands [text ['0']] = some [0] ∧ readRequest .free [0] = none ∧
      allows room.portA.profile (wireClass .free [0]) = true ∧ allows .observe (wireClass .free [0]) = false) ∧
    (splitWords (text ['C', 'L', 'E', 'A', 'R']) [] = [text ['C', 'L', 'E', 'A', 'R']] ∧
      requestOfText (text ['C', 'L', 'E', 'A', 'R']) = some .clear ∧ readRequest .clear [] = some .clear) ∧
    (room.lineA.rx.head? ≠ some 0x0D ∧ room.lineA.sending = none) := by
  refine ⟨?_, fun ch _ => exec_after _ _, ?_, ?_, ?_, ?_, ?_⟩ <;> decide +kernel

/-- While no response waits and a line stands whole in the receive buffer: with room behind it, and with none; and characters that
move with it still open. -/
theorem witness_PortACharactersAndLines_whole :
    (∀ n ∈ [126, 127], let s := { room with lineA := { room.lineA with rx := 0x0D :: List.replicate n 0x41 } }
      s.lineA.responses = [] ∧ s.lineA.rx.head? = some 0x0D ∧ s.lineA.rx.length = n + 1 ∧
      exec (.portACharacterReceived 0x42) s = .next (after (.portACharacterReceived 0x42) s)) ∧
    (let s := { room with lineA := { room.lineA with rx := [0x61, 0x0A, 0x62, 0x0D, 0x63] } }
     (settleLine s).lineA.responses = [] ∧ (settleLine s).lineA.buf = [0x41, 0x42] ∧ (settleLine s).lineA.rx = [0x0D, 0x63]) :=
  ⟨fun n h => ⟨rfl, rfl, by simp, exec_after _ _⟩, by decide +kernel⟩

/-- A transmitter that is busy, one behind an open echoed line, and one that is free with a response, a follow line, OVERFLOW, a
notice and nothing ready. -/
theorem witness_PortACharactersAndLines_starts :
    let free : State := { room with lineA := { room.lineA with autoReport := true }
                                    portA := { room.portA with queue := [.sync .lost], overflow := true } }
    let follow : State := { free with lineA := { free.lineA with
      followReady := true, followEntry := some { cursor := { table := .meters, view := .live, index := 3 }, sent := none } } }
    (∀ s ∈ [free, follow], s.lineA.sending = none ∧ s.lineA.echoOpen = false ∧ s.lineA.responses = []) ∧
    (settleLine free).lineA.sending = some .overflow ∧
    (settleLine follow).lineA.sending = some (.follow .meters 3 (some [0, 0])) ∧
    (settleLine { follow with lineA := { follow.lineA with responses := [.response .ok [], .response .empty []] } }).lineA.sending
      = some (.response .ok []) ∧
    (settleLine { free with portA := { free.portA with overflow := false } }).lineA.sending = some (.notice (.sync .lost)) ∧
    (settleLine { free with lineA := { free.lineA with echoOpen := true } }).lineA.sending = none ∧
    (settleLine room).lineA.sending = none ∧ (∀ c, c = Instr.portALineSent → c ≠ .resetAsserted) := by
  refine ⟨?_, ?_, ?_, ?_, ?_, ?_, ?_, fun c h => h ▸ nofun⟩ <;> decide +kernel

/-- A record of one byte, one byte short, one byte long, of three operand bytes, of an unknown code, and a whole HOLD. -/
theorem witness_PortBTransactions :
    room.held = false ∧ (0x68 : Fin 128).val = 0x68 + room.pins.address.val ∧
    ([(0 : Byte)].length < BitVec.toNat (2 : Byte)) ∧ (BitVec.toNat (0 : Byte) < [(0 : Byte)].length) ∧
    (BitVec.toNat (3 : Byte) = [(0 : Byte), 0, 0].length ∧ [(0 : Byte), 0, 0].length % 4 ≠ 0) ∧
    (BitVec.toNat (0 : Byte) = ([] : List Byte).length ∧ requestOfCode 0xFF = none) ∧
    (let ops : List Byte := [0, 0, 0, 0, 0, 0, 0, 25]
     BitVec.toNat (8 : Byte) = ops.length ∧ ops.length % 4 = 0 ∧ requestOfCode 0x10 = some .hold ∧ ReqName.hold ≠ .flags ∧
     readRequest .hold (recordOperands (ops.length / 4) ops) = some (.hold (.source 25)) ∧ Request.hold (.source 25) ≠ .clear) := by
  refine ⟨?_, ?_, ?_, ?_, ?_, ?_, ?_⟩ <;> decide +kernel

/-- Another address; FLAGS; a CLEAR; a wrong operand count; a cursor at a page header; a response that is none. -/
theorem witness_PortBTransactions_more :
    (0x69 : Fin 128).val ≠ 0x68 + room.pins.address.val ∧ requestOfCode 0x09 = some .flags ∧
    (readRequest .clear (recordOperands 0 []) = some .clear ∧ requestOfCode (requestCode .clear) = some .clear) ∧
    readRequest .hold (recordOperands 1 [0, 0, 0, 1]) = none ∧ room.recB.header = false ∧
    { room.portB with cursor := { table := .pages, view := .live, index := 31 } }.cursor
      = { table := .pages, view := .live, index := (31 : Fin 32).val } := by
  refine ⟨?_, ?_, ?_, ?_, ?_, ?_⟩ <;> decide +kernel

/-! ### Scenes -/

/-- The buffer free and EMPTY, CAPTURED and MODIFIED, and locked; the engine idle and busy; the page valid and not; the
regroup machine in STEADY and not. -/
theorem witness_SceneRequestsAreTaken :
    let modified := withBuf { captured with status := .modified } (withPage room)
    (∀ p k, Ready room p k) ∧ (∀ p k, Ready modified p k) ∧ (∀ p k, Ready (working .load false) p k) ∧
    ((working .load false).scene.bufs[(0 : Fin 2)]).lock ≠ .free ∧ (working .load false).scene.job.isSome = true ∧
    ((working .load false).scene.bufs[(1 : Fin 2)]).lock = .free ∧
    ((room.scene.bufs[(0 : Fin 2)]).lock = .free ∧ room.scene.job = none ∧ (room.scene.pages[(31 : Fin 32)]).mark = false ∧
      (room.scene.bufs[(0 : Fin 2)]).status = .empty) ∧
    ((modified.scene.bufs[(0 : Fin 2)]).lock = .free ∧ modified.scene.job = none ∧ (modified.scene.pages[(0 : Fin 32)]).mark = true ∧
      (modified.scene.pages[(31 : Fin 32)]).mark = false ∧
      (modified.scene.bufs[(0 : Fin 2)]).status = .modified ∧ modified.rg.state = .steady) ∧
    (let s := withBuf captured fading
     (s.scene.bufs[(0 : Fin 2)]).lock = .free ∧ (s.scene.bufs[(0 : Fin 2)]).status ≠ .empty ∧
     (s.scene.bufs[(0 : Fin 2)]).status ≠ .modified ∧ s.rg.state ≠ .steady) ∧
    (let s := withBuf { captured with status := .modified } ((withPage room).setJob (some (job .erase false)))
     (s.scene.bufs[(0 : Fin 2)]).lock = .free ∧ (s.scene.bufs[(0 : Fin 2)]).status = .modified ∧ s.scene.job.isSome = true) := by
  refine ⟨ready_room, ?_, ?_, ?_, ?_, ?_, ?_, ?_, ?_, ?_⟩
  · intro p k; cases p <;> cases k <;> exact ready_of (by decide +kernel)
  · intro p k; cases p <;> cases k <;> exact ready_of (by decide +kernel)
  all_goals decide +kernel

/-- A STORE to page 0 of a buffer loaded from it with a record, of one that was not over a valid page and over none. -/
theorem witness_SceneRequestsAreTaken_powerOn :
    (let x : Buffer := { captured with source := some 0, powerOn := some factoryPowerOn }
     x.source = some 0 ∧ ∃ r, x.powerOn = some r) ∧
    (captured.source ≠ some 0 ∧ (room.scene.pages[(0 : Fin 32)]).mark = false) ∧
    ∃ r, ((withPage room).scene.pages[(0 : Fin 32)]).contents.powerOn = some r ∧ ((withPage room).scene.pages[(0 : Fin 32)]).mark = true := by
  refine ⟨⟨rfl, _, rfl⟩, by decide +kernel, { factoryPowerOn with profileB := .config }, ?_⟩
  rw [withPage_page]
  exact ⟨rfl, rfl⟩

/-- Each operation in flight on a page whose check matches, before and after its erase stage; and a capture. -/
theorem witness_SceneOperationsComplete :
    (((after (.capture .a 0) room).scene.bufs[(0 : Fin 2)]).lock = .capture ∧ (after (.capture .a 0) room).held = false) ∧
    (∀ op e, (working op e).held = false ∧ (working op e).scene.job = some (job op e) ∧ (job op e).op = op ∧ (job op e).erased = e ∧
      (op ≠ .erase → (job op e).buffer = some 0) ∧ (op = .erase → (job op e).buffer = none) ∧
      (let g := (working op e).scene.pages[(job op e).page]
       g.check = g.contents.check)) := by
  refine ⟨by decide +kernel, fun op e => ⟨?_, rfl, rfl, rfl, ?_, ?_, ?_⟩⟩
  · cases op <;> cases e <;> decide +kernel
  · cases op <;> simp [job]
  · cases op <;> simp [job]
  · have h : (working op e).scene.pages[(job op e).page] = goodPage contents := put_same _ _ _
    rw [h]; rfl

/-- A page whose check does not match; no job; a dirty device position; the boundary's own capture. -/
theorem witness_SceneOperationsComplete_more :
    (let c := { goodPage contents with check := ~~~(goodPage contents).check }
     c.check ≠ c.contents.check) ∧
    (room.held = false ∧ room.scene.job = none) ∧ (∀ k ∈ [(TableId.device, 0), (.crosspoint, 5)], k.1 = .device → k.2 = 0) ∧
    ((after (.capture .a 0) room).rg.applyMark ≠ some 0) := by
  exact ⟨fun h => check_differs _ h.symm, by decide +kernel, by decide, by decide +kernel⟩

theorem witness_RequestsKeepTheirFrames : ∃ t, portRequest (.hold .a .allMics) = some (.a, .hold .allMics) ∧
    exec (.hold .a .allMics) room = .next t ∧ (Request.hold .allMics = .hold .allMics) :=
  ⟨_, rfl, exec_after _ _, rfl⟩

end Sys2Proof.Tests
end

section
/-! SUPPORT. The sample period: what it computes, what it takes in and sends out, and what it leaves (chapter 1, chapter 3). -/

namespace Sys2Proof.Machine
open Host

/-! ## Commands out of reset -/

/-- A command's next state, out of reset. -/
theorem eq_of_running {f : State → State} {s t : State} (hh : s.held = false) (h : running f s = .next t) :
    t = settleLine (f s) := by
  rw [running_next f s hh] at h
  exact (Outcome.next.inj h).symm

/-- A command's next state in reset. -/
theorem eq_of_running_held {f : State → State} {s t : State} (hh : s.held = true) (h : running f s = .next t) : t = s := by
  rw [running_held f s hh] at h
  exact (Outcome.next.inj h).symm

theorem startLine_frame (s : State) : startLine s = { s with lineA := (startLine s).lineA } := by
  unfold startLine
  split
  · rfl
  · cases s.nextLine <;> rfl

theorem moveReceived_frame (s : State) : moveReceived s = { s with lineA := (moveReceived s).lineA } := by
  unfold moveReceived
  split <;> rfl

/-- Port A's line work moves nothing but Port A's line (R154, R155). -/
theorem settleLine_frame (s : State) : settleLine s = { s with lineA := (settleLine s).lineA } := by
  have h := moveReceived_frame (startLine s)
  rw [startLine_frame s] at h
  unfold settleLine
  rw [startLine_frame s, h]

/-! ## A sample period, block by block (R36) -/

theorem samplePeriod_of_none {s : State} (h : s.mix.snap = none) (tdm : Vector SlotWord 8) (chan : Vector SlotWord 2) :
    samplePeriod tdm chan s = portPeriod tdm chan s := by simp [samplePeriod, h]

theorem samplePeriod_of_some {s : State} {k : Snapshot} (h : s.mix.snap = some k) (tdm : Vector SlotWord 8)
    (chan : Vector SlotWord 2) :
    samplePeriod tdm chan s = portPeriod tdm chan (computePeriod k s.period (stepEnvelopes s)) := by simp [samplePeriod, h]

/-- The bus stage depends on the envelopes, the bus ramps and the input frames of the contributing sources alone (R41). -/
theorem busStage_congr {s t : State} (k : Snapshot) (j : Fin 48) (b : Fin 26) (he : t.env = s.env) (hr : t.rg = s.rg)
    (hi : ∀ i : Fin 26, contributes k.map k.srcSect k.busSect b i = true → t.audio.input[i] = s.audio.input[i]) :
    t.busStage k j b = s.busStage k j b := by
  have hacc : accumulate k (t.stageValues k j) b = accumulate k (s.stageValues k j) b := by
    refine congrArg List.sum (List.map_congr_left fun i hm => ?_)
    have hin := hi i (List.mem_filter.1 hm).2
    simp only [State.stageValues, tab_get, State.sourceStage, hin, he]
  rw [State.busStage, State.busStage, hacc, hr]

@[simp] theorem portPeriod_computed (tdm : Vector SlotWord 8) (chan : Vector SlotWord 2) (s : State) :
    (portPeriod tdm chan s).audio.computed = s.audio.computed := by simp only [portPeriod]
@[simp] theorem portPeriod_mix (tdm : Vector SlotWord 8) (chan : Vector SlotWord 2) (s : State) :
    (portPeriod tdm chan s).mix = s.mix := by simp only [portPeriod]

theorem computePeriod_computed (k : Snapshot) (j : Fin 48) (s : State) (b : Fin 26) :
    (computePeriod k j s).audio.computed[b] = put s.audio.computed[b] j (saturate (s.busStage k j b)) := by
  simp only [computePeriod, tab_get]

theorem computePeriod_busClip (k : Snapshot) (j : Fin 48) (s : State) (b : Fin 26) :
    (computePeriod k j s).mix.busClip[b] =
      if outOfRange (s.busStage k j b) then countUp Config.maxCount s.mix.busClip[b] else s.mix.busClip[b] := by
  simp only [computePeriod, tab_get]

@[simp] theorem stepEnvelopes_audio (s : State) : (stepEnvelopes s).audio = s.audio := by simp only [stepEnvelopes]
@[simp] theorem stepEnvelopes_mix (s : State) : (stepEnvelopes s).mix = s.mix := by simp only [stepEnvelopes]

/-- What a sample period under a snapshot leaves of bus `b`: its computed samples and its clip count (R44, R51). -/
theorem samplePeriod_bus {s : State} {k : Snapshot} (h : s.mix.snap = some k) (tdm : Vector SlotWord 8)
    (chan : Vector SlotWord 2) (b : Fin 26) :
    let z := (stepEnvelopes s).busStage k s.period b
    (samplePeriod tdm chan s).audio.computed[b] = put s.audio.computed[b] s.period (saturate z)
    ∧ (samplePeriod tdm chan s).mix.busClip[b]
        = if outOfRange z then countUp Config.maxCount s.mix.busClip[b] else s.mix.busClip[b] := by
  rw [samplePeriod_of_some h, portPeriod_computed, portPeriod_mix, computePeriod_computed, computePeriod_busClip,
    stepEnvelopes_audio, stepEnvelopes_mix]
  exact ⟨rfl, rfl⟩

/-- The state with another input frame for one source. -/
def State.withInput (s : State) (i : Fin 26) (f : Frame) : State :=
  { s with audio := { s.audio with input := s.audio.input.set i.val f } }

/-- A bus hears nothing of a source that does not contribute to it (R41). -/
theorem samplePeriod_bus_ignores (tdm : Vector SlotWord 8) (chan : Vector SlotWord 2) (s : State) (k : Snapshot) (b i : Fin 26)
    (f : Frame) (hk : s.mix.snap = some k) (hc : contributes k.map k.srcSect k.busSect b i = false) :
    (samplePeriod tdm chan (s.withInput i f)).audio.computed[b] = (samplePeriod tdm chan s).audio.computed[b]
    ∧ (samplePeriod tdm chan (s.withInput i f)).mix.busClip[b] = (samplePeriod tdm chan s).mix.busClip[b] := by
  have hin (x : Fin 26) (hx : contributes k.map k.srcSect k.busSect b x = true) :
      (s.withInput i f).audio.input[x] = s.audio.input[x] :=
    put_other s.audio.input i x f fun hxi => by simp [hxi, hc] at hx
  have hstage : (stepEnvelopes (s.withInput i f)).busStage k s.period b = (stepEnvelopes s).busStage k s.period b :=
    busStage_congr k s.period b (by simp only [stepEnvelopes, State.withInput]) (by simp only [stepEnvelopes, State.withInput]) fun x hx => by
      simpa only [stepEnvelopes_audio] using hin x hx
  obtain ⟨h1, h2⟩ := samplePeriod_bus (s := s.withInput i f) hk tdm chan b
  obtain ⟨g1, g2⟩ := samplePeriod_bus hk tdm chan b
  have hper : (s.withInput i f).period = s.period := rfl
  have hcomp : (s.withInput i f).audio.computed = s.audio.computed := rfl
  have hmix : (s.withInput i f).mix = s.mix := rfl
  rw [h1, h2, g1, g2, hper, hcomp, hmix, hstage]
  exact ⟨rfl, rfl⟩

/-- The excluded crosspoints are those of a bus and its paired source (R46). -/
theorem excluded_iff (i : Fin 676) : excluded i = true ↔ ∃ b : Nat, b < 24 ∧ i.val = b * 27 := by
  have hpair : excluded i = true ↔ i.val / 26 = i.val % 26 ∧ i.val / 26 < 24 := decide_eq_true_iff
  rw [hpair]
  constructor
  · rintro ⟨h, hb⟩
    exact ⟨i.val / 26, hb, by omega⟩
  · rintro ⟨b, hb, hi⟩
    omega

/-- Settles O12: a bus's stage reads its contributing sources only, and its paired source is never one of them. -/
theorem busIgnoresNonContributingSources : Obligations.BusIgnoresNonContributingSources := by
  refine ⟨fun tdm chan s t t' k b i f hk hc ht ht' => ?_, fun map ss bs b hb => ?_, excluded_iff⟩
  · have key := samplePeriod_bus_ignores tdm chan s k b i f hk hc
    cases hh : s.held with
    | true =>
      rw [eq_of_running_held hh ht, eq_of_running_held (s := s.withInput i f) hh ht']
      exact ⟨rfl, rfl⟩
    | false =>
      rw [eq_of_running hh ht, eq_of_running (s := s.withInput i f) hh ht']
      simpa only [settleLine_audio, settleLine_mix] using key
  · simp [contributes, paired, hb]

/-! ## What a sample period takes in, sends out and leaves (R9, R12, R13, R53) -/

theorem period_val {s : State} (h : s.periods < 48) : s.period.val = s.periods := by simp only [State.period]; omega

/-- A port's table of frames with one sample of each replaced, read at a sample. -/
theorem tab_put_get {n : Nat} (v : Vector Frame n) (p : Fin 48) (x : Fin n → Sample) (j : Fin n) (k : Fin 48) :
    ((tab fun i => put v[i] p (x i))[j])[k] = if k = p then x j else (v[j])[k] := by
  rw [tab_get, put_get]

/-- The ports' part of a sample period: what it writes, given the fields that the mix leaves to it (R9, R12, R13). -/
theorem portPeriod_spec (tdm : Vector SlotWord 8) (chan : Vector SlotWord 2) (s : State) (h : s.periods < 48) :
    let t := portPeriod tdm chan s
    (∀ j : Fin 8, ∀ k : Fin 48, (t.audio.tdmIn[j])[k] =
        if k.val = s.periods then (tdm[j]).extractLsb' 8 24 else (s.audio.tdmIn[j])[k])
    ∧ (∀ j : Fin 2, ∀ k : Fin 48, (t.audio.lineIn[j])[k] =
        if k.val = s.periods then (chan[j]).extractLsb' 8 24 else (s.audio.lineIn[j])[k])
    ∧ (∀ j : Fin 8, t.audio.tdmOut[j] = ((s.audio.sending[16 + j.val]!)[s.periods]!) ++ (0#8))
    ∧ (∀ j : Fin 2, t.audio.lineOut[j] = ((s.audio.sending[24 + j.val]!)[s.periods]!) ++ (0#8))
    ∧ t.audio.tdmGood = s.audio.tdmGood + (if (tdm[0]).extractLsb' 0 8 = 0xA5#8 then 1 else 0)
    ∧ t = { s with periods := s.periods + 1, audio := t.audio }
    ∧ t.audio = { s.audio with tdmIn := t.audio.tdmIn, tdmGood := t.audio.tdmGood, lineIn := t.audio.lineIn,
                               tdmOut := t.audio.tdmOut, lineOut := t.audio.lineOut } := by
  have hp := period_val h
  have hat (k : Fin 48) : k = s.period ↔ k.val = s.periods := by rw [Fin.ext_iff, hp]
  refine ⟨fun j k => ?_, fun j k => ?_, fun j => ?_, fun j => ?_, ?_, ?_, rfl⟩
  · simp only [portPeriod, tab_put_get, hat, slotSample]
  · simp only [portPeriod, tab_put_get, hat, slotSample]
  · have hlt (j : Fin 8) : 16 + j.val < 26 := by omega
    simp only [portPeriod, tab_get, sampleSlot]
    simp only [Fin.getElem_fin, hp, hlt, h, getElem!_pos]
  · have hlt (j : Fin 2) : 24 + j.val < 26 := by omega
    simp only [portPeriod, tab_get, sampleSlot]
    simp only [Fin.getElem_fin, hp, hlt, h, getElem!_pos]
  · simp only [portPeriod, slotMarker, Config.marker, Config.framePeriods, h, and_true, decide_eq_true_eq]
    exact (apply_ite (s.audio.tdmGood + ·) _ 1 0).symm
  · have : min (s.periods + 1) 48 = s.periods + 1 := by omega
    simp [portPeriod, Config.framePeriods, this]

/-- The mix's part of a sample period: what it may change, and where it computes nothing (R53, R55). -/
def MixOnly (s u : State) : Prop :=
  u = { s with audio := { s.audio with computed := u.audio.computed }, mix := u.mix, env := u.env, rg := { s.rg with r := u.rg.r } }
  ∧ u.mix.snap = s.mix.snap
  ∧ (∀ i : Fin 26, (u.env[i]).target = (s.env[i]).target ∧ (u.env[i]).code = (s.env[i]).code)
  ∧ (∀ b : Fin 26, ∀ k : Fin 48, k ≠ s.period → (u.audio.computed[b])[k] = (s.audio.computed[b])[k])
  ∧ (s.mix.snap = none → u = s)

theorem samplePeriod_eq_portPeriod (tdm : Vector SlotWord 8) (chan : Vector SlotWord 2) (s : State) :
    ∃ u, MixOnly s u ∧ samplePeriod tdm chan s = portPeriod tdm chan u := by
  cases hk : s.mix.snap with
  | none =>
    exact ⟨s, ⟨rfl, rfl, fun _ => ⟨rfl, rfl⟩, fun _ _ _ => rfl, fun _ => rfl⟩, samplePeriod_of_none hk tdm chan⟩
  | some k =>
    refine ⟨computePeriod k s.period (stepEnvelopes s), ⟨?_, ?_, fun i => ?_, fun b j hj => ?_, fun hn => ?_⟩,
      samplePeriod_of_some hk tdm chan⟩
    · simp only [computePeriod, stepEnvelopes]
    · simp only [computePeriod, stepEnvelopes]
    · simp only [computePeriod, stepEnvelopes, tab_get, Env.step, and_self]
    · rw [computePeriod_computed, put_other _ _ _ _ hj, stepEnvelopes_audio]
    · simp [hk] at hn

/-- Settles O11: the mix's part first (`MixOnly`), then the ports' (`portPeriod_spec`). -/
theorem samplePeriodMovesPortSamples : Obligations.SamplePeriodMovesPortSamples := by
  intro tdm chan s hh hp
  obtain ⟨u, ⟨hu, hsnap, henv, hcomp, hnone⟩, heq⟩ := samplePeriod_eq_portPeriod tdm chan s
  have hport := portPeriod_spec tdm chan u (by rw [hu]; exact hp)
  refine ⟨settleLine (samplePeriod tdm chan s), running_next (samplePeriod tdm chan) s hh, ?_⟩
  rw [heq, settleLine_frame]
  generalize portPeriod tdm chan u = v at hport ⊢
  generalize (settleLine v).lineA = line
  generalize u.audio.computed = c at hu hcomp
  generalize u.mix = m at hu hsnap
  generalize u.env = e at hu henv
  generalize u.rg.r = r at hu
  subst hu
  obtain ⟨h1, h2, h3, h4, h5, h6, h7⟩ := hport
  have hmix : v.mix = m := congrArg State.mix h6
  have henv' : v.env = e := congrArg State.env h6
  have hrg : v.rg = { s.rg with r := r } := congrArg State.rg h6
  have hcomp' : v.audio.computed = c := congrArg Audio.computed h7
  have hframe : v = { s with periods := s.periods + 1, audio := v.audio, mix := v.mix, env := v.env, rg := v.rg } := by
    rw [hmix, henv', hrg]
    exact h6
  have hper {k : Fin 48} (hk : k.val ≠ s.periods) : k ≠ s.period := fun h => hk (by rw [h, period_val hp])
  refine ⟨h1, h2, h3, h4, h5, ?_, ?_, ?_, ?_, ?_, fun b k hk => ?_, fun hn => ?_⟩
  · exact congrArg (fun x : State => { x with lineA := line }) hframe
  · dsimp only
    rw [hcomp']
    exact h7
  · rw [hrg]
  · rw [hmix, hsnap]
  · rw [henv']
    exact henv
  · rw [hcomp']
    exact hcomp b k (hper hk)
  · have hs := hnone hn
    rw [hmix, henv', hrg, hcomp']
    exact ⟨congrArg State.mix hs, congrArg State.env hs, congrArg State.rg hs, congrArg (fun x => x.audio.computed) hs⟩

end Sys2Proof.Machine
end

section
/-! SUPPORT. A link's change of state: what it leaves in every unit, and what it posts (R118, R140). -/

namespace Sys2Proof.Machine
open Host

/-! ## What a hold set, a partition and a list of notices depend on -/

theorem micPart_congr {s t : State} (hl : t.live = s.live) (hr : t.rg.map = s.rg.map) (m : Fin 16) :
    t.micPart m = s.micPart m := by simp only [State.micPart, State.partOf, hl, hr]

theorem heldSource_congr {s t : State} (h : ∀ i, t.holdSet i = s.holdSet i) (i : Fin 26) : t.heldSource i = s.heldSource i := by
  simp only [State.heldSource, h]

theorem settleLine_port (s : State) (q : Port) : (settleLine s).port q = s.port q := by
  cases q
  · exact settleLine_portA s
  · exact settleLine_portB s

theorem settleLine_holdSet (s : State) (i : Fin 26) : (settleLine s).holdSet i = s.holdSet i :=
  holdSet_congr (settleLine_mute s) (settleLine_live s) (settleLine_links s) i

theorem settleLine_micPart (s : State) (m : Fin 16) : (settleLine s).micPart m = s.micPart m :=
  micPart_congr (settleLine_live s) (congrArg Regroup.map (settleLine_rg s)) m

theorem postAll_append (r : PortRec) (ns ms : List Notice) : (r.postAll ns).postAll ms = r.postAll (ns ++ ms) := by
  simp only [PortRec.postAll, List.foldl_append]

theorem retarget_port (before s : State) (q : Port) : (retarget before s).port q = s.port q := by
  cases q
  · exact retarget_portA before s
  · exact retarget_portB before s
theorem closeHeld_port (before s : State) (q : Port) : (closeHeld before s).port q = s.port q := by
  cases q
  · exact closeHeld_portA before s
  · exact closeHeld_portB before s
theorem withRecs_port (s : State) (r : Vector MuteRec 26) (q : Port) : (s.withRecs r).port q = s.port q := by cases q <;> rfl
theorem setLink_port (s : State) (i : Fin 16) (l : LinkRec) (q : Port) : (s.setLink i l).port q = s.port q := by
  cases q <;> rfl

theorem clearAsks_port (test : Fin 16 → Bool) (cause : AskCause) (s : State) (q : Port) :
    (clearAsks test cause s).port q = (s.port q).postAll ((mics.filter test).map fun m => .unmute m false cause) := by
  simp only [clearAsks, post_port, withRecs_port]

theorem setFloor_port (p : Fin 4) (c : FloorChange) (s : State) (q : Port) :
    (setFloor p c s).port q = (s.port q).postAll c.2 := by
  simp only [setFloor, retarget_port, post_port]
  cases q <;> rfl

/-- The records after flags of unmute requests are cleared (R85, R86). -/
theorem clearAsks_rec (test : Fin 16 → Bool) (cause : AskCause) (s : State) (m : Fin 16) :
    (clearAsks test cause s).mute.recs[micSource m] =
      if test m then { s.mute.recs[micSource m] with ask := false } else s.mute.recs[micSource m] := by
  have hm : sourceMic (micSource m) = some m := by simp [sourceMic, micSource]
  simp only [clearAsks, State.withRecs, post_mute, tab_get, hm]

theorem filter_mics_eq (i : Fin 16) : mics.filter (fun m => decide (m = i)) = [i] := by revert i; decide

/-! ## A change of state, in parts -/

/-- The state with link `i`'s record replaced, its LINK notice posted, and its mute record changed: what the other units follow. -/
def linkMoved (i : Fin 16) (l : LinkRec) (cause : LinkCause) (code : Option Byte) (f : MuteRec → MuteRec) (s : State) : State :=
  let t := (s.setLink i l).post [.link i (s.links[i]).state l.state cause code]
  t.withRecs (put t.mute.recs (micSource i) (f t.mute.recs[micSource i]))

/-- The test by which a change of state clears unmute requests: the link's own where it leaves use, else those of R85. -/
def askTest (i : Fin 16) (clears : Bool) (before s : State) (m : Fin 16) : Bool :=
  if clears then decide (m = i) && (s.mute.recs[micSource i]).ask else askEnds before s m

/-- The state after a change of link `i`'s state, up to its envelopes and before floor entries are removed. -/
def linkSettled (i : Fin 16) (clears : Bool) (before s : State) : State :=
  clearAsks (askTest i clears before s) (if clears then .link else .cleared) ((closeHeld before s).post (holdsNotices before s))

theorem moveLink_parts (i : Fin 16) (l : LinkRec) (cause : LinkCause) (code : Option Byte) (f : MuteRec → MuteRec)
    (clears removes : Bool) (s : State) :
    moveLink i l cause code f clears removes s =
      let t := retarget s (linkSettled i clears s (linkMoved i l cause code f s))
      if removes then setFloor (t.micPart i) (FloorRec.removeMic (t.micPart i) t.floors[t.micPart i] i) t else t := by
  cases clears <;> rfl

section
variable (i : Fin 16) (l : LinkRec) (cause : LinkCause) (code : Option Byte) (f : MuteRec → MuteRec) (clears removes : Bool)
  (before s : State)

theorem linkMoved_links : (linkMoved i l cause code f s).links = put s.links i l := by
  simp only [linkMoved, withRecs_links, post_links, State.setLink]

theorem linkMoved_rec (m : Fin 16) : (linkMoved i l cause code f s).mute.recs[micSource m] =
    if m = i then f s.mute.recs[micSource m] else s.mute.recs[micSource m] := by
  have hinj : micSource m = micSource i ↔ m = i := by simp [micSource, Fin.ext_iff]
  simp only [linkMoved, State.withRecs, post_mute, setLink_mute, put_get, hinj]
  split
  · rename_i h; rw [h]
  · rfl

theorem linkMoved_port (q : Port) : (linkMoved i l cause code f s).port q =
    (s.port q).postAll [.link i (s.links[i]).state l.state cause code] := by
  simp only [linkMoved, withRecs_port, post_port, setLink_port]

@[simp] theorem linkSettled_links : (linkSettled i clears before s).links = s.links := by simp [linkSettled]
@[simp] theorem linkSettled_live : (linkSettled i clears before s).live = s.live := by simp [linkSettled]
@[simp] theorem linkSettled_rg : (linkSettled i clears before s).rg = s.rg := by simp [linkSettled]
@[simp] theorem linkSettled_floors : (linkSettled i clears before s).floors = s.floors := by simp [linkSettled]

theorem linkSettled_holdSet (j : Fin 26) : (linkSettled i clears before s).holdSet j = s.holdSet j := by
  rw [linkSettled, clearAsks_holdSet]
  exact holdSet_congr (by simp) (by simp) (by simp) j

theorem linkSettled_port (q : Port) : (linkSettled i clears before s).port q =
    (s.port q).postAll (holdsNotices before s
      ++ (mics.filter (askTest i clears before s)).map fun m => .unmute m false (if clears then .link else .cleared)) := by
  rw [linkSettled, clearAsks_port, post_port, closeHeld_port, postAll_append]

theorem linkSettled_rec (m : Fin 16) : (linkSettled i clears before s).mute.recs[micSource m] =
    if askTest i clears before s m then { s.mute.recs[micSource m] with ask := false } else s.mute.recs[micSource m] := by
  simp only [linkSettled, clearAsks_rec, post_mute, closeHeld_mute]

/-- A change of state moves no microphone to another partition. -/
theorem moveLink_micPart (m : Fin 16) : (moveLink i l cause code f clears removes s).micPart m = s.micPart m := by
  obtain ⟨-, -, hl, hr⟩ := moveLink_only i l cause code f clears removes s
  exact micPart_congr hl (congrArg Regroup.map hr) m

/-- The floor records after a change of state (R118). -/
theorem moveLink_floors : (moveLink i l cause code f clears removes s).floors =
    if removes then put s.floors (s.micPart i) ((s.floors[s.micPart i]).unqueue i |>.ungrant i) else s.floors := by
  have hp : (retarget s (linkSettled i clears s (linkMoved i l cause code f s))).micPart i = s.micPart i :=
    micPart_congr (by simp [linkMoved]) (by simp [linkMoved]) i
  rw [moveLink_parts]
  cases removes
  · simp [linkMoved]
  · simp only [if_true, hp, (setFloor_spec _ _ _).2]
    simp [linkMoved, FloorRec.removeMic]

/-- The hold sets after a change of state are those of the link's new record and the mute record's change. -/
theorem moveLink_holdSet (j : Fin 26) :
    (moveLink i l cause code f clears removes s).holdSet j = (linkMoved i l cause code f s).holdSet j := by
  rw [moveLink_parts, ← linkSettled_holdSet i clears s (linkMoved i l cause code f s) j]
  cases removes
  · exact holdSet_congr (retarget_mute ..) (retarget_live ..) (retarget_links ..) j
  · rw [if_pos rfl]
    exact holdSet_congr ((setFloor_mute ..).trans (retarget_mute ..)) ((setFloor_live ..).trans (retarget_live ..))
      ((setFloor_links ..).trans (retarget_links ..)) j

/-- The mute record of a microphone after a change of link `i`'s state. -/
theorem moveLink_rec (m : Fin 16) :
    (moveLink i l cause code f clears removes s).mute.recs[micSource m] =
      let t := linkMoved i l cause code f s
      if askTest i clears s t m then { t.mute.recs[micSource m] with ask := false } else t.mute.recs[micSource m] := by
  rw [moveLink_parts]
  cases removes
  · simp only [Bool.false_eq_true, if_false, retarget_mute, linkSettled_rec]
  · simp only [if_true, setFloor_mute, retarget_mute, linkSettled_rec]

/-- The notices of a change of link `i`'s state, in the order of R140. -/
def moveNotices : List Notice :=
  let t := linkMoved i l cause code f s
  let p := s.micPart i
  [.link i (s.links[i]).state l.state cause code] ++ holdsNotices s t
    ++ (mics.filter (askTest i clears s t)).map (fun m => .unmute m false (if clears then .link else .cleared))
    ++ (if removes then (FloorRec.removeMic p s.floors[p] i).2 else [])

theorem moveLink_port (q : Port) : (moveLink i l cause code f clears removes s).port q =
    (s.port q).postAll (moveNotices i l cause code f clears removes s) := by
  have hp : (retarget s (linkSettled i clears s (linkMoved i l cause code f s))).micPart i = s.micPart i :=
    micPart_congr (by simp [linkMoved]) (by simp [linkMoved]) i
  have hf : (retarget s (linkSettled i clears s (linkMoved i l cause code f s))).floors = s.floors := by simp [linkMoved]
  rw [moveLink_parts]
  cases removes
  · simp only [Bool.false_eq_true, if_false, retarget_port, linkSettled_port, linkMoved_port, postAll_append, moveNotices,
      List.append_nil, List.append_assoc]
  · simp only [if_true, hp, hf, setFloor_port, retarget_port, linkSettled_port, linkMoved_port, postAll_append, moveNotices,
      List.append_assoc]

end

/-- A change of link state posts what R140 lists, in its order. -/
theorem moveLink_posts (i : Fin 16) (l : LinkRec) (cause : LinkCause) (code : Option Byte) (f : MuteRec → MuteRec)
    (clears removes : Bool) (s : State) (hf : ∀ r, (f r).ask = r.ask) (hc : clears = l.state.out)
    (hr : removes = (l.state.out || decide (l.state = .doze))) :
    LinkPosts s (moveLink i l cause code f clears removes s) i cause code := by
  intro q
  rw [moveLink_port]
  congr 1
  have hstate : ((moveLink i l cause code f clears removes s).links[i]).state = l.state := by
    rw [moveLink_links, put_same]
  have hold (j : Fin 26) := moveLink_holdSet i l cause code f clears removes s j
  have hask (m : Fin 16) : ((linkMoved i l cause code f s).mute.recs[micSource m]).ask = (s.mute.recs[micSource m]).ask := by
    rw [linkMoved_rec]; split <;> simp only [hf]
  have hholds : holdsNotices s (linkMoved i l cause code f s) = holdsPosted s (moveLink i l cause code f clears removes s) := by
    simp only [holdsPosted, hold]
    rfl
  have hasks : (mics.filter (askTest i clears s (linkMoved i l cause code f s))).map
        (fun m => Notice.unmute m false (if clears then .link else .cleared))
      = if clears then (if (s.mute.recs[micSource i]).ask then [.unmute i false .link] else [])
        else asksCleared s (moveLink i l cause code f clears removes s) := by
    cases clears
    · have htest (m : Fin 16) : askTest i false s (linkMoved i l cause code f s) m
          = ((s.mute.recs[micSource m]).ask && losesHolds s (moveLink i l cause code f false removes s) m) := by
        simp only [askTest, askEnds, hask, losesHolds, heldSource_congr hold, Bool.false_eq_true, if_false, Bool.and_assoc]
      simp only [asksCleared, ← htest]
      rfl
    · have htest (m : Fin 16) : askTest i true s (linkMoved i l cause code f s) m
          = (decide (m = i) && (s.mute.recs[micSource i]).ask) := by
        simp only [askTest, hask, if_true]
      rw [List.filter_congr fun m _ => htest m]
      cases (s.mute.recs[micSource i]).ask
      · simp
      · simp [filter_mics_eq]
  rw [← hc] at hr
  simp only [moveNotices, linkPosted, hstate, ← hc, ← hr, hholds, hasks, FloorRec.removeMic]

end Sys2Proof.Machine
end

section
/-! SUPPORT. The pod messages (R125): the entries that they make, and O44. -/

namespace Sys2Proof.Machine
open Host

theorem countUp_eq (top n : Nat) : countUp top n = min (n + 1) (max top n) := by
  unfold countUp; split <;> omega

/-! ## Port A's line and the notices of a link -/

theorem linkPosted_settleLine (s u : State) (i : Fin 16) (cause : LinkCause) (code : Option Byte) :
    linkPosted s (settleLine u) i cause code = linkPosted s u i cause code := by
  simp only [linkPosted, holdsPosted, asksCleared, losesHolds, State.heldSource, settleLine_holdSet, settleLine_links]

theorem linkPosts_settleLine {s u : State} {i : Fin 16} {cause : LinkCause} {code : Option Byte}
    (h : LinkPosts s u i cause code) : LinkPosts s (settleLine u) i cause code := fun q => by
  rw [settleLine_port, linkPosted_settleLine]
  exact h q

/-- Link `i`'s microphone has no floor entry. -/
def FloorGone (t : State) (i : Fin 16) : Prop :=
  ∀ r : FloorRec, t.floors[t.micPart i] = r → r.granted i = false ∧ r.queued i = false

/-- A change of state that removes floor entries leaves none of the microphone (R118). -/
theorem moveLink_gone (i : Fin 16) (l : LinkRec) (cause : LinkCause) (code : Option Byte) (f : MuteRec → MuteRec)
    (clears : Bool) (s : State) : FloorGone (settleLine (moveLink i l cause code f clears true s)) i := by
  rintro r rfl
  simp only [settleLine_micPart, settleLine_floors, moveLink_micPart, moveLink_floors, if_true, put_same]
  simp [FloorRec.granted, FloorRec.queued, FloorRec.ungrant, FloorRec.unqueue]

/-- The mute record of a link's own microphone after a change of its state. -/
theorem moveLink_own_rec (i : Fin 16) (l : LinkRec) (cause : LinkCause) (code : Option Byte) (f : MuteRec → MuteRec)
    (clears removes : Bool) (s : State) (hf : ∀ r, (f r).ask = r.ask) :
    ((moveLink i l cause code f clears removes s).mute.recs[micSource i]).priv = (f s.mute.recs[micSource i]).priv
    ∧ (clears = true → ((moveLink i l cause code f clears removes s).mute.recs[micSource i]).ask = false) := by
  have hrec : (linkMoved i l cause code f s).mute.recs[micSource i] = f s.mute.recs[micSource i] := by
    rw [linkMoved_rec, if_pos rfl]
  simp only [moveLink_rec, hrec]
  refine ⟨by split <;> rfl, ?_⟩
  rintro rfl
  simp only [askTest, if_true, hrec, hf, decide_true, Bool.true_and]
  cases h : (s.mute.recs[micSource i]).ask
  · simp only [Bool.false_eq_true, if_false, hf, h]
  · rfl

/-- An unmute request stays where the microphone keeps a hold (R85). -/
theorem moveLink_ask_kept (i : Fin 16) (l : LinkRec) (cause : LinkCause) (code : Option Byte) (removes : Bool) (s : State)
    (hl : l.state ≠ .active) : ((moveLink i l cause code id false removes s).mute.recs[micSource i]).ask
      = (s.mute.recs[micSource i]).ask := by
  have hheld : (linkMoved i l cause code id s).heldSource (micSource i) = true := by
    have hmic : sourceMic (micSource i) = some i := by simp [sourceMic, micSource]
    have : (linkMoved i l cause code id s).linkHeld (micSource i) = true := by
      simp only [State.linkHeld, hmic, linkMoved_links, put_same, hl, ne_eq, not_false_eq_true, decide_true]
    simp only [State.heldSource, State.holdSet, HoldSet.any, this, Bool.or_true]
  have htest : askTest i false s (linkMoved i l cause code id s) i = false := by simp [askTest, askEnds, hheld]
  rw [moveLink_rec]
  simp only [htest, linkMoved_rec, Bool.false_eq_true, if_false, if_true, id]

/-! ## Entries -/

/-- The record of a link that enters RETRAIN (R133). -/
def LinkRec.retrained (inside : Bool) (l : LinkRec) : LinkRec :=
  { l.dropDoze.beginAttempt inside with
    state := .retrain, retrainCount := countUp Config.maxCount l.dropDoze.retrainCount }

/-- The record of a link that enters FAULT (R136). -/
def LinkRec.faulted (code : Option Byte) (inside : Bool) (l : LinkRec) : LinkRec :=
  { l.noHandshake with
    state := .fault, lock := false, requested := .nop, residency := 0, residencyFresh := inside
    faultCount := countUp Config.maxCount l.faultCount
    faultCode := match code with | some c => some c | none => l.faultCode }

theorem enterRetrain_eq (cause : LinkCause) (i : Fin 16) (s : State) : enterRetrain cause i s =
    moveLink i ((s.links[i]).retrained s.insideFrame) cause none id false false s := rfl

theorem enterFault_eq (cause : LinkCause) (code : Option Byte) (i : Fin 16) (s : State) : enterFault cause code i s =
    moveLink i ((s.links[i]).faulted code s.insideFrame) cause code MuteRec.dropPrivacy true true s := rfl

theorem enterRetrain_link (cause : LinkCause) (i : Fin 16) (s : State) :
    (enterRetrain cause i s).links[i] = (s.links[i]).retrained s.insideFrame := by
  rw [enterRetrain_eq, moveLink_links, put_same]

/-- What RETRAIN keeps and begins of a link's record (R131, R133). -/
theorem retrained_spec (inside : Bool) (l : LinkRec) :
    (l.retrained inside).retrainCount = min (l.retrainCount + 1) (max 65535 l.retrainCount)
    ∧ (l.retrained inside).identity = l.identity
    ∧ (l.retrained inside).handshake = (if l.handshake = .detach then .detach else .none) := by
  have hd : l.dropDoze.retrainCount = l.retrainCount ∧ l.dropDoze.identity = l.identity
      ∧ l.dropDoze.handshake = (if l.handshake = .detach then .detach else .none) := by
    unfold LinkRec.dropDoze
    split
    · rename_i h; simp [LinkRec.noHandshake, h]
    · rename_i h; cases hh : l.handshake <;> simp_all
  obtain ⟨h1, h2, h3⟩ := hd
  refine ⟨?_, h2, h3⟩
  rw [← countUp_eq, ← h1]
  rfl

/-- What a command that enters RETRAIN leaves (R133, R140). -/
def Retrains (s t : State) (i : Fin 16) (cause : LinkCause) : Prop :=
  let l := s.links[i]
  (t.links[i]).state = .retrain
  ∧ (t.links[i]).retrainCount = min (l.retrainCount + 1) (max 65535 l.retrainCount) ∧ (t.links[i]).identity = l.identity
  ∧ (t.links[i]).handshake = (if l.handshake = .detach then .detach else .none)
  ∧ (t.links[i]).attemptTimer = 0 ∧ (t.links[i]).run = 0 ∧ (t.links[i]).lock = false
  ∧ t.floors = s.floors ∧ LinkPosts s t i cause none

theorem enterRetrain_retrains (cause : LinkCause) (i : Fin 16) (s : State) :
    Retrains s (settleLine (enterRetrain cause i s)) i cause := by
  obtain ⟨h1, h2, h3⟩ := retrained_spec s.insideFrame s.links[i]
  have hlink : (settleLine (enterRetrain cause i s)).links[i] = (s.links[i]).retrained s.insideFrame := by
    rw [settleLine_links, enterRetrain_link]
  unfold Retrains
  rw [hlink]
  refine ⟨rfl, h1, h2, h3, rfl, rfl, rfl, ?_, ?_⟩
  · rw [settleLine_floors, enterRetrain_eq, moveLink_floors, if_neg Bool.false_ne_true]
  · exact linkPosts_settleLine (moveLink_posts _ _ _ _ _ _ _ _ (fun _ => rfl) rfl rfl)

/-- The record of a link that enters ACTIVE at a HELLO (R129). -/
def LinkRec.activated (kind : Byte) (buttons : Vector Bool 3) (slide : Slide) (l : LinkRec) : LinkRec :=
  { l with state := .active, lock := false, lastBit := true, attemptCount := 0, badRun := 0
           identity := some { kind := kind, buttons := buttons, slide := slide } }

/-- The state with a microphone's noise tracker restarted (R15). -/
def State.restartNoise (s : State) (i : Fin 16) : State :=
  { s with audio := { s.audio with noise := put s.audio.noise (micSource i) Config.noiseTop } }

/-- An engaged slide places PRIVACY (R129). -/
def MuteRec.slid (slide : Slide) (r : MuteRec) : MuteRec := if slide = .engaged then { r with priv := true } else r

theorem slid_ask (slide : Slide) (r : MuteRec) : (r.slid slide).ask = r.ask := by unfold MuteRec.slid; split <;> rfl
theorem slid_priv (slide : Slide) (r : MuteRec) : (r.slid slide).priv = (r.priv || decide (slide = .engaged)) := by
  unfold MuteRec.slid; split <;> rename_i h <;> simp [h]

theorem enterActive_eq (kind : Byte) (buttons : Vector Bool 3) (slide : Slide) (i : Fin 16) (s : State) :
    enterActive kind buttons slide i s = moveLink i ((s.links[i]).activated kind buttons slide) .hello none
      (MuteRec.slid slide) false false (s.restartNoise i) := rfl

theorem restartNoise_holdSet (s : State) (i : Fin 16) (j : Fin 26) : (s.restartNoise i).holdSet j = s.holdSet j :=
  holdSet_congr rfl rfl rfl j

theorem restartNoise_linkPosted (s u : State) (i : Fin 16) :
    linkPosted (s.restartNoise i) u i .hello none = linkPosted s u i .hello none := by
  simp only [linkPosted, holdsPosted, asksCleared, losesHolds, State.heldSource, restartNoise_holdSet]
  rfl

/-- What the entry to ACTIVE leaves (R15, R129). -/
theorem enterActive_spec (kind : Byte) (buttons : Vector Bool 3) (slide : Slide) (i : Fin 16) (s : State) :
    let t := settleLine (enterActive kind buttons slide i s)
    t.links[i] = (s.links[i]).activated kind buttons slide ∧ t.audio.noise[micSource i] = 8388607
    ∧ (t.mute.recs[micSource i]).priv = ((s.mute.recs[micSource i]).priv || decide (slide = .engaged))
    ∧ (t.holdSet (micSource i)).link = false ∧ t.floors = s.floors ∧ LinkPosts s t i .hello none := by
  intro t
  have hlink : t.links[i] = (s.links[i]).activated kind buttons slide := by
    rw [settleLine_links, enterActive_eq, moveLink_links, put_same]
  have hmic : sourceMic (micSource i) = some i := by simp [sourceMic, micSource]
  have hstate : (t.links[i]).state = .active := by rw [hlink]; rfl
  refine ⟨hlink, ?_, ?_, ?_, ?_, linkPosts_settleLine fun q => ?_⟩
  · rw [settleLine_audio, enterActive_eq, (moveLink_only ..).2.1]
    exact put_same ..
  · rw [settleLine_mute, enterActive_eq, (moveLink_own_rec _ _ _ _ _ _ _ _ (slid_ask slide)).1, slid_priv]
    rfl
  · simp only [State.holdSet, State.linkHeld, hmic, hstate, ne_eq, not_true_eq_false, decide_false]
  · rw [settleLine_floors, enterActive_eq, moveLink_floors, if_neg Bool.false_ne_true]
    rfl
  · rw [enterActive_eq, ← restartNoise_linkPosted]
    exact moveLink_posts i _ .hello none (MuteRec.slid slide) false false (s.restartNoise i) (slid_ask slide) rfl rfl q

theorem enterDoze_eq (i : Fin 16) (s : State) : enterDoze i s =
    moveLink i { (s.links[i]).noHandshake with state := .doze } .dozeAck none id false true s := rfl

theorem enterDetached_eq (cause : LinkCause) (i : Fin 16) (s : State) : enterDetached cause i s =
    moveLink i { (s.links[i]).noHandshake with state := .detached, lock := false, autoPending := false, autoWait := false }
      cause none MuteRec.dropPrivacy true true s := rfl

/-- What a change of state out of use leaves in the link's own mute record (R78, R85). -/
theorem moveLink_out_rec (i : Fin 16) (l : LinkRec) (cause : LinkCause) (code : Option Byte) (s : State) :
    let t := settleLine (moveLink i l cause code MuteRec.dropPrivacy true true s)
    (t.mute.recs[micSource i]).priv = false ∧ (t.mute.recs[micSource i]).ask = false := by
  obtain ⟨hpriv, hask⟩ := moveLink_own_rec i l cause code MuteRec.dropPrivacy true true s fun _ => rfl
  simp only [settleLine_mute]
  exact ⟨hpriv, hask rfl⟩

theorem settleLine_moveLink_link (i : Fin 16) (l : LinkRec) (cause : LinkCause) (code : Option Byte) (f : MuteRec → MuteRec)
    (clears removes : Bool) (s : State) : (settleLine (moveLink i l cause code f clears removes s)).links[i] = l := by
  rw [settleLine_links, moveLink_links, put_same]

/-- A message that R125 has ignored changes nothing but Port A's line. -/
theorem running_ignored {f : State → State} {s : State} (hh : s.held = false) (h : f s = s) :
    running f s = .next (settleLine s) := by rw [running_next f s hh, h]

/-! ## HELLO -/

theorem takeHello_locked {i : Fin 16} {s : State} (kind : Byte) (buttons : Vector Bool 3) (slide : Option Slide)
    (h : (s.links[i]).state = .training ∨ (s.links[i]).state = .retrain) :
    takeHello true kind buttons slide i s = enterActive kind buttons (slide.getD .disengaged) i s := by
  rcases h with h | h <;> simp only [takeHello, h, if_true]

theorem takeHello_active {i : Fin 16} {s : State} (locked : Bool) (kind : Byte) (buttons : Vector Bool 3)
    (slide : Option Slide) (h : (s.links[i]).state = .active) :
    takeHello locked kind buttons slide i s = enterRetrain .hello i s := by simp only [takeHello, h]

theorem takeHello_ignored {i : Fin 16} {s : State} (locked : Bool) (kind : Byte) (buttons : Vector Bool 3)
    (slide : Option Slide) (h : (((s.links[i]).state = .training ∨ (s.links[i]).state = .retrain) ∧ locked = false)
      ∨ (s.links[i]).state = .doze ∨ (s.links[i]).state.out = true) :
    takeHello locked kind buttons slide i s = s := by
  have hout : (s.links[i]).state.out = true ↔
      (s.links[i]).state = .down ∨ (s.links[i]).state = .detached ∨ (s.links[i]).state = .fault := decide_eq_true_iff
  rw [hout] at h
  rcases h with ⟨h | h, rfl⟩ | h | h | h | h <;> simp only [takeHello, h, Bool.false_eq_true, if_false]

/-- The slide that a HELLO reports as engaged (R125). -/
theorem getD_engaged_iff (slide : Option Slide) : slide.getD .disengaged = .engaged ↔ slide = some .engaged := by
  cases slide <;> simp

/-- Settles O44: each message enters the state that the table of R125 gives (`moveLink_posts` for its notices), or is ignored. -/
theorem podMessagesMoveTheLink : Obligations.PodMessagesMoveTheLink := by
  intro i s hh l gone retrains ignored
  have hretrain {c : Instr} {cause : LinkCause} {f : State → State} (hc : exec c s = running f s)
      (hf : f s = enterRetrain cause i s) : retrains c cause :=
    ⟨_, by rw [hc, running_next f s hh, hf], enterRetrain_retrains cause i s⟩
  have hignored {c : Instr} {f : State → State} (hc : exec c s = running f s) (hf : f s = s) : ignored c :=
    hc.trans (running_ignored hh hf)
  refine ⟨fun kind buttons slide => ⟨fun hst hlock => ?_, fun hst => ?_, fun hst => ?_⟩, fun hst hhs => ⟨?_, ?_⟩, fun hno => ⟨?_, ?_⟩,
    fun hst hhs => ?_, fun hno => ?_, fun code => ⟨fun hst => ?_, fun hst => ?_⟩, fun hst => ?_, fun hst => ?_⟩
  · obtain ⟨hlink, hnoise, hpriv, hhold, hfloor, hposts⟩ := enterActive_spec kind buttons (slide.getD .disengaged) i s
    refine ⟨settleLine (enterActive kind buttons (slide.getD .disengaged) i s), ?_, ?_⟩
    · rw [← takeHello_locked kind buttons slide hst, ← hlock]
      exact running_next _ s hh
    · rw [hlink]
      refine ⟨rfl, rfl, rfl, rfl, rfl, rfl, rfl, hnoise, ?_, hhold, hfloor, hposts⟩
      rw [hpriv]
      simp only [getD_engaged_iff]
  · exact hretrain rfl (takeHello_active l.lock kind buttons slide hst)
  · exact hignored rfl (takeHello_ignored l.lock kind buttons slide hst)
  · have hf : takeDozeAck i s = enterDoze i s := if_pos ⟨hst, hhs⟩
    refine ⟨settleLine (enterDoze i s), by rw [← hf]; exact running_next _ s hh, ?_⟩
    rw [enterDoze_eq, settleLine_moveLink_link, settleLine_mute]
    refine ⟨rfl, rfl, moveLink_gone _ _ _ _ _ _ _, ?_, ?_, linkPosts_settleLine ?_⟩
    · exact (moveLink_own_rec _ _ _ _ _ _ _ _ fun _ => rfl).1
    · exact moveLink_ask_kept _ _ _ _ _ _ (by simp)
    · exact moveLink_posts _ _ _ _ _ _ _ _ (fun _ => rfl) rfl rfl
  · have hf : takeDozeNak i s = refuseDoze .nak i s := if_pos ⟨hst, hhs⟩
    exact (running_next (takeDozeNak i) s hh).trans (by rw [hf]; rfl)
  · exact hignored rfl (if_neg (not_and_or.2 hno))
  · exact hignored rfl (if_neg (not_and_or.2 hno))
  · have hf : takeDetachAck i s = enterDetached .detachAck i s := if_pos ⟨hst, hhs⟩
    refine ⟨settleLine (enterDetached .detachAck i s), by rw [← hf]; exact running_next _ s hh, ?_⟩
    rw [enterDetached_eq, settleLine_moveLink_link]
    obtain ⟨hpriv, hask⟩ := moveLink_out_rec i _ .detachAck none s
    exact ⟨rfl, rfl, hpriv, hask, moveLink_gone _ _ _ _ _ _ _,
      linkPosts_settleLine (moveLink_posts _ _ _ _ _ _ _ _ (fun _ => rfl) rfl rfl)⟩
  · refine hignored rfl (if_neg ?_)
    rintro ⟨hin, hdet⟩
    exact hno.elim (fun h => Bool.false_ne_true (h.symm.trans hin)) (fun h => h hdet)
  · have hf : takeFaultReport code i s = enterFault .faultReport (some code) i s := if_pos hst
    refine ⟨settleLine (enterFault .faultReport (some code) i s), by rw [← hf]; exact running_next _ s hh, ?_⟩
    rw [enterFault_eq, settleLine_moveLink_link]
    obtain ⟨hpriv, hask⟩ := moveLink_out_rec i _ .faultReport (some code) s
    exact ⟨rfl, rfl, rfl, rfl, rfl, countUp_eq .., hpriv, hask, moveLink_gone _ _ _ _ _ _ _,
      linkPosts_settleLine (moveLink_posts _ _ _ _ _ _ _ _ (fun _ => rfl) rfl rfl)⟩
  · exact hignored rfl (if_neg (Bool.not_eq_true _ ▸ hst))
  · exact hretrain rfl (if_pos hst)
  · exact hignored rfl (if_neg hst)

end Sys2Proof.Machine
end

section
/-! SUPPORT. The links at a boundary (R127 to R137): the record that each link's events leave, as a function of its record alone,
and what those events leave unchanged. -/

namespace Sys2Proof.Machine
open Host

/-! ## Notices of other kinds than SYNC (R10, R159) -/

/-- A SYNC notice (R10). -/
def Notice.isSync : Notice → Bool
  | .sync _ => true
  | _ => false

/-- From `r` to `r'` a port's queue took notices, none of them SYNC: as far as the queue is not in overflow, they stand at its
end. -/
def PortRec.Grows (r r' : PortRec) : Prop :=
  r'.overflow = false → r.overflow = false ∧ ∃ ns, r'.queue = r.queue ++ ns ∧ ns.filter Notice.isSync = []

theorem PortRec.Grows.of_eq {r r' : PortRec} (hq : r'.queue = r.queue) (ho : r'.overflow = r.overflow) : r.Grows r' :=
  fun h => ⟨ho ▸ h, [], by simp [hq], rfl⟩

theorem PortRec.Grows.refl (r : PortRec) : r.Grows r := .of_eq rfl rfl

theorem PortRec.Grows.trans {r r' r'' : PortRec} (h : r.Grows r') (k : r'.Grows r'') : r.Grows r'' := fun ho => by
  obtain ⟨ho', ms, hm, hms⟩ := k ho
  obtain ⟨ho'', ns, hn, hns⟩ := h ho'
  exact ⟨ho'', ns ++ ms, by rw [hm, hn, List.append_assoc], by rw [List.filter_append, hns, hms, List.append_nil]⟩

/-- Notices that all found room stand at the end of the queue, in order. -/
theorem postAll_room {r : PortRec} {ns : List Notice} (h : (r.postAll ns).overflow = false) :
    r.overflow = false ∧ (r.postAll ns).queue = r.queue ++ ns := by
  obtain ⟨hq, ho⟩ := postAll_spec r ns
  rw [ho, Bool.or_eq_false_iff, decide_eq_false_iff_not, Nat.not_lt] at h
  exact ⟨h.1, by rw [hq, List.take_of_length_le h.2]⟩

theorem postAll_grows (r : PortRec) {ns : List Notice} (h : ns.filter Notice.isSync = []) : r.Grows (r.postAll ns) := fun ho => by
  obtain ⟨hr, hq⟩ := postAll_room ho
  exact ⟨hr, ns, hq, h⟩

/-- Both queues took notices that are not SYNC. -/
def Grow (s t : State) : Prop := ∀ p : Port, (s.port p).Grows (t.port p)

theorem Grow.refl (s : State) : Grow s s := fun _ => .refl _
theorem Grow.trans {s t u : State} (h : Grow s t) (k : Grow t u) : Grow s u := fun p => (h p).trans (k p)
theorem Grow.of_ports {s t : State} (ha : t.portA = s.portA) (hb : t.portB = s.portB) : Grow s t := fun p => by
  cases p
  · exact .of_eq (congrArg PortRec.queue ha) (congrArg PortRec.overflow ha)
  · exact .of_eq (congrArg PortRec.queue hb) (congrArg PortRec.overflow hb)

theorem post_grow (s : State) {ns : List Notice} (h : ns.filter Notice.isSync = []) : Grow s (s.post ns) := fun p => by
  rw [post_port]; exact postAll_grows _ h

/-- Notices made by a constructor other than SYNC. -/
theorem filter_isSync_map {α : Type} (l : List α) (g : α → Notice) (h : ∀ x, (g x).isSync = false) :
    (l.map g).filter Notice.isSync = [] := by
  simp [List.filter_eq_nil_iff, h]

theorem removeMic_noSync (p : Fin 4) (r : FloorRec) (m : Fin 16) : (FloorRec.removeMic p r m).2.filter Notice.isSync = [] := by
  rw [FloorRec.removeMic, List.filter_append, filter_isSync_map _ _ fun _ => rfl, filter_isSync_map _ _ fun _ => rfl]
  rfl

theorem holdsNotices_noSync (before s : State) : (holdsNotices before s).filter Notice.isSync = [] :=
  filter_isSync_map _ _ fun _ => rfl

theorem moveNotices_noSync (i : Fin 16) (l : LinkRec) (cause : LinkCause) (code : Option Byte) (f : MuteRec → MuteRec)
    (clears removes : Bool) (s : State) : (moveNotices i l cause code f clears removes s).filter Notice.isSync = [] := by
  have hasks (cause : AskCause) (l : List (Fin 16)) :
      (l.map fun m => Notice.unmute m false cause).filter Notice.isSync = [] := filter_isSync_map _ _ fun _ => rfl
  simp only [moveNotices, List.filter_append, holdsNotices_noSync, hasks, List.append_nil]
  cases removes
  · rfl
  · exact removeMic_noSync ..

/-! ## The frame of a link's events at a boundary -/

/-- What a link's events at a boundary leave as it was, besides `OnlyLink`. -/
structure LinkWork (s t : State) : Prop where
  periods : t.periods = s.periods
  autoUp : t.autoUp = s.autoUp
  audio : t.audio = s.audio
  live : t.live = s.live
  rg : t.rg = s.rg
  lineA : t.lineA = s.lineA
  committed : ∀ p, (t.port p).committed = (s.port p).committed
  grow : Grow s t

theorem LinkWork.refl (s : State) : LinkWork s s := ⟨rfl, rfl, rfl, rfl, rfl, rfl, fun _ => rfl, .refl s⟩

theorem LinkWork.trans {s t u : State} (h : LinkWork s t) (k : LinkWork t u) : LinkWork s u :=
  ⟨k.periods.trans h.periods, k.autoUp.trans h.autoUp, k.audio.trans h.audio, k.live.trans h.live, k.rg.trans h.rg,
    k.lineA.trans h.lineA, fun p => (k.committed p).trans (h.committed p), h.grow.trans k.grow⟩

theorem LinkWork.insideFrame {s t : State} (h : LinkWork s t) : t.insideFrame = s.insideFrame := by
  simp only [State.insideFrame, h.periods]

theorem setLink_work (i : Fin 16) (l : LinkRec) (s : State) : LinkWork s (s.setLink i l) :=
  ⟨rfl, rfl, rfl, rfl, rfl, rfl, fun p => by rw [setLink_port], .of_ports rfl rfl⟩

theorem post_work (s : State) {ns : List Notice} (h : ns.filter Notice.isSync = []) : LinkWork s (s.post ns) :=
  ⟨rfl, rfl, rfl, rfl, rfl, rfl, fun p => by rw [post_port, postAll_committed], post_grow s h⟩

theorem moveLink_work (i : Fin 16) (l : LinkRec) (cause : LinkCause) (code : Option Byte) (f : MuteRec → MuteRec)
    (clears removes : Bool) (s : State) : LinkWork s (moveLink i l cause code f clears removes s) where
  periods := by cases clears <;> cases removes <;> simp [moveLink, afterLinkChange]
  autoUp := by cases clears <;> cases removes <;> simp [moveLink, afterLinkChange]
  audio := (moveLink_only ..).2.1
  live := (moveLink_only ..).2.2.1
  rg := (moveLink_only ..).2.2.2
  lineA := by cases clears <;> cases removes <;> simp [moveLink, afterLinkChange]
  committed p := by rw [moveLink_port, postAll_committed]
  grow p := by rw [moveLink_port]; exact postAll_grows _ (moveNotices_noSync ..)

theorem refuseDoze_work (cause : LinkCause) (i : Fin 16) (s : State) : LinkWork s (refuseDoze cause i s) :=
  (setLink_work ..).trans (post_work _ rfl)

theorem failAttempt_work (i : Fin 16) (s : State) : LinkWork s (failAttempt i s) := by
  simp only [failAttempt]
  split
  · exact (setLink_work ..).trans (moveLink_work ..)
  · exact setLink_work ..

/-! ## The record of a link after each of its events -/

/-- Entry to TRAINING (R137). -/
def LinkRec.trained (inside : Bool) (l : LinkRec) : LinkRec :=
  { l.beginAttempt inside with state := .training, autoPending := false, autoWait := false }

/-- A doze refusal (R131). -/
def LinkRec.refused (l : LinkRec) : LinkRec := { l.noHandshake with dozeRefused := true }

/-- Entry to DOWN at a boundary's own event (R137). -/
def LinkRec.downed (inside auto : Bool) (l : LinkRec) : LinkRec :=
  let arms := auto && decide (l.state ≠ .detached)
  { l.noHandshake with
    state := .down, lock := false, armed := arms, dozeRefused := false, attemptCount := 0, identity := none
    autoPending := arms, autoWait := arms && inside }

/-- The auto-up boundary (R137). -/
def LinkRec.autoUpped (inside : Bool) (l : LinkRec) : LinkRec :=
  if l.state = .down ∧ l.autoPending = true then
    if l.autoWait then { l with autoWait := false }
    else if l.armed then l.trained inside
    else { l with autoPending := false }
  else l

/-- The judgment of a frame (R123, R128, R130). -/
def LinkRec.judged (inside : Bool) (l : LinkRec) : LinkRec :=
  if l.state.inTraining then (if l.goodFrame then l else { l with run := 0 })
  else if l.whole then
    if l.goodFrame then { l with badRun := 0 }
    else if l.countBad.badRun = Config.badRunTop then l.countBad.retrained inside
    else l.countBad
  else l

/-- A failed attempt (R128). -/
def LinkRec.attemptFailed (inside : Bool) (l : LinkRec) : LinkRec :=
  if Config.attemptsMax ≤ l.attemptCount + 1 then
    LinkRec.faulted none inside { l with attemptCount := Config.attemptsMax, attemptTimer := Config.attemptTop }
  else { l.beginAttempt inside with attemptCount := l.attemptCount + 1 }

/-- The doze handshake's expiry (R131). -/
def LinkRec.dozeExpired (l : LinkRec) : LinkRec :=
  if l.handshake = .doze ∧ l.hsTimer = Config.handshakeTop then l.refused else l

/-- The detach handshake's expiry (R134). -/
def LinkRec.detachExpired (inside : Bool) (l : LinkRec) : LinkRec :=
  if l.handshake = .detach ∧ l.hsTimer = Config.handshakeTop then l.faulted none inside else l

/-- The attempt timer's expiry (R128). -/
def LinkRec.attemptExpired (inside : Bool) (l : LinkRec) : LinkRec :=
  if l.state.inTraining = true ∧ l.attemptTimer = Config.attemptTop then l.attemptFailed inside else l

/-- The end of residency in FAULT (R136). -/
def LinkRec.residencyEnded (inside auto : Bool) (l before : LinkRec) : LinkRec :=
  if l.state = .fault ∧ l.residency = Config.residencyTop ∧ before.residency ≠ Config.residencyTop ∧ l.requested = .up
  then l.downed inside auto else l

/-- A link's record after its events at a boundary (log 3). -/
def LinkRec.atBoundary (inside auto : Bool) (l : LinkRec) : LinkRec :=
  ((((l.raiseTimers.autoUpped inside).judged inside).dozeExpired.detachExpired inside).attemptExpired inside).residencyEnded
    inside auto l

theorem setLink_link (i : Fin 16) (l : LinkRec) (s : State) : (s.setLink i l).links[i] = l := put_same ..

theorem enterTraining_eq (cause : LinkCause) (i : Fin 16) (s : State) : enterTraining cause i s =
    moveLink i ((s.links[i]).trained s.insideFrame) cause none id false false s := rfl

theorem enterDown_timed_eq (cause : LinkCause) (i : Fin 16) (s : State) : enterDown cause true i s =
    moveLink i ((s.links[i]).downed s.insideFrame s.autoUp[i]) cause none MuteRec.dropPrivacy true true s := by
  simp only [enterDown, LinkRec.downed, Bool.and_true]
  rfl

theorem enterTraining_link (cause : LinkCause) (i : Fin 16) (s : State) :
    (enterTraining cause i s).links[i] = (s.links[i]).trained s.insideFrame := by
  rw [enterTraining_eq, moveLink_links, put_same]

theorem enterDown_timed_link (cause : LinkCause) (i : Fin 16) (s : State) :
    (enterDown cause true i s).links[i] = (s.links[i]).downed s.insideFrame s.autoUp[i] := by
  rw [enterDown_timed_eq, moveLink_links, put_same]

theorem refuseDoze_eq (cause : LinkCause) (i : Fin 16) (s : State) :
    refuseDoze cause i s = (s.setLink i (s.links[i]).refused).post [.dozeRefused i cause] := rfl

theorem refuseDoze_link (cause : LinkCause) (i : Fin 16) (s : State) :
    (refuseDoze cause i s).links[i] = (s.links[i]).refused := by rw [refuseDoze_eq, post_links, setLink_link]

theorem autoUpBoundary_step (i : Fin 16) (s : State) :
    LinkWork s (autoUpBoundary i s) ∧ (autoUpBoundary i s).links[i] = (s.links[i]).autoUpped s.insideFrame := by
  simp only [autoUpBoundary, LinkRec.autoUpped]
  split_ifs
  · exact ⟨setLink_work .., setLink_link ..⟩
  · exact ⟨moveLink_work .., enterTraining_link ..⟩
  · exact ⟨setLink_work .., setLink_link ..⟩
  · exact ⟨.refl s, rfl⟩

theorem judgeFrame_step (i : Fin 16) (s : State) :
    LinkWork s (judgeFrame i s) ∧ (judgeFrame i s).links[i] = (s.links[i]).judged s.insideFrame := by
  simp only [judgeFrame, LinkRec.judged]
  split_ifs
  · exact ⟨.refl s, rfl⟩
  · exact ⟨setLink_work .., setLink_link ..⟩
  · exact ⟨setLink_work .., setLink_link ..⟩
  · exact ⟨(setLink_work ..).trans (moveLink_work ..), by rw [enterRetrain_link, setLink_link]; rfl⟩
  · exact ⟨setLink_work .., setLink_link ..⟩
  · exact ⟨.refl s, rfl⟩

theorem enterFault_link (cause : LinkCause) (code : Option Byte) (i : Fin 16) (s : State) :
    (enterFault cause code i s).links[i] = (s.links[i]).faulted code s.insideFrame := by
  rw [enterFault_eq, moveLink_links, put_same]

theorem failAttempt_link (i : Fin 16) (s : State) :
    (failAttempt i s).links[i] = (s.links[i]).attemptFailed s.insideFrame := by
  simp only [failAttempt, LinkRec.attemptFailed]
  split_ifs
  · rw [enterFault_link, setLink_link]; rfl
  · exact setLink_link ..

theorem residencyBoundary_step (before : LinkRec) (i : Fin 16) (s : State) :
    LinkWork s (residencyBoundary before i s)
    ∧ (residencyBoundary before i s).links[i] = (s.links[i]).residencyEnded s.insideFrame s.autoUp[i] before := by
  simp only [residencyBoundary, LinkRec.residencyEnded]
  split_ifs
  · exact ⟨moveLink_work .., enterDown_timed_link ..⟩
  · exact ⟨.refl s, rfl⟩

/-! ### The three timeouts, one after another -/

/-- The doze handshake's expiry at a boundary. -/
def dozeExpiry (i : Fin 16) (s : State) : State :=
  if (s.links[i]).handshake = .doze ∧ (s.links[i]).hsTimer = Config.handshakeTop then refuseDoze .noAck i s else s

/-- The detach handshake's expiry at a boundary. -/
def detachExpiry (i : Fin 16) (s : State) : State :=
  if (s.links[i]).handshake = .detach ∧ (s.links[i]).hsTimer = Config.handshakeTop then enterFault .noAck none i s else s

/-- The attempt timer's expiry at a boundary. -/
def attemptExpiry (i : Fin 16) (s : State) : State :=
  if (s.links[i]).state.inTraining = true ∧ (s.links[i]).attemptTimer = Config.attemptTop then failAttempt i s else s

theorem linkTimeouts_eq (i : Fin 16) (s : State) : linkTimeouts i s = attemptExpiry i (detachExpiry i (dozeExpiry i s)) := rfl

theorem dozeExpiry_step (i : Fin 16) (s : State) :
    LinkWork s (dozeExpiry i s) ∧ (dozeExpiry i s).links[i] = (s.links[i]).dozeExpired := by
  unfold dozeExpiry LinkRec.dozeExpired
  split_ifs
  · exact ⟨refuseDoze_work .., refuseDoze_link ..⟩
  · exact ⟨.refl s, rfl⟩

theorem detachExpiry_step (i : Fin 16) (s : State) :
    LinkWork s (detachExpiry i s) ∧ (detachExpiry i s).links[i] = (s.links[i]).detachExpired s.insideFrame := by
  unfold detachExpiry LinkRec.detachExpired
  split_ifs
  · exact ⟨moveLink_work .., enterFault_link ..⟩
  · exact ⟨.refl s, rfl⟩

theorem attemptExpiry_step (i : Fin 16) (s : State) :
    LinkWork s (attemptExpiry i s) ∧ (attemptExpiry i s).links[i] = (s.links[i]).attemptExpired s.insideFrame := by
  unfold attemptExpiry LinkRec.attemptExpired
  split_ifs
  · exact ⟨failAttempt_work .., failAttempt_link ..⟩
  · exact ⟨.refl s, rfl⟩

/-- A link's events at a boundary: their frame, and the record that they leave (R127 to R137). -/
theorem linkBoundary_step (s : State) (i : Fin 16) :
    LinkWork s (linkBoundary s i) ∧ (linkBoundary s i).links[i] = (s.links[i]).atBoundary s.insideFrame s.autoUp[i] := by
  rw [linkBoundary, linkTimeouts_eq]
  have w0 := setLink_work i (s.links[i]).raiseTimers s
  have e0 := setLink_link i (s.links[i]).raiseTimers s
  generalize s.setLink i (s.links[i]).raiseTimers = s0 at w0 e0 ⊢
  obtain ⟨w1, e1⟩ := autoUpBoundary_step i s0
  generalize autoUpBoundary i s0 = s1 at w1 e1 ⊢
  obtain ⟨w2, e2⟩ := judgeFrame_step i s1
  generalize judgeFrame i s1 = s2 at w2 e2 ⊢
  obtain ⟨w3, e3⟩ := dozeExpiry_step i s2
  generalize dozeExpiry i s2 = s3 at w3 e3 ⊢
  obtain ⟨w4, e4⟩ := detachExpiry_step i s3
  generalize detachExpiry i s3 = s4 at w4 e4 ⊢
  obtain ⟨w5, e5⟩ := attemptExpiry_step i s4
  generalize attemptExpiry i s4 = s5 at w5 e5 ⊢
  obtain ⟨w6, e6⟩ := residencyBoundary_step s.links[i] i s5
  have v1 := w0.trans w1
  have v2 := v1.trans w2
  have v3 := v2.trans w3
  have v4 := v3.trans w4
  have v5 := v4.trans w5
  refine ⟨v5.trans w6, ?_⟩
  rw [e6, e5, e4, e3, e2, e1, e0, w0.insideFrame, v1.insideFrame, v3.insideFrame, v4.insideFrame, v5.insideFrame, v5.autoUp]
  rfl

/-- All links' events at a boundary: their frame, and the record of each link, by its own record alone. -/
theorem linkBoundaries_step (s : State) :
    LinkWork s (mics.foldl linkBoundary s)
    ∧ ∀ i : Fin 16, (mics.foldl linkBoundary s).links[i] = (s.links[i]).atBoundary s.insideFrame s.autoUp[i] := by
  have general (l : List (Fin 16)) (hl : l.Nodup) (u : State) : LinkWork u (l.foldl linkBoundary u)
      ∧ ∀ i : Fin 16, (l.foldl linkBoundary u).links[i]
          = if i ∈ l then (u.links[i]).atBoundary u.insideFrame u.autoUp[i] else u.links[i] := by
    induction l generalizing u with
    | nil => exact ⟨.refl u, fun i => (if_neg List.not_mem_nil).symm⟩
    | cons m l ih =>
      obtain ⟨hm, hl⟩ := List.nodup_cons.1 hl
      obtain ⟨w, e⟩ := linkBoundary_step u m
      obtain ⟨other, -⟩ := linkBoundary_only m u
      obtain ⟨w', e'⟩ := ih hl (linkBoundary u m)
      rw [List.foldl_cons]
      refine ⟨w.trans w', fun i => ?_⟩
      rw [e' i, w.insideFrame, w.autoUp]
      by_cases hi : i = m
      · subst hi
        rw [if_neg hm, if_pos (List.mem_cons_self ..), e]
      · simp only [List.mem_cons, hi, false_or, other i hi]
  obtain ⟨w, e⟩ := general mics (List.nodup_finRange 16) s
  exact ⟨w, fun i => (e i).trans (if_pos (List.mem_finRange i))⟩

/-! ## What the record after a boundary does not depend on -/

theorem autoUpped_kept (inside : Bool) (l : LinkRec) :
    (l.autoUpped inside).arrival = l.arrival ∧ (l.autoUpped inside).wasActive = l.wasActive := by
  unfold LinkRec.autoUpped; split_ifs <;> exact ⟨rfl, rfl⟩

theorem retrained_kept (inside : Bool) (l : LinkRec) :
    (l.retrained inside).arrival = l.arrival ∧ (l.retrained inside).wasActive = l.wasActive := by
  unfold LinkRec.retrained LinkRec.dropDoze; split_ifs <;> exact ⟨rfl, rfl⟩

theorem judged_kept (inside : Bool) (l : LinkRec) :
    (l.judged inside).arrival = l.arrival ∧ (l.judged inside).wasActive = l.wasActive := by
  have h := retrained_kept inside l.countBad
  unfold LinkRec.judged; split_ifs
  · exact ⟨rfl, rfl⟩
  · exact ⟨rfl, rfl⟩
  · exact ⟨rfl, rfl⟩
  · exact h
  · exact ⟨rfl, rfl⟩
  · exact ⟨rfl, rfl⟩

theorem dozeExpired_kept (l : LinkRec) : l.dozeExpired.arrival = l.arrival ∧ l.dozeExpired.wasActive = l.wasActive := by
  unfold LinkRec.dozeExpired; split_ifs <;> exact ⟨rfl, rfl⟩

theorem detachExpired_kept (inside : Bool) (l : LinkRec) :
    (l.detachExpired inside).arrival = l.arrival ∧ (l.detachExpired inside).wasActive = l.wasActive := by
  unfold LinkRec.detachExpired; split_ifs <;> exact ⟨rfl, rfl⟩

theorem attemptExpired_kept (inside : Bool) (l : LinkRec) :
    (l.attemptExpired inside).arrival = l.arrival ∧ (l.attemptExpired inside).wasActive = l.wasActive := by
  unfold LinkRec.attemptExpired LinkRec.attemptFailed; split_ifs <;> exact ⟨rfl, rfl⟩

theorem residencyEnded_kept (inside auto : Bool) (before l : LinkRec) :
    (l.residencyEnded inside auto before).arrival = l.arrival
    ∧ (l.residencyEnded inside auto before).wasActive = l.wasActive := by
  unfold LinkRec.residencyEnded; split_ifs <;> exact ⟨rfl, rfl⟩

/-- A link's events at a boundary leave its arrived frame and the mark of the previous boundary (R6). -/
theorem atBoundary_kept (inside auto : Bool) (l : LinkRec) :
    (l.atBoundary inside auto).arrival = l.arrival ∧ (l.atBoundary inside auto).wasActive = l.wasActive := by
  have trans {a b c : LinkRec} (h : c.arrival = b.arrival ∧ c.wasActive = b.wasActive)
      (k : b.arrival = a.arrival ∧ b.wasActive = a.wasActive) : c.arrival = a.arrival ∧ c.wasActive = a.wasActive :=
    ⟨h.1.trans k.1, h.2.trans k.2⟩
  exact trans (residencyEnded_kept ..) (trans (attemptExpired_kept ..) (trans (detachExpired_kept ..)
    (trans (dozeExpired_kept _) (trans (judged_kept ..) (autoUpped_kept ..)))))

/-- The record without the marks that say whether a condition began inside the frame. -/
def LinkRec.unmarked (l : LinkRec) : LinkRec := { l with attemptFresh := false, residencyFresh := false, autoWait := false }

theorem autoUpped_unmarked (inside : Bool) (l : LinkRec) :
    (l.autoUpped inside).unmarked = (l.autoUpped false).unmarked := by
  unfold LinkRec.autoUpped; split_ifs <;> rfl

theorem retrained_unmarked (inside : Bool) (l : LinkRec) :
    (l.retrained inside).unmarked = (l.unmarked.retrained false).unmarked := by
  unfold LinkRec.retrained LinkRec.dropDoze
  by_cases h : l.handshake = .doze
  · rw [if_pos h, if_pos (show l.unmarked.handshake = .doze from h)]; rfl
  · rw [if_neg h, if_neg (show ¬l.unmarked.handshake = .doze from h)]; rfl

theorem judged_unmarked (inside : Bool) (l : LinkRec) :
    (l.judged inside).unmarked = (l.unmarked.judged false).unmarked := by
  have hr := retrained_unmarked inside l.countBad
  have h1 : l.unmarked.state = l.state := rfl
  have h2 : l.unmarked.goodFrame = l.goodFrame := rfl
  have h3 : l.unmarked.whole = l.whole := rfl
  have h4 : l.unmarked.countBad = l.countBad.unmarked := rfl
  have h5 : l.countBad.unmarked.badRun = l.countBad.badRun := rfl
  unfold LinkRec.judged
  rw [h1, h2, h3, h4, h5]
  split_ifs
  · rfl
  · rfl
  · rfl
  · exact hr
  · rfl
  · rfl

theorem dozeExpired_unmarked (l : LinkRec) : l.dozeExpired.unmarked = l.unmarked.dozeExpired.unmarked := by
  have h1 : l.unmarked.handshake = l.handshake := rfl
  have h2 : l.unmarked.hsTimer = l.hsTimer := rfl
  unfold LinkRec.dozeExpired
  rw [h1, h2]
  split_ifs <;> rfl

theorem detachExpired_unmarked (inside : Bool) (l : LinkRec) :
    (l.detachExpired inside).unmarked = (l.unmarked.detachExpired false).unmarked := by
  have h1 : l.unmarked.handshake = l.handshake := rfl
  have h2 : l.unmarked.hsTimer = l.hsTimer := rfl
  unfold LinkRec.detachExpired
  rw [h1, h2]
  split_ifs <;> rfl

theorem attemptExpired_unmarked (inside : Bool) (l : LinkRec) :
    (l.attemptExpired inside).unmarked = (l.unmarked.attemptExpired false).unmarked := by
  have h1 : l.unmarked.state = l.state := rfl
  have h2 : l.unmarked.attemptTimer = l.attemptTimer := rfl
  have h3 : l.unmarked.attemptCount = l.attemptCount := rfl
  unfold LinkRec.attemptExpired LinkRec.attemptFailed
  rw [h1, h2, h3]
  split_ifs <;> rfl

theorem residencyEnded_unmarked (inside auto : Bool) (before l : LinkRec) :
    (l.residencyEnded inside auto before).unmarked = (l.unmarked.residencyEnded false auto before).unmarked := by
  have h1 : l.unmarked.state = l.state := rfl
  have h2 : l.unmarked.residency = l.residency := rfl
  have h3 : l.unmarked.requested = l.requested := rfl
  unfold LinkRec.residencyEnded
  rw [h1, h2, h3]
  split_ifs <;> rfl

/-- Whether the boundary is taken inside a frame shows in the marks of the record alone. -/
theorem atBoundary_unmarked (inside auto : Bool) (l : LinkRec) :
    (l.atBoundary inside auto).unmarked = (l.atBoundary false auto).unmarked := by
  unfold LinkRec.atBoundary
  rw [residencyEnded_unmarked, attemptExpired_unmarked, detachExpired_unmarked, dozeExpired_unmarked, judged_unmarked,
    autoUpped_unmarked]
  rw [← judged_unmarked, ← dozeExpired_unmarked, ← detachExpired_unmarked, ← attemptExpired_unmarked,
    ← residencyEnded_unmarked]

theorem unmarked_delivered (l : LinkRec) : l.unmarked.delivered = l.delivered := rfl
theorem unmarked_whole (l : LinkRec) : l.unmarked.whole = l.whole := rfl

/-- What a link hands over at a boundary, and whether it stands ACTIVE at both, taken inside the frame or at its end (R6). -/
theorem atBoundary_handover (inside auto : Bool) (l : LinkRec) :
    (l.atBoundary inside auto).delivered = (l.atBoundary false auto).delivered
    ∧ (l.atBoundary inside auto).whole = (l.atBoundary false auto).whole := by
  have h := atBoundary_unmarked inside auto l
  constructor
  · rw [← unmarked_delivered, h, unmarked_delivered]
  · rw [← unmarked_whole, h, unmarked_whole]

end Sys2Proof.Machine
end

section
/-! SUPPORT. A boundary at which no link changes its state moves no hold, gate or floor record (the premise `LinksStay`). -/

namespace Sys2Proof.Machine
open Host

/-- The mute records, the gates and the floor records stand as they were. -/
structure MuteStill (s t : State) : Prop where
  mute : t.mute = s.mute
  gates : t.gates = s.gates
  floors : t.floors = s.floors

theorem MuteStill.refl (s : State) : MuteStill s s := ⟨rfl, rfl, rfl⟩

theorem MuteStill.trans {s t u : State} (h : MuteStill s t) (k : MuteStill t u) : MuteStill s u :=
  ⟨k.mute.trans h.mute, k.gates.trans h.gates, k.floors.trans h.floors⟩

theorem setLink_still (i : Fin 16) (l : LinkRec) (s : State) : MuteStill s (s.setLink i l) := ⟨rfl, rfl, rfl⟩

/-- The link has left the state `st` that it had before the boundary, for one from which the boundary does not bring it back. -/
def LeftFor (st : LinkState) (l : LinkRec) : Prop :=
  (st = .down ∧ l.state = .training) ∨ (st = .active ∧ l.state = .retrain) ∨ (st ≠ .fault ∧ l.state = .fault ∧ l.residency = 0)

/-- Midway through link `i`'s events: nothing moved in the mute, gating and floor units and the link keeps its state, or it has
left it. -/
def Midway (i : Fin 16) (st : LinkState) (s₀ s : State) : Prop :=
  (MuteStill s₀ s ∧ (s.links[i]).state = st ∧ (st = .fault → (s.links[i]).handshake = .none)) ∨ LeftFor st s.links[i]

theorem inTraining_iff (st : LinkState) : st.inTraining = true ↔ st = .training ∨ st = .retrain := decide_eq_true_iff

/-- A link that has left its state stays so where its state and residency do. -/
theorem LeftFor.of_same {st : LinkState} {l l' : LinkRec} (h : LeftFor st l) (hs : l'.state = l.state)
    (hr : l'.residency = l.residency) : LeftFor st l' := by
  unfold LeftFor at h ⊢
  rwa [hs, hr]

theorem LeftFor.ne_fault {st : LinkState} {l : LinkRec} (h : LeftFor st l) : st ≠ .fault := by
  rcases h with ⟨rfl, -⟩ | ⟨rfl, -⟩ | ⟨h, -, -⟩
  · exact LinkState.noConfusion
  · exact LinkState.noConfusion
  · exact h

/-- A fault entered from another state leaves that state. -/
theorem leftFor_faulted {st : LinkState} (h : st ≠ .fault) (code : Option Byte) (inside : Bool) (l : LinkRec) :
    LeftFor st (l.faulted code inside) := .inr (.inr ⟨h, rfl, rfl⟩)

section
variable {i : Fin 16} {st : LinkState} {s₀ s : State}

theorem Midway.setLink (h : Midway i st s₀ s) {l : LinkRec} (hs : l.state = (s.links[i]).state)
    (hh : l.handshake = (s.links[i]).handshake) (hr : l.residency = (s.links[i]).residency) : Midway i st s₀ (s.setLink i l) := by
  unfold Midway
  rw [setLink_link]
  rcases h with ⟨hm, hst, hf⟩ | h
  · exact .inl ⟨hm.trans (setLink_still ..), hs.trans hst, fun h => hh.trans (hf h)⟩
  · exact .inr (h.of_same hs hr)

theorem midway_autoUp (hm : MuteStill s₀ s) (hst : (s.links[i]).state = st)
    (hf : st = .fault → (s.links[i]).handshake = .none) : Midway i st s₀ (autoUpBoundary i s) := by
  have h : Midway i st s₀ s := .inl ⟨hm, hst, hf⟩
  simp only [autoUpBoundary]
  split_ifs with h1 h2 h3
  · exact h.setLink rfl rfl rfl
  · refine .inr (.inl ⟨hst ▸ h1.1, ?_⟩)
    rw [enterTraining_link]
    rfl
  · exact h.setLink rfl rfl rfl
  · exact h

theorem midway_judge (h : Midway i st s₀ s) : Midway i st s₀ (judgeFrame i s) := by
  simp only [judgeFrame]
  split_ifs with h1 h2 h3 h4 h5
  · exact h
  · exact h.setLink rfl rfl rfl
  · exact h.setLink rfl rfl rfl
  · have hact : (s.links[i]).state = .active := of_decide_eq_true (Bool.and_eq_true_iff.1 h3).2
    rcases h with ⟨-, hst, -⟩ | h | h | h
    · refine .inr (.inr (.inl ⟨hst ▸ hact, ?_⟩))
      rw [enterRetrain_link]
      rfl
    · exact LinkState.noConfusion (hact.symm.trans h.2)
    · exact LinkState.noConfusion (hact.symm.trans h.2)
    · exact LinkState.noConfusion (hact.symm.trans h.2.1)
  · exact h.setLink rfl rfl rfl
  · exact h

theorem midway_doze (h : Midway i st s₀ s) : Midway i st s₀ (dozeExpiry i s) := by
  simp only [dozeExpiry]
  split_ifs with hd
  · unfold Midway
    rw [refuseDoze_link]
    rcases h with ⟨hm, hst, -⟩ | h
    · exact .inl ⟨hm.trans ⟨rfl, rfl, rfl⟩, hst, fun _ => rfl⟩
    · exact .inr (h.of_same rfl rfl)
  · exact h

theorem midway_detach (h : Midway i st s₀ s) : Midway i st s₀ (detachExpiry i s) := by
  simp only [detachExpiry]
  split_ifs with hd
  · unfold Midway
    rw [enterFault_link]
    rcases h with ⟨-, -, hf⟩ | h
    · exact .inr (leftFor_faulted (fun h => Handshake.noConfusion ((hf h).symm.trans hd.1)) ..)
    · exact .inr (leftFor_faulted h.ne_fault ..)
  · exact h

theorem midway_attempt (h : Midway i st s₀ s) : Midway i st s₀ (attemptExpiry i s) := by
  simp only [attemptExpiry, failAttempt]
  split_ifs with ht hn
  · have hne : st ≠ .fault := by
      rcases h with ⟨-, hst, -⟩ | h
      · rintro rfl
        rw [hst] at ht
        exact absurd ht.1 (by decide)
      · exact h.ne_fault
    unfold Midway
    rw [enterFault_link]
    exact .inr (leftFor_faulted hne ..)
  · exact h.setLink rfl rfl rfl
  · exact h

/-- The last of the events: a link that stands in its old state has moved nothing. -/
theorem midway_residency (h : Midway i st s₀ s) (before : LinkRec)
    (hst : ((residencyBoundary before i s).links[i]).state = st) : MuteStill s₀ (residencyBoundary before i s) := by
  simp only [residencyBoundary] at hst ⊢
  split_ifs at hst ⊢ with hr
  · exfalso
    have hdown : ((enterDown .residency true i s).links[i]).state = .down := by
      rw [enterDown_timed_link]
      rfl
    rw [hst] at hdown
    obtain ⟨hfault, htop, -, -⟩ := hr
    rcases h with ⟨-, h, -⟩ | ⟨-, h⟩ | ⟨-, h⟩ | ⟨-, -, h⟩
    · exact LinkState.noConfusion (hfault.symm.trans (h.trans hdown))
    · exact LinkState.noConfusion (hfault.symm.trans h)
    · exact LinkState.noConfusion (hfault.symm.trans h)
    · exact absurd (htop.symm.trans h) (by decide)
  · rcases h with ⟨hm, -, -⟩ | ⟨hd, ht⟩ | ⟨ha, ht⟩ | ⟨hne, ht, -⟩
    · exact hm
    · exact LinkState.noConfusion (hd.symm.trans (hst.symm.trans ht))
    · exact LinkState.noConfusion (ha.symm.trans (hst.symm.trans ht))
    · exact absurd (hst.symm.trans ht) hne

end

/-- A link whose state a boundary leaves, and that has no handshake pending in FAULT, moves no hold, gate or floor entry. -/
theorem linkBoundary_still (s : State) (i : Fin 16) (hst : ((linkBoundary s i).links[i]).state = (s.links[i]).state)
    (hf : (s.links[i]).state = .fault → (s.links[i]).handshake = .none) : MuteStill s (linkBoundary s i) := by
  have h0 : ((s.setLink i (s.links[i]).raiseTimers).links[i]).state = (s.links[i]).state := by rw [setLink_link]; rfl
  have h1 : ((s.setLink i (s.links[i]).raiseTimers).links[i]).handshake = (s.links[i]).handshake := by rw [setLink_link]; rfl
  rw [linkBoundary, linkTimeouts_eq] at hst ⊢
  exact midway_residency (midway_attempt (midway_detach (midway_doze (midway_judge
    (midway_autoUp (setLink_still ..) h0 fun h => h1.trans (hf h)))))) _ hst

/-- A boundary at which every link keeps its state moves no hold, gate or floor entry. -/
theorem linkBoundaries_still (s : State)
    (h : ∀ i : Fin 16, ((mics.foldl linkBoundary s).links[i]).state = (s.links[i]).state
      ∧ ((s.links[i]).state = .fault → (s.links[i]).handshake = .none)) : MuteStill s (mics.foldl linkBoundary s) := by
  have general (l : List (Fin 16)) (hl : l.Nodup) (u : State) (hu : LinkWork s u)
      (hsame : ∀ i ∈ l, u.links[i] = s.links[i]) : MuteStill u (l.foldl linkBoundary u) := by
    induction l generalizing u with
    | nil => exact .refl u
    | cons m l ih =>
      obtain ⟨hm, hl⟩ := List.nodup_cons.1 hl
      obtain ⟨w, e⟩ := linkBoundary_step u m
      obtain ⟨other, -⟩ := linkBoundary_only m u
      have hum := hsame m (List.mem_cons_self ..)
      have hstate : ((linkBoundary u m).links[m]).state = (u.links[m]).state := by
        rw [e, hum, hu.insideFrame, hu.autoUp, ← (linkBoundaries_step s).2 m]
        exact (h m).1
      rw [List.foldl_cons]
      refine (linkBoundary_still u m hstate (by rw [hum]; exact (h m).2)).trans (ih hl _ (hu.trans w) fun i hi => ?_)
      rw [other i fun him => hm (him ▸ hi)]
      exact hsame i (List.mem_cons_of_mem _ hi)
  exact general mics (List.nodup_finRange 16) s (.refl s) fun _ _ => rfl

end Sys2Proof.Machine
end

section
/-! SUPPORT. The work of a boundary after the links' events (log 3): what each block's part leaves of the audio plane, the links and
the queues, and, where no switch is due, of the holds, gates and floor records. -/

namespace Sys2Proof.Machine
open Host

/-! ## What the later work leaves -/

/-- From `s` to `t` the ports, meters, links, sample periods, downstream frames and Port A's line stand as they were, and the queues
took no SYNC notice. -/
structure PlaneKept (s t : State) : Prop where
  audio : t.audio = s.audio
  links : t.links = s.links
  periods : t.periods = s.periods
  down : t.down = s.down
  lineA : t.lineA = s.lineA
  grow : Grow s t

theorem PlaneKept.refl (s : State) : PlaneKept s s := ⟨rfl, rfl, rfl, rfl, rfl, .refl s⟩

theorem PlaneKept.trans {s t u : State} (h : PlaneKept s t) (k : PlaneKept t u) : PlaneKept s u :=
  ⟨k.audio.trans h.audio, k.links.trans h.links, k.periods.trans h.periods, k.down.trans h.down, k.lineA.trans h.lineA,
    h.grow.trans k.grow⟩

theorem PlaneKept.foldl {α : Type} {f : State → α → State} (h : ∀ s x, PlaneKept s (f s x)) (l : List α) (s : State) :
    PlaneKept s (l.foldl f s) := by
  induction l generalizing s with
  | nil => exact .refl s
  | cons x l ih => exact (h s x).trans (ih (f s x))

theorem PlaneKept.ite {s t u : State} {c : Prop} [Decidable c] (h : PlaneKept s t) (k : PlaneKept s u) :
    PlaneKept s (if c then t else u) := by split <;> assumption

/-- From `s` to `t` all that an indicator state reads, besides the links, stands as it was, and so do the committed batches. -/
structure HoldsKept (s t : State) : Prop where
  still : MuteStill s t
  live : t.live = s.live
  map : t.rg.map = s.rg.map
  committed : ∀ p, (t.port p).committed = (s.port p).committed

theorem HoldsKept.refl (s : State) : HoldsKept s s := ⟨.refl s, rfl, rfl, fun _ => rfl⟩

theorem HoldsKept.trans {s t u : State} (h : HoldsKept s t) (k : HoldsKept t u) : HoldsKept s u :=
  ⟨h.still.trans k.still, k.live.trans h.live, k.map.trans h.map, fun p => (k.committed p).trans (h.committed p)⟩

/-- What an indicator state depends on (R88). -/
theorem indicator_congr {s t : State} (hm : t.mute = s.mute) (hg : t.gates = s.gates) (hf : t.floors = s.floors)
    (hl : t.live = s.live) (hr : t.rg.map = s.rg.map) (hk : t.links = s.links) (i : Fin 16) : t.indicator i = s.indicator i := by
  have hmode (p : Fin 4) : t.mode p = s.mode p := by simp only [State.mode, hr, hl]
  have hpart := micPart_congr hl hr i
  have hfloor : t.floorOf i = s.floorOf i := by simp only [State.floorOf, hpart, hf]
  have hchair : t.isChair i = s.isChair i := by simp only [State.isChair, hl]
  have hheld := heldSource_congr (holdSet_congr hm hl hk) (micSource i)
  simp only [State.indicator, State.floorIndicator, hpart, hmode, hfloor, hchair, hheld, hm, hg]

theorem holdsKept_indicator {s t : State} (h : HoldsKept s t) (hk : t.links = s.links) (i : Fin 16) :
    t.indicator i = s.indicator i :=
  indicator_congr h.still.mute h.still.gates h.still.floors h.live h.map hk i

/-! ## Posting -/

theorem post_plane (s : State) {ns : List Notice} (h : ns.filter Notice.isSync = []) : PlaneKept s (s.post ns) :=
  ⟨rfl, rfl, rfl, rfl, rfl, post_grow s h⟩

theorem post_holds (s : State) (ns : List Notice) : HoldsKept s (s.post ns) :=
  ⟨⟨rfl, rfl, rfl⟩, rfl, rfl, fun p => by rw [post_port, postAll_committed]⟩

/-- A port's record replaced by one with the same queue. -/
theorem setPort_plane (s : State) (p : Port) (r : PortRec) (hq : r.queue = (s.port p).queue)
    (ho : r.overflow = (s.port p).overflow) : PlaneKept s (s.setPort p r) := by
  refine ⟨by simp, by simp, by simp, by simp, by simp, fun q => ?_⟩
  by_cases h : q = p
  · subst h
    rw [setPort_port]
    exact .of_eq hq ho
  · rw [setPort_other s p q r h]
    exact .refl _

theorem setPort_holds (s : State) (p : Port) (r : PortRec) (h : r.committed = (s.port p).committed) :
    HoldsKept s (s.setPort p r) := by
  refine ⟨⟨by simp, by simp, by simp⟩, by simp, by simp, fun q => ?_⟩
  by_cases hq : q = p
  · subst hq
    rw [setPort_port, h]
  · rw [setPort_other s p q r hq]

theorem portPost_eq (r : PortRec) (n : Notice) : r.post n = r.postAll [n] := rfl

theorem postTo_plane (s : State) (p : Port) {n : Notice} (h : n.isSync = false) : PlaneKept s (s.postTo p n) := by
  refine ⟨by simp, by simp, by simp, by simp, by simp, fun q => ?_⟩
  by_cases hq : q = p
  · subst hq
    rw [State.postTo, setPort_port, portPost_eq]
    exact postAll_grows _ (by simp [h])
  · rw [State.postTo, setPort_other s p q _ hq]
    exact .refl _

theorem postTo_holds (s : State) (p : Port) (n : Notice) : HoldsKept s (s.postTo p n) :=
  setPort_holds s p _ (portPost_committed ..)

/-! ## Walls (R18, R19) -/

/-- The switch test of the boundary is taken, or no switch stands to be made. -/
def SwitchTested (s : State) : Prop := s.rg.state = .fadingOut → s.rg.tested = true

theorem SwitchTested.congr {s t : State} (h : SwitchTested s) (hr : t.rg = s.rg) : SwitchTested t := by
  unfold SwitchTested; rw [hr]; exact h

theorem regroupCause_plane (timed : Bool) (s : State) : PlaneKept s (regroupCause timed s) :=
  ⟨by simp, by simp, by simp, by simp, by simp, .of_ports (by simp) (by simp)⟩

theorem regroupCause_holds (timed : Bool) (s : State) : HoldsKept s (regroupCause timed s) :=
  ⟨⟨by simp, by simp, by simp⟩, by simp, regroupCause_map timed s, fun p => by cases p <;> simp [State.port]⟩

/-- A cause of a boundary leaves no switch to be made there (R27, R32). -/
theorem regroupCause_tested (s : State) (h : SwitchTested s) : SwitchTested (regroupCause true s) := by
  unfold SwitchTested regroupCause
  cases hst : s.rg.state
  · intro _; simp [Regroup.fadeOut]
  · dsimp only
    split
    · exact fun h => by simp [Regroup.turnBack] at h
    · exact fun _ => h hst
  · intro _; simp [Regroup.fadeOut]

/-- What a wall's sample leaves, besides the walls and the regroup machine (R18). -/
structure WallKept (s t : State) : Prop where
  plane : PlaneKept s t
  holds : HoldsKept s t
  tested : SwitchTested s → SwitchTested t

theorem WallKept.trans {s t u : State} (h : WallKept s t) (k : WallKept t u) : WallKept s u :=
  ⟨h.plane.trans k.plane, h.holds.trans k.holds, fun x => k.tested (h.tested x)⟩

theorem withWalls_kept (s : State) (w : Vector WallRec 3) : WallKept s { s with walls := w } :=
  ⟨⟨rfl, rfl, rfl, rfl, rfl, .of_ports rfl rfl⟩, ⟨⟨rfl, rfl, rfl⟩, rfl, rfl, fun p => by cases p <;> rfl⟩, fun h => h⟩

theorem senseChange_kept (w : Fin 3) (level : WallState) (s : State) : WallKept s (senseChange w level s) := by
  have hpost (u : State) : WallKept u (u.post [u.wallNotice w]) :=
    ⟨post_plane u rfl, post_holds u _, fun h => h.congr (post_rg ..)⟩
  have hcause (u : State) : WallKept u (regroupCause true u) :=
    ⟨regroupCause_plane true u, regroupCause_holds true u, regroupCause_tested u⟩
  simp only [senseChange]
  split
  · exact (withWalls_kept s _).trans (hpost _)
  · exact ((withWalls_kept s _).trans (hpost _)).trans (hcause _)

theorem sampleWall_kept (sense : Sense) (s : State) (w : Fin 3) : WallKept s (sampleWall sense s w) := by
  simp only [sampleWall]
  split_ifs
  · exact withWalls_kept ..
  · exact withWalls_kept ..
  · exact senseChange_kept ..

theorem sampleWalls_kept (sense : Sense) (s : State) : WallKept s ((List.finRange 3).foldl (sampleWall sense) s) := by
  have general (l : List (Fin 3)) (u : State) : WallKept u (l.foldl (sampleWall sense) u) := by
    induction l generalizing u with
    | nil => exact ⟨.refl u, .refl u, fun h => h⟩
    | cons w l ih => exact (sampleWall_kept sense u w).trans (ih _)
  exact general _ s

/-! ## Gates and floor (R92, R115) -/

theorem gateEvaluation_plane (s : State) (p : Fin 4) : PlaneKept s (gateEvaluation s p) :=
  ⟨by simp, by simp, by simp, by simp, by simp, .of_ports (by simp) (by simp)⟩

theorem floorPiece_noSync (p : Fin 4) (cfg : SectionRec) (r : FloorRec) :
    (floorPiece p cfg r).2.filter Notice.isSync = [] := by
  have hqueue (r : FloorRec) : (queueStage p cfg r).2.filter Notice.isSync = [] := filter_isSync_map _ _ fun _ => rfl
  have hexp (g : GrantEntry) : (expiryNotices p cfg g).filter Notice.isSync = [] := by
    unfold expiryNotices; split_ifs <;> rfl
  have hgrant (r : FloorRec) : (grantStage p cfg r).2.filter Notice.isSync = [] := by
    have hwarn (l : List GrantEntry) :
        (l.map fun g => Notice.speechWarn p g.mic cfg.speechLimit).filter Notice.isSync = [] :=
      filter_isSync_map _ _ fun _ => rfl
    simp only [grantStage, List.filter_append, hwarn, List.filter_flatMap, hexp, List.nil_append]
    simp
  have hfill (r : FloorRec) : (fillStage p cfg r).2.filter Notice.isSync = [] := by
    unfold fillStage
    split
    · exact filter_isSync_map _ _ fun _ => rfl
    · rfl
  simp only [floorPiece, List.filter_append, hqueue, hgrant, hfill, List.append_nil]

theorem setFloor_plane (p : Fin 4) (c : FloorChange) (s : State) (h : c.2.filter Notice.isSync = []) :
    PlaneKept s (setFloor p c s) :=
  ⟨by simp, by simp, by simp, by simp, by simp, fun q => by rw [setFloor_port]; exact postAll_grows _ h⟩

theorem floorWork_plane (s : State) (p : Fin 4) : PlaneKept s (floorWork s p) :=
  .ite (setFloor_plane p _ s (floorPiece_noSync ..)) (.refl s)

theorem withWorked_plane (s : State) (v : Vector Bool 4) : PlaneKept s (s.withWorked v) :=
  ⟨rfl, rfl, rfl, rfl, rfl, .of_ports rfl rfl⟩

theorem withWorked_port (s : State) (v : Vector Bool 4) (q : Port) : (s.withWorked v).port q = s.port q := by cases q <;> rfl

theorem takePieces_plane (s : State) : PlaneKept s (takePieces s) := by
  unfold takePieces
  exact (PlaneKept.foldl floorWork_plane slots s).trans (withWorked_plane ..)

theorem boundaryDecisions_plane (s : State) : PlaneKept s (boundaryDecisions s) :=
  (PlaneKept.foldl gateEvaluation_plane slots s).trans (takePieces_plane _)

/-- What the gating and floor units' decisions leave of the holds, the tables, the regroup machine and the committed batches. -/
theorem boundaryDecisions_kept (s : State) :
    (boundaryDecisions s).mute = s.mute ∧ (boundaryDecisions s).live = s.live ∧ (boundaryDecisions s).rg = s.rg
    ∧ ∀ p, ((boundaryDecisions s).port p).committed = (s.port p).committed := by
  have hfloor (u : State) (p : Fin 4) (q : Port) : ((floorWork u p).port q).committed = (u.port q).committed := by
    unfold floorWork
    split
    · rw [setFloor_port, postAll_committed]
    · rfl
  have hgate (u : State) (p : Fin 4) (q : Port) : (gateEvaluation u p).port q = u.port q := by
    cases q
    · exact gateEvaluation_portA u p
    · exact gateEvaluation_portB u p
  refine ⟨by simp [boundaryDecisions, slots_eq], by simp [boundaryDecisions, slots_eq], by simp [boundaryDecisions, slots_eq],
    fun p => ?_⟩
  simp only [boundaryDecisions, takePieces, withWorked_port, slots_eq, List.foldl_cons, List.foldl_nil, hfloor, hgate]

/-! ## Committed batches and the switch (R29, R152) -/

theorem settleHolds_plane (before s : State) : PlaneKept s (settleHolds before s) := by
  have hasks (l : List (Fin 16)) : (l.map fun m => Notice.unmute m false .cleared).filter Notice.isSync = [] :=
    filter_isSync_map _ _ fun _ => rfl
  refine ⟨by simp, by simp, by simp, by simp, by simp, fun q => ?_⟩
  rw [settleHolds, retarget_port, followHolds, clearAsks_port, post_port, closeHeld_port, postAll_append]
  exact postAll_grows _ (by rw [List.filter_append, holdsNotices_noSync, hasks]; rfl)

theorem clearAll_noSync (p : Fin 4) (r : FloorRec) : (FloorRec.clearAll p r).2.filter Notice.isSync = [] := by
  rw [FloorRec.clearAll, List.filter_append, filter_isSync_map _ _ fun _ => rfl, filter_isSync_map _ _ fun _ => rfl]
  rfl

theorem trimNewest_noSync (p : Fin 4) (limit : Nat) (r : FloorRec) :
    (FloorRec.trimNewest p limit r).2.filter Notice.isSync = [] := filter_isSync_map _ _ fun _ => rfl

theorem removeMics_noSync (p : Fin 4) (l : List (Fin 16)) (r : FloorRec) :
    (removeMics p l r).2.filter Notice.isSync = [] := by
  have general (c : FloorChange) (hc : c.2.filter Notice.isSync = []) :
      (l.foldl (fun c m => let d := FloorRec.removeMic p c.1 m; (d.1, c.2 ++ d.2)) c).2.filter Notice.isSync = [] := by
    induction l generalizing c with
    | nil => exact hc
    | cons m l ih => exact ih _ (by rw [List.filter_append, hc, removeMic_noSync]; rfl)
  exact general _ rfl

theorem floorAfterWrite_noSync (before s : State) (p : Fin 4) :
    (floorAfterWrite before s p).2.filter Notice.isSync = [] := by
  simp only [floorAfterWrite, List.filter_append, removeMics_noSync, List.nil_append]
  split
  · exact clearAll_noSync ..
  · exact trimNewest_noSync ..

theorem withUnits_plane (s : State) (g : Vector Gate 16) (a : Ahead) (f : Vector FloorRec 4) (m : Mute) :
    PlaneKept s { s with gates := g, ahead := a, floors := f, mute := m } := ⟨rfl, rfl, rfl, rfl, rfl, .of_ports rfl rfl⟩

theorem floorsAfterWrite_plane (before : State) (test : Fin 4 → Bool) (s : State) :
    PlaneKept s (floorsAfterWrite before test s) := by
  unfold floorsAfterWrite
  refine PlaneKept.foldl (fun t p => ?_) slots s
  split
  · exact (withUnits_plane t t.gates t.ahead _ t.mute).trans (post_plane _ (floorAfterWrite_noSync before s p))
  · exact .refl t

theorem withLive_plane (s : State) (img : Image) : PlaneKept s { s with live := img } :=
  ⟨rfl, rfl, rfl, rfl, rfl, .of_ports rfl rfl⟩

theorem placeLive_plane (img : Image) (s : State) : PlaneKept s (placeLive img s) := by
  have hgates (u : State) : PlaneKept u (gatesAfterWrite s u) := by
    unfold gatesAfterWrite
    exact withUnits_plane u _ _ u.floors u.mute
  simp only [placeLive]
  refine PlaneKept.trans ?_ (settleHolds_plane ..)
  exact ((withLive_plane s img).trans (hgates _)).trans (floorsAfterWrite_plane ..)

theorem applyBatch_plane (p : Port) (b : Batch) (s : State) : PlaneKept s (applyBatch p b s) := by
  simp only [applyBatch]
  split
  · exact (placeLive_plane ..).trans (postTo_plane _ p rfl)
  · exact placeLive_plane ..

theorem applyCommitted_plane (p : Port) (s : State) : PlaneKept s (applyCommitted p s) := by
  simp only [applyCommitted]
  exact (setPort_plane s p { s.port p with committed := [] } rfl rfl).trans
    (PlaneKept.foldl (fun t b => applyBatch_plane p b t) _ _)

/-- With no batch committed nothing is applied. -/
theorem applyCommitted_holds (p : Port) (s : State) (h : (s.port p).committed = []) : HoldsKept s (applyCommitted p s) := by
  simp only [applyCommitted, h, List.foldl_nil]
  exact setPort_holds s p _ h.symm

theorem rebuildFloor_noSync (old s : State) (discards : Bool) (p : Fin 4) :
    (rebuildFloor old s discards p).2.filter Notice.isSync = [] := by
  have hmap {α : Type} (l : List α) (f : α → Fin 16) (e : FloorEvent) :
      (l.map fun x => Notice.floor p (f x) e).filter Notice.isSync = [] := filter_isSync_map _ _ fun _ => rfl
  have hmics (l : List (Fin 16)) (e : FloorEvent) : (l.map fun m => Notice.floor p m e).filter Notice.isSync = [] := hmap l id e
  unfold rebuildFloor
  dsimp only
  split <;> simp only [List.filter_append, hmics, hmap, List.append_nil]

theorem switchFloor_noSync (old s : State) (placed : Bool) (p : Fin 4) :
    (switchFloor old s placed p).2.filter Notice.isSync = [] := by
  unfold switchFloor
  split_ifs
  · exact rebuildFloor_noSync ..
  · exact floorAfterWrite_noSync ..
  · rfl

theorem rebuildRecords_plane (old : State) (placed : Bool) (s : State) : PlaneKept s (rebuildRecords old placed s) := by
  have hnotices : ((slots.map (switchFloor old s placed)).flatMap Prod.snd).filter Notice.isSync = [] := by
    simp only [List.filter_flatMap, List.flatMap_eq_nil_iff, List.mem_map]
    rintro c ⟨p, -, rfl⟩
    exact switchFloor_noSync ..
  simp only [rebuildRecords]
  refine PlaneKept.trans ?_ (settleHolds_plane ..)
  exact (withUnits_plane ..).trans (post_plane _ hnotices)

theorem switchWalls_plane (s : State) : PlaneKept s (switchWalls s) := by
  simp only [switchWalls]
  exact (withWalls_kept s _).plane.trans (post_plane _ (filter_isSync_map _ _ fun _ => rfl))

theorem switchNow_plane (s : State) : PlaneKept s (switchNow s) := by
  have hfree (b : Option (Fin 2)) (u : State) : PlaneKept u (freeApplied b u) := by
    cases b <;> exact ⟨rfl, rfl, rfl, rfl, rfl, .of_ports rfl rfl⟩
  have hrg (u : State) (g : Regroup) : PlaneKept u { u with rg := g } := ⟨rfl, rfl, rfl, rfl, rfl, .of_ports rfl rfl⟩
  have hbatch (l : List PendingBatch) (u : State) : PlaneKept u (batchNotices l u) := by
    unfold batchNotices
    refine PlaneKept.foldl (fun t c => ?_) l u
    exact postTo_plane t c.port rfl
  simp only [switchNow]
  exact (((((withLive_plane s _).trans (hbatch ..)).trans (switchWalls_plane _)).trans (hrg ..)).trans (hfree ..)).trans
    (rebuildRecords_plane ..)

theorem levelPieces_plane (s : State) : PlaneKept s (levelPieces s) := .ite (takePieces_plane s) (.refl s)

theorem regroupSwitch_plane (s : State) : PlaneKept s (regroupSwitch s) := by
  simp only [regroupSwitch]
  refine .ite ?_ (.refl s)
  exact (levelPieces_plane s).trans (applyCommitted_plane .a _) |>.trans (applyCommitted_plane .b _)
    |>.trans (switchNow_plane _)

theorem regroupSwitch_of_tested (s : State) (h : SwitchTested s) : regroupSwitch s = s := by
  refine if_neg fun hd => ?_
  obtain ⟨hst, hno, -⟩ := (switchDue_iff s.rg).1 hd
  simp [h hst] at hno

/-! ## The end of a regroup, idle batches, captures (R31, R153, R166) -/

theorem regroupDone_kept (s : State) : PlaneKept s (regroupDone s) ∧ HoldsKept s (regroupDone s) := by
  have hnotices : s.rg.doneNotices.filter Notice.isSync = [] := by
    unfold Regroup.doneNotices; cases s.rg.applyMark <;> rfl
  unfold regroupDone
  split
  · have hp : PlaneKept s { s with rg := s.rg.settle } := ⟨rfl, rfl, rfl, rfl, rfl, .of_ports rfl rfl⟩
    have hh : HoldsKept s { s with rg := s.rg.settle } := ⟨⟨rfl, rfl, rfl⟩, rfl, rfl, fun p => by cases p <;> rfl⟩
    exact ⟨hp.trans (post_plane _ hnotices), hh.trans (post_holds ..)⟩
  · exact ⟨.refl s, .refl s⟩

theorem regroupBoundaryEnd_kept (s : State) : PlaneKept s (regroupBoundaryEnd s) ∧ HoldsKept s (regroupBoundaryEnd s) :=
  ⟨⟨rfl, rfl, rfl, rfl, rfl, .of_ports rfl rfl⟩, ⟨rfl, rfl, rfl⟩, rfl, rfl, fun p => by cases p <;> rfl⟩

theorem captureCopy_kept (b : Fin 2) (s : State) : PlaneKept s (captureCopy b s) ∧ HoldsKept s (captureCopy b s) := by
  have hbuf (x : Buffer) : PlaneKept s (s.setBuf b x) ∧ HoldsKept s (s.setBuf b x) :=
    ⟨⟨rfl, rfl, rfl, rfl, rfl, .of_ports rfl rfl⟩, ⟨rfl, rfl, rfl⟩, rfl, rfl, fun p => by cases p <;> rfl⟩
  unfold captureCopy
  split
  · exact ⟨(hbuf _).1.trans (post_plane _ rfl), (hbuf _).2.trans (post_holds ..)⟩
  · exact ⟨.refl s, .refl s⟩

theorem abandonBatch_kept (p : Port) (ob : OpenBatch) (s : State) :
    PlaneKept s (abandonBatch p ob s) ∧ HoldsKept s (abandonBatch p ob s) ∧ (abandonBatch p ob s).rg = s.rg := by
  unfold abandonBatch
  exact ⟨(setPort_plane s p { s.port p with batch := none } rfl rfl).trans (postTo_plane _ p rfl),
    (setPort_holds s p { s.port p with batch := none } rfl).trans (postTo_holds ..),
    (postTo_rg ..).trans (setPort_rg ..)⟩

theorem idleBoundary_kept (p : Port) (s : State) :
    PlaneKept s (idleBoundary p s) ∧ HoldsKept s (idleBoundary p s) ∧ (idleBoundary p s).rg = s.rg := by
  unfold idleBoundary
  split
  · split
    · exact abandonBatch_kept ..
    · exact ⟨setPort_plane s p _ rfl rfl, setPort_holds s p _ rfl, setPort_rg ..⟩
  · exact ⟨.refl s, .refl s, rfl⟩

theorem readBusStep_kept (s : State) : PlaneKept s (readBusStep s) ∧ HoldsKept s (readBusStep s)
    ∧ (SwitchTested s → SwitchTested (readBusStep s)) :=
  ⟨⟨rfl, rfl, rfl, rfl, rfl, .of_ports rfl rfl⟩, ⟨⟨rfl, rfl, rfl⟩, rfl, rfl, fun p => by cases p <;> rfl⟩, fun h => h⟩

/-! ## The whole of the configuration work -/

/-- The configuration work of a boundary up to FOLLOW (log 3). -/
def boundaryTables (s : State) : State :=
  captureCopy 1 (captureCopy 0 (regroupBoundaryEnd (regroupDone (regroupSwitch (readBusStep
    (applyCommitted .b (applyCommitted .a (idleBoundary .b (idleBoundary .a s)))))))))

theorem boundaryTables_plane (s : State) : PlaneKept s (boundaryTables s) :=
  (idleBoundary_kept .a s).1 |>.trans (idleBoundary_kept .b _).1 |>.trans (applyCommitted_plane .a _)
    |>.trans (applyCommitted_plane .b _) |>.trans (readBusStep_kept _).1 |>.trans (regroupSwitch_plane _)
    |>.trans (regroupDone_kept _).1 |>.trans (regroupBoundaryEnd_kept _).1 |>.trans (captureCopy_kept 0 _).1
    |>.trans (captureCopy_kept 1 _).1

/-- Where no batch is committed and no switch stands to be made, the configuration work moves no hold, gate or floor record. -/
theorem boundaryTables_holds (s : State) (hc : ∀ p, (s.port p).committed = []) (ht : SwitchTested s) :
    HoldsKept s (boundaryTables s) := by
  unfold boundaryTables
  obtain ⟨-, h1, r1⟩ := idleBoundary_kept .a s
  generalize idleBoundary .a s = s1 at h1 r1 ⊢
  obtain ⟨-, h2, r2⟩ := idleBoundary_kept .b s1
  generalize idleBoundary .b s1 = s2 at h2 r2 ⊢
  have k2 := h1.trans h2
  have h3 := applyCommitted_holds .a s2 ((k2.committed .a).trans (hc .a))
  have r3 : (applyCommitted .a s2).rg = s2.rg := by
    simp only [applyCommitted, (k2.committed .a).trans (hc .a), List.foldl_nil, setPort_rg]
  generalize applyCommitted .a s2 = s3 at h3 r3 ⊢
  have k3 := k2.trans h3
  have h4 := applyCommitted_holds .b s3 ((k3.committed .b).trans (hc .b))
  have r4 : (applyCommitted .b s3).rg = s3.rg := by
    simp only [applyCommitted, (k3.committed .b).trans (hc .b), List.foldl_nil, setPort_rg]
  generalize applyCommitted .b s3 = s4 at h4 r4 ⊢
  obtain ⟨-, h5, t5⟩ := readBusStep_kept s4
  have ht5 := t5 (((((ht.congr r1).congr r2).congr r3).congr r4))
  rw [regroupSwitch_of_tested _ ht5]
  exact (k3.trans h4).trans h5 |>.trans (regroupDone_kept _).2 |>.trans (regroupBoundaryEnd_kept _).2
    |>.trans (captureCopy_kept 0 _).2 |>.trans (captureCopy_kept 1 _).2

end Sys2Proof.Machine
end

section
/-! SUPPORT. FRAME_BOUNDARY in its parts (R4), and what follows for the audio plane: O14 and O15. -/

namespace Sys2Proof.Machine
open Host

/-! ## The parts of a boundary (log 3) -/

/-- The state in which the links take their events at a boundary. -/
@[irreducible] def boundaryBegun (sense : Sense) (s : State) : State :=
  regroupBoundary { s with pins := { s.pins with sense := sense }, periods := 0 }

/-- The state of a boundary after the links' events. -/
@[irreducible] def boundaryLinks (sense : Sense) (s : State) : State := mics.foldl linkBoundary (boundaryBegun sense s)

/-- The state of a boundary after the handover and the wall samples. -/
@[irreducible] def boundarySampled (sense : Sense) (s : State) : State :=
  (List.finRange 3).foldl (sampleWall sense) (closeFrames (handover (boundaryLinks sense s)))

/-- The state of a boundary when the downstream frames begin. -/
@[irreducible] def boundaryDecided (sense : Sense) (s : State) : State :=
  takeSnapshot (boundaryDecisions (boundarySampled sense s))

/-- The state of a boundary before FOLLOW. -/
@[irreducible] def boundaryWorked (sense : Sense) (early : Bool) (s : State) : State :=
  boundaryTables (startDownstream (if early then (boundarySampled sense s).indicators else (boundaryDecided sense s).indicators)
    (boundaryDecided sense s))

theorem frameBoundary_eq (sense : Sense) (early : Bool) (s : State) :
    frameBoundary sense early s = followCompare (boundaryWorked sense early s) := by
  unfold boundaryWorked boundaryDecided boundarySampled boundaryLinks boundaryBegun
  rfl

theorem exec_frameBoundary (sense : Sense) (early : Bool) (s : State) :
    exec (.frameBoundary sense early) s = running (frameBoundary sense early) s := rfl

/-- What the begin of a boundary leaves: all but the pins, the period count and the regroup machine's `fresh` mark. -/
theorem boundaryBegun_spec (sense : Sense) (s : State) :
    ((boundaryBegun sense s).audio = s.audio ∧ (boundaryBegun sense s).periods = 0 ∧ (boundaryBegun sense s).lineA = s.lineA
      ∧ (boundaryBegun sense s).links = s.links ∧ (boundaryBegun sense s).autoUp = s.autoUp)
    ∧ (boundaryBegun sense s).rg = { s.rg with fresh := s.rg.fresh && s.rg.pre }
    ∧ HoldsKept s (boundaryBegun sense s) ∧ Grow s (boundaryBegun sense s) := by
  unfold boundaryBegun
  exact ⟨⟨rfl, rfl, rfl, rfl, rfl⟩, rfl, ⟨⟨rfl, rfl, rfl⟩, rfl, rfl, fun p => by cases p <;> rfl⟩, .of_ports rfl rfl⟩

theorem boundaryLinks_work (sense : Sense) (s : State) :
    LinkWork (boundaryBegun sense s) (boundaryLinks sense s)
    ∧ ∀ i : Fin 16, (boundaryLinks sense s).links[i] = (s.links[i]).atBoundary false s.autoUp[i] := by
  obtain ⟨⟨-, hper, -, hlinks, hauto⟩, -⟩ := boundaryBegun_spec sense s
  have hinside : (boundaryBegun sense s).insideFrame = false := by simp [State.insideFrame, hper]
  obtain ⟨w, e⟩ := linkBoundaries_step (boundaryBegun sense s)
  rw [hinside, hlinks, hauto] at e
  unfold boundaryLinks
  exact ⟨w, e⟩

/-- The links' events at a boundary: their frame, and the record that each link has before the handover. -/
theorem boundaryLinks_step (sense : Sense) (s : State) :
    (boundaryLinks sense s).audio = s.audio ∧ (boundaryLinks sense s).periods = 0 ∧ (boundaryLinks sense s).lineA = s.lineA
    ∧ Grow s (boundaryLinks sense s)
    ∧ ∀ i : Fin 16, (boundaryLinks sense s).links[i] = (s.links[i]).atBoundary false s.autoUp[i] := by
  obtain ⟨⟨haudio, hper, hline, -, -⟩, -, -, hgrow⟩ := boundaryBegun_spec sense s
  obtain ⟨w, e⟩ := boundaryLinks_work sense s
  exact ⟨w.audio.trans haudio, w.periods.trans hper, w.lineA.trans hline, hgrow.trans w.grow, e⟩

theorem closeFrames_link (s : State) (i : Fin 16) : (closeFrames s).links[i] =
    { s.links[i] with arrival := none, wasActive := decide ((s.links[i]).state = .active) } := by
  simp only [closeFrames, tab_get]

@[simp] theorem handover_links (s : State) : (handover s).links = s.links := by simp only [handover, post_links]
@[simp] theorem handover_periods (s : State) : (handover s).periods = s.periods := by simp only [handover, post_periods]
@[simp] theorem handover_lineA (s : State) : (handover s).lineA = s.lineA := by simp only [handover, post_lineA]

theorem withAudio_port (s : State) (a : Audio) (p : Port) : ({ s with audio := a } : State).port p = s.port p := by
  cases p <;> rfl

theorem handover_port (s : State) (p : Port) : (handover s).port p = (s.port p).postAll (judgeSync s.audio).2.2 := by
  simp only [handover, post_port, withAudio_port]

/-- From the handover to the start of the downstream frames the plane stands. -/
theorem boundaryDecided_plane (sense : Sense) (s : State) :
    PlaneKept (closeFrames (handover (boundaryLinks sense s))) (boundarySampled sense s)
    ∧ PlaneKept (boundarySampled sense s) (boundaryDecided sense s) := by
  have hsnap (u : State) : PlaneKept u (takeSnapshot u) := ⟨rfl, rfl, rfl, rfl, rfl, .of_ports rfl rfl⟩
  refine ⟨?_, ?_⟩
  · unfold boundarySampled
    exact (sampleWalls_kept ..).plane
  · unfold boundaryDecided
    exact (boundaryDecisions_plane _).trans (hsnap _)

/-- FOLLOW and Port A's transmitter move Port A's line alone. -/
theorem followCompare_frame (s : State) : followCompare s = { s with lineA := (followCompare s).lineA } := by
  unfold followCompare
  split
  · split <;> rfl
  · rfl

theorem settled_frame (s : State) : ∃ line, settleLine (followCompare s) = { s with lineA := line } := by
  rw [settleLine_frame, followCompare_frame]
  exact ⟨_, rfl⟩

theorem boundaryWorked_plane (sense : Sense) (early : Bool) (s : State) :
    PlaneKept (startDownstream
      (if early then (boundarySampled sense s).indicators else (boundaryDecided sense s).indicators) (boundaryDecided sense s))
      (boundaryWorked sense early s) := by
  unfold boundaryWorked
  exact boundaryTables_plane _

theorem startDownstream_audio (v : Vector Indicator 16) (s : State) : (startDownstream v s).audio = s.audio := rfl
theorem startDownstream_links (v : Vector Indicator 16) (s : State) : (startDownstream v s).links = s.links := rfl
theorem startDownstream_periods (v : Vector Indicator 16) (s : State) : (startDownstream v s).periods = s.periods := rfl
theorem startDownstream_lineA (v : Vector Indicator 16) (s : State) : (startDownstream v s).lineA = s.lineA := rfl
theorem startDownstream_grow (v : Vector Indicator 16) (s : State) : Grow s (startDownstream v s) := .of_ports rfl rfl
theorem closeFrames_periods (s : State) : (closeFrames s).periods = s.periods := rfl
theorem closeFrames_audio (s : State) : (closeFrames s).audio = s.audio := rfl
theorem closeFrames_lineA (s : State) : (closeFrames s).lineA = s.lineA := rfl
theorem closeFrames_grow (s : State) : Grow s (closeFrames s) := .of_ports rfl rfl
theorem withLineA_grow (s : State) (line : LineA) : Grow s { s with lineA := line } := .of_ports rfl rfl

section
variable {sense : Sense} {early : Bool} {s t : State} (ht : t = settleLine (frameBoundary sense early s))
include ht

/-- What a boundary leaves of the plane: the audio of the handover, the links after their events, no period of the new frame, and
a downstream frame for each link. -/
theorem frameBoundary_plane :
    t.audio = (handover (boundaryLinks sense s)).audio
    ∧ t.links = (closeFrames (handover (boundaryLinks sense s))).links ∧ t.periods = 0
    ∧ Grow (handover (boundaryLinks sense s)) t
    ∧ t.down = (startDownstream (if early then (boundarySampled sense s).indicators else (boundaryDecided sense s).indicators)
        (boundaryDecided sense s)).down := by
  obtain ⟨line, hline⟩ := settled_frame (boundaryWorked sense early s)
  rw [frameBoundary_eq, hline] at ht
  obtain ⟨k1, k2⟩ := boundaryDecided_plane sense s
  have k := k1.trans k2
  have w := boundaryWorked_plane sense early s
  have hper : (boundaryLinks sense s).periods = 0 := (boundaryLinks_step sense s).2.1
  have hper' : (closeFrames (handover (boundaryLinks sense s))).periods = 0 :=
    (closeFrames_periods _).trans ((handover_periods _).trans hper)
  generalize boundaryWorked sense early s = v at ht w
  subst ht
  refine ⟨?_, ?_, ?_, ?_, w.down⟩
  · exact w.audio.trans ((startDownstream_audio ..).trans (k.audio.trans (closeFrames_audio _)))
  · exact w.links.trans ((startDownstream_links ..).trans k.links)
  · exact w.periods.trans ((startDownstream_periods ..).trans (k.periods.trans hper'))
  · exact .trans (closeFrames_grow _) (.trans k.grow (.trans (startDownstream_grow _ _) (w.grow.trans (withLineA_grow v line))))

/-- The ports and meters that a boundary leaves, field by field (R4, R6 to R16). -/
theorem frameBoundary_audio :
    t.audio.sending = s.audio.computed ∧ t.audio.computed = same 26 silence
    ∧ (t.audio.sync = (judgeSync s.audio).1 ∧ t.audio.syncCount = (judgeSync s.audio).2.1)
    ∧ (∀ b : Fin 26, t.audio.busPeak[b] = framePeak s.audio.computed[b])
    ∧ (∀ i : Fin 26, t.audio.input[i] = (boundaryLinks sense s).handedOver (judgeSync s.audio).1 i)
    ∧ (∀ i : Fin 26, t.audio.peak[i] = framePeak t.audio.input[i])
    ∧ (∀ i : Fin 26, t.audio.noise[i] = (boundaryLinks sense s).trackedNoise i t.audio.peak[i]) := by
  obtain ⟨haudio, -⟩ := frameBoundary_plane ht
  have ha : (boundaryLinks sense s).audio = s.audio := (boundaryLinks_step sense s).1
  rw [haudio]
  generalize boundaryLinks sense s = a at ha ⊢
  rw [← ha]
  simp only [handover, post_audio, tab_get, and_self, implies_true]

/-- The link record that a boundary leaves (R127 to R137). -/
theorem frameBoundary_link (i : Fin 16) :
    t.links[i] = { (s.links[i]).atBoundary false s.autoUp[i] with
      arrival := none, wasActive := decide (((s.links[i]).atBoundary false s.autoUp[i]).state = .active) } := by
  obtain ⟨-, hlinks, -⟩ := frameBoundary_plane ht
  rw [hlinks, closeFrames_link, handover_links, (boundaryLinks_step sense s).2.2.2.2 i]

/-- A link was and is ACTIVE at the boundary, by the marks before and after it (R6). -/
theorem boundary_whole_iff (i : Fin 16) :
    ((boundaryLinks sense s).links[i]).whole = true ↔ (s.links[i]).wasActive = true ∧ (t.links[i]).wasActive = true := by
  rw [frameBoundary_link ht, (boundaryLinks_step sense s).2.2.2.2 i, LinkRec.whole, (atBoundary_kept ..).2, Bool.and_eq_true]

end

theorem sourceMic_micSource (m : Fin 16) : sourceMic (micSource m) = some m := by simp [sourceMic, micSource]

/-- The noise tracker of a source after a boundary (R15). -/
theorem trackNoise_eq (n peak : Nat) : trackNoise n peak = min (min peak (n + n / 4096 + 1)) 8388607 := rfl

/-- Settles O15: the tracker is that of the handover, and `whole` is the ACTIVE test at both boundaries. -/
theorem boundaryTracksNoise : Obligations.BoundaryTracksNoise := by
  intro sense early s t i hh ht n updated
  rw [exec_frameBoundary] at ht
  have ht' := eq_of_running hh ht
  obtain ⟨-, -, -, -, -, -, hnoise⟩ := frameBoundary_audio ht'
  have ha : (boundaryLinks sense s).audio = s.audio := (boundaryLinks_step sense s).1
  refine ⟨fun hi => ?_, fun m hm => ?_⟩
  · have hnone : sourceMic i = none := dif_neg (by omega)
    rw [hnoise i]
    simp only [State.trackedNoise, hnone, ha, trackNoise_eq]
    rfl
  · subst hm
    rw [hnoise]
    simp only [State.trackedNoise, sourceMic_micSource, boundary_whole_iff ht' m, ha, trackNoise_eq]
    rfl

/-! ## The far-end port (R10) -/

/-- The notices of the judgment of a TDM frame: one SYNC with the new state at a change, and no other (R10). -/
theorem judgeSync_notices (a : Audio) :
    (judgeSync a).2.2 = if (judgeSync a).1 = a.sync then [] else [.sync (judgeSync a).1] := by
  unfold judgeSync
  cases hs : a.sync <;> cases a.tdmFrameGood
  · rfl
  · by_cases hc : a.syncCount = 0 <;> simp [hc]
  · rfl
  · rfl

theorem judgeSync_notices_sync (a : Audio) : (judgeSync a).2.2.filter Notice.isSync = (judgeSync a).2.2 := by
  rw [judgeSync_notices]
  split <;> rfl

/-- Settles O14: the judgment is the handover's, and no other work of a boundary posts a SYNC notice (`Grow`). -/
theorem boundaryJudgesSync : Obligations.BoundaryJudgesSync := by
  intro sense early s t hh ht
  rw [exec_frameBoundary] at ht
  have ht' := eq_of_running hh ht
  obtain ⟨-, -, ⟨hsync, hcount⟩, -⟩ := frameBoundary_audio ht'
  have hgood : s.audio.tdmFrameGood = decide (s.audio.tdmGood = 48) := rfl
  rw [hsync, hcount]
  refine ⟨fun h1 h2 h3 => ?_, fun h1 h2 h3 => ?_, fun h1 h2 => ?_, fun h1 => ?_, fun p ho => ?_⟩
  · simp [judgeSync, hgood, h1, h2, h3]
  · simp [judgeSync, hgood, h1, h2, h3]
  · simp [judgeSync, hgood, h1, h2]
  · cases hs : s.audio.sync <;> simp [judgeSync, hgood, h1, hs]
  · obtain ⟨haudio, -, -, grow, -⟩ := boundaryLinks_step sense s
    obtain ⟨-, -, -, grow', -⟩ := frameBoundary_plane ht'
    obtain ⟨ho1, after, hq1, hafter⟩ := grow' p ho
    rw [handover_port, haudio] at ho1 hq1
    obtain ⟨ho2, hq2⟩ := postAll_room ho1
    obtain ⟨-, before, hq3, hbefore⟩ := grow p ho2
    refine ⟨before ++ (judgeSync s.audio).2.2 ++ after, by rw [hq1, hq2, hq3]; simp only [List.append_assoc], ?_⟩
    calc (before ++ (judgeSync s.audio).2.2 ++ after).filter Notice.isSync
        = (judgeSync s.audio).2.2 := by
          rw [List.filter_append, List.filter_append, hbefore, hafter, judgeSync_notices_sync, List.nil_append, List.append_nil]
      _ = _ := judgeSync_notices _

end Sys2Proof.Machine
end

section
/-! SUPPORT. The bytes of a downstream frame (R161, 9.11), its indicator (R89), and O13. -/

namespace Sys2Proof.Machine
open Host

/-! ## Bytes, most significant first -/

theorem bigEndian_three (n : Nat) :
    bigEndian 3 n = [BitVec.ofNat 8 (n / 65536), BitVec.ofNat 8 (n / 256), BitVec.ofNat 8 n] := by
  simp [bigEndian, List.range_succ]

theorem bigEndian_two (n : Nat) : bigEndian 2 n = [BitVec.ofNat 8 (n / 256), BitVec.ofNat 8 n] := by
  simp [bigEndian, List.range_succ]

/-- The three bytes of a sample, put together again. -/
theorem sample_of_bytes (x : Sample) :
    BitVec.ofNat 8 (x.toNat / 65536) ++ BitVec.ofNat 8 (x.toNat / 256) ++ BitVec.ofNat 8 x.toNat = x := by
  apply BitVec.eq_of_toNat_eq
  have hx := x.isLt
  rw [BitVec.toNat_append, BitVec.toNat_append, BitVec.toNat_ofNat, BitVec.toNat_ofNat, BitVec.toNat_ofNat,
    ← Nat.shiftLeft_add_eq_or_of_lt (Nat.mod_lt _ (by decide)), ← Nat.shiftLeft_add_eq_or_of_lt (Nat.mod_lt _ (by decide)),
    Nat.shiftLeft_eq, Nat.shiftLeft_eq]
  omega

/-- The two bytes of a frame check, put together again. -/
theorem check_of_bytes (x : BitVec 16) : BitVec.ofNat 8 (x.toNat / 256) ++ BitVec.ofNat 8 x.toNat = x := by
  apply BitVec.eq_of_toNat_eq
  have hx := x.isLt
  rw [BitVec.toNat_append, BitVec.toNat_ofNat, BitVec.toNat_ofNat,
    ← Nat.shiftLeft_add_eq_or_of_lt (Nat.mod_lt _ (by decide)), Nat.shiftLeft_eq]
  omega

/-- A list of blocks of three, read inside block `k`. -/
theorem getD_flatMap_three {α β : Type} (f : α → List β) (hf : ∀ x, (f x).length = 3) (l : List α) (rest : List β) (d : β)
    (k r : Nat) (hk : k < l.length) (hr : r < 3) :
    ((l.flatMap f) ++ rest).getD (3 * k + r) d = (f l[k]).getD r d := by
  induction l generalizing k with
  | nil => simp at hk
  | cons x l ih =>
    rw [List.flatMap_cons, List.append_assoc]
    cases k with
    | zero => rw [List.getD_append _ _ _ _ (by rw [hf]; omega)]; simp
    | succ k =>
      rw [List.getD_append_right _ _ _ _ (by rw [hf]; omega), hf]
      rw [show 3 * (k + 1) + r - 3 = 3 * k + r by omega, ih k (by simpa using hk)]
      rfl

/-! ## The frame check (R161) -/

theorem crcBit_eq (c : BitVec 16) (v : Bool) : crcBit c v = if c.msb = v then c <<< 1 else (c <<< 1) ^^^ 0x1021#16 := by
  unfold crcBit
  cases c.msb <;> cases v <;> rfl

/-- The CRC-16 of bytes, taken bit by bit over all of them. -/
theorem crc16_bits (bytes : List Byte) :
    crc16 bytes = (bytes.flatMap fun x => (List.range 8).map fun k => x.getLsbD (7 - k)).foldl
      (fun (c : BitVec 16) (v : Bool) => if c.msb = v then c <<< 1 else (c <<< 1) ^^^ 0x1021#16) 0xFFFF#16 := by
  have hbit : (fun (c : BitVec 16) (v : Bool) => if c.msb = v then c <<< 1 else (c <<< 1) ^^^ 0x1021#16) = crcBit := by
    funext c v; exact (crcBit_eq c v).symm
  rw [hbit, List.foldl_flatMap]
  simp only [List.foldl_map]
  rfl

/-! ## The 150 bytes of a downstream frame (9.11) -/

/-- The samples and the control slot of a downstream frame: all that its check covers. -/
def DownFrame.body (d : DownFrame) : List Byte :=
  d.samples.toList.flatMap (fun x => bigEndian 3 x.toNat)
    ++ [downCommandCode d.command, BitVec.ofNat 8 (indicatorCode d.indicator),
        BitVec.ofNat 8 ((if d.echo then 1 else 0) + (if d.lock then 2 else 0)), 0]

theorem bytes_eq (d : DownFrame) : d.bytes = d.body ++ bigEndian 2 (crc16 d.body).toNat := rfl

theorem samples_length (d : DownFrame) : (d.samples.toList.flatMap fun x => bigEndian 3 x.toNat).length = 144 := by
  simp [List.length_flatMap, bigEndian]

theorem body_length (d : DownFrame) : d.body.length = 148 := by
  rw [DownFrame.body, List.length_append, samples_length]; rfl

theorem bytes_length (d : DownFrame) : d.bytes.length = 150 := by
  rw [bytes_eq, List.length_append, body_length, bigEndian_two]; rfl

theorem bytes_sample (d : DownFrame) (k : Fin 48) (r : Nat) (hr : r < 3) :
    d.bytes.getD (3 * k.val + r) 0 = (bigEndian 3 (d.samples[k]).toNat).getD r 0 := by
  rw [bytes_eq, DownFrame.body, List.append_assoc,
    getD_flatMap_three _ (fun x => by simp [bigEndian]) _ _ _ k.val r (by simp) hr]
  simp

/-- The control slot stands after the samples. -/
theorem bytes_slot (d : DownFrame) (r : Nat) (hr : r < 4) : d.bytes.getD (144 + r) 0 =
    [downCommandCode d.command, BitVec.ofNat 8 (indicatorCode d.indicator),
      BitVec.ofNat 8 ((if d.echo then 1 else 0) + (if d.lock then 2 else 0)), 0].getD r 0 := by
  have hlen := samples_length d
  rw [bytes_eq, List.getD_append _ _ _ _ (by rw [body_length]; omega), DownFrame.body,
    List.getD_append_right _ _ _ _ (by omega), hlen, Nat.add_sub_cancel_left]

/-- The frame check stands after the body. -/
theorem bytes_check (d : DownFrame) (r : Nat) : d.bytes.getD (148 + r) 0 = (bigEndian 2 (crc16 d.body).toNat).getD r 0 := by
  rw [bytes_eq, List.getD_append_right _ _ _ _ (by rw [body_length]; omega), body_length, Nat.add_sub_cancel_left]

theorem take_bytes (d : DownFrame) : d.bytes.take 148 = d.body := by
  rw [bytes_eq, ← body_length d, List.take_left]

/-! ## The indicator of a downstream frame (R89) -/

theorem closeFrames_rg (s : State) : (closeFrames s).rg = s.rg := rfl
theorem closeFrames_port (s : State) (p : Port) : (closeFrames s).port p = s.port p := by cases p <;> rfl
theorem closeFrames_still (s : State) : MuteStill s (closeFrames s) := ⟨rfl, rfl, rfl⟩
theorem handover_rg (s : State) : (handover s).rg = s.rg := by simp only [handover, post_rg]
theorem handover_still (s : State) : MuteStill s (handover s) :=
  ⟨by simp only [handover, post_mute], by simp only [handover, post_gates], by simp only [handover, post_floors]⟩
theorem takeSnapshot_mute (s : State) : (takeSnapshot s).mute = s.mute := rfl
theorem takeSnapshot_live (s : State) : (takeSnapshot s).live = s.live := rfl
theorem takeSnapshot_rg (s : State) : (takeSnapshot s).rg = s.rg := rfl
theorem takeSnapshot_port (s : State) (p : Port) : (takeSnapshot s).port p = s.port p := by cases p <;> rfl
theorem startDownstream_rg (v : Vector Indicator 16) (s : State) : (startDownstream v s).rg = s.rg := rfl
theorem startDownstream_port (v : Vector Indicator 16) (s : State) (p : Port) : (startDownstream v s).port p = s.port p := by
  cases p <;> rfl
theorem startDownstream_holds (v : Vector Indicator 16) (s : State) : HoldsKept s (startDownstream v s) :=
  ⟨⟨by simp only [startDownstream], by simp only [startDownstream], by simp only [startDownstream]⟩,
    by simp only [startDownstream], by simp only [startDownstream], fun p => by rw [startDownstream_port]⟩
theorem withLineA_holds (s : State) (line : LineA) : HoldsKept s { s with lineA := line } :=
  ⟨⟨rfl, rfl, rfl⟩, rfl, rfl, fun p => by cases p <;> rfl⟩

/-- The downstream frame that a link begins, by the indicator read for it. -/
theorem startDownstream_down (v : Vector Indicator 16) (s : State) (i : Fin 16) :
    (startDownstream v s).down[i] = downFrame s v[i] i := by simp only [startDownstream, tab_get]

theorem boundarySampled_kept (sense : Sense) (s : State) :
    WallKept (closeFrames (handover (boundaryLinks sense s))) (boundarySampled sense s) := by
  unfold boundarySampled
  exact sampleWalls_kept ..

/-- Where no switch is due before a boundary, none is due when the downstream frames begin, and no batch is committed. -/
theorem boundaryDecided_noSwitch (sense : Sense) (s : State) (h : NoSwitchDue s) :
    (∀ p, ((boundaryDecided sense s).port p).committed = []) ∧ SwitchTested (boundaryDecided sense s) := by
  obtain ⟨ha, hb, hst⟩ := h
  obtain ⟨-, hbegun, hkept, -⟩ := boundaryBegun_spec sense s
  obtain ⟨w, -⟩ := boundaryLinks_work sense s
  have hrg : (boundaryLinks sense s).rg.state = s.rg.state := by rw [w.rg, hbegun]
  have hcom (p : Port) : ((boundaryLinks sense s).port p).committed = [] :=
    (w.committed p).trans ((hkept.committed p).trans (by cases p <;> assumption))
  have k := boundarySampled_kept sense s
  obtain ⟨-, -, hdrg, hdcom⟩ := boundaryDecisions_kept (boundarySampled sense s)
  unfold boundaryDecided
  refine ⟨fun p => ?_, ?_⟩
  · rw [takeSnapshot_port, hdcom, k.holds.committed, closeFrames_port, handover_port, postAll_committed, hcom]
  · have htested : SwitchTested (boundarySampled sense s) := by
      refine k.tested fun hf => absurd ?_ hst
      rwa [closeFrames_rg, handover_rg, hrg] at hf
    exact htested.congr ((takeSnapshot_rg _).trans hdrg)

section
variable {sense : Sense} {early : Bool} {s t : State} (ht : t = settleLine (frameBoundary sense early s))
include ht

/-- Where no switch is due, what an indicator reads stands from the start of the downstream frames to the boundary's end. -/
theorem frameBoundary_holds (h : NoSwitchDue s) :
    HoldsKept (boundaryDecided sense s) t ∧ t.links = (boundaryDecided sense s).links := by
  obtain ⟨hc, hsw⟩ := boundaryDecided_noSwitch sense s h
  obtain ⟨line, hline⟩ := settled_frame (boundaryWorked sense early s)
  rw [frameBoundary_eq, hline] at ht
  have w := boundaryWorked_plane sense early s
  have hk : HoldsKept (boundaryDecided sense s) (boundaryWorked sense early s) := by
    unfold boundaryWorked
    exact (startDownstream_holds _ _).trans
      (boundaryTables_holds _ (fun p => by rw [startDownstream_port, hc]) (hsw.congr (startDownstream_rg ..)))
  have hlinks := w.links.trans (startDownstream_links ..)
  generalize boundaryWorked sense early s = v at ht hk hlinks
  subst ht
  exact ⟨hk.trans (withLineA_holds _ _), hlinks⟩

/-- The downstream frame of each link, by the link's record and the indicators read. -/
theorem frameBoundary_down (i : Fin 16) : t.down[i] = downFrame (boundaryDecided sense s)
    (if early then (boundarySampled sense s).indicator i else (boundaryDecided sense s).indicator i) i
    ∧ (boundaryDecided sense s).links = t.links ∧ (boundaryDecided sense s).audio.sending = s.audio.computed := by
  obtain ⟨haudio, hlinks, -, -, hdown⟩ := frameBoundary_plane ht
  obtain ⟨k1, k2⟩ := boundaryDecided_plane sense s
  have k := k1.trans k2
  refine ⟨?_, k.links.trans hlinks.symm, ?_⟩
  · rw [hdown, startDownstream_down]
    cases early <;> simp only [State.indicators, tab_get, Bool.false_eq_true, if_false, if_true]
  · rw [k.audio, closeFrames_audio, ← haudio]
    exact (frameBoundary_audio ht).1

/-- The indicator that a downstream frame carries, read after the boundary's decisions or before them (log 3). -/
theorem frameBoundary_indicator (h : NoSwitchDue s) (i : Fin 16) :
    (boundaryDecided sense s).indicator i = t.indicator i
    ∧ (LinksStay s t →
        (boundarySampled sense s).indicator i = ({ t with gates := s.gates, floors := s.floors } : State).indicator i) := by
  obtain ⟨hk, hlinks⟩ := frameBoundary_holds ht h
  refine ⟨(holdsKept_indicator hk hlinks i).symm, fun hstay => ?_⟩
  obtain ⟨hmute, hlive, hrg, -⟩ := boundaryDecisions_kept (boundarySampled sense s)
  obtain ⟨-, k2⟩ := boundaryDecided_plane sense s
  obtain ⟨⟨-, -, -, hblinks, -⟩, -, hbegun, -⟩ := boundaryBegun_spec sense s
  have hlinked : MuteStill s (boundaryLinks sense s) := by
    refine hbegun.still.trans ?_
    have hsame := (boundaryLinks_work sense s).2
    unfold boundaryLinks at hsame ⊢
    refine linkBoundaries_still _ fun j => ?_
    have hj := hstay j
    rw [frameBoundary_link ht] at hj
    rw [hsame, hblinks]
    exact hj
  have hstill : MuteStill s (boundarySampled sense s) :=
    ((hlinked.trans (handover_still _)).trans (closeFrames_still _)).trans (boundarySampled_kept ..).holds.still
  unfold boundaryDecided at hk
  refine indicator_congr (s := { t with gates := s.gates, floors := s.floors }) ?_ hstill.gates hstill.floors ?_ ?_ ?_ i
  · exact (hk.still.mute.trans ((takeSnapshot_mute _).trans hmute)).symm
  · exact (hk.live.trans ((takeSnapshot_live _).trans hlive)).symm
  · exact (hk.map.trans (congrArg Regroup.map ((takeSnapshot_rg _).trans hrg))).symm
  · exact (hlinks.trans k2.links).symm

end

/-- What a downstream frame carries by its link's record (R8, R124, R126). -/
theorem downFrame_spec (s : State) (ind : Indicator) (i : Fin 16) :
    let l := s.links[i]
    let training : Prop := l.state = .training ∨ l.state = .retrain
    (l.state = .detached → downFrame s ind i = none)
    ∧ (l.state ≠ .detached → ∃ d, downFrame s ind i = some d
      ∧ (∀ k : Fin 48, (d.samples)[k] =
          if l.state = .active then (s.audio.sending[micSource i])[k]
          else if training then (if k.val % 2 = 0 then 0x555555 else 0xAAAAAA) else 0)
      ∧ d.command =
          (if l.state = .down ∨ l.state = .fault then .none else if l.handshake = .detach then .detachReq
           else if l.state = .active ∧ l.handshake = .doze then .dozeReq
           else if l.state = .retrain ∧ l.lock = false then .retrainReq else .none)
      ∧ d.echo = l.lastBit ∧ (d.lock = true ↔ training ∧ l.lock = true) ∧ d.indicator = ind) := by
  intro l training
  have hpattern (k : Fin 48) : trainingPattern[k] = if k.val % 2 = 0 then 0x555555 else 0xAAAAAA := tab_get ..
  have hsilence (k : Fin 48) : silence[k] = 0 := by simp [silence]
  refine ⟨fun h => if_pos h, fun h => ⟨_, if_neg h, fun k => ?_, ?_, rfl, ?_, rfl⟩⟩
  · dsimp only [training, l]
    cases (s.links[i]).state <;> simp only [hpattern, hsilence, reduceCtorEq, if_true, if_false, or_true, or_false]
  · dsimp only [l, LinkRec.command] at h ⊢
    revert h
    cases (s.links[i]).state <;> cases (s.links[i]).handshake <;> cases (s.links[i]).lock <;> simp
  · simp only [Bool.and_eq_true, inTraining_iff]
    rfl

/-- The input frame of a line source at the handover (R13). -/
theorem handedOver_line (s : State) (sync : Sync) (c : Fin 2) (h : 24 + c.val < 26) :
    s.handedOver sync ⟨24 + c.val, h⟩ = s.audio.lineIn[c] := by
  rw [State.handedOver, dif_neg (by dsimp only; omega), dif_neg (by dsimp only; omega)]
  simp

/-- The input frame of a far-end source at the handover (R11). -/
theorem handedOver_farEnd (s : State) (sync : Sync) (j : Fin 8) (h : 16 + j.val < 26) :
    s.handedOver sync ⟨16 + j.val, h⟩ = if sync = .locked then s.audio.tdmIn[j] else silence := by
  have hj : 16 + j.val < 24 := by omega
  simp [State.handedOver, hj]

/-- The input frame of a microphone at the handover (R6). -/
theorem handedOver_mic (s : State) (sync : Sync) (m : Fin 16) :
    s.handedOver sync (micSource m) = (s.links[m]).delivered := dif_pos m.isLt

/-- What a link controller hands over (R6, R7). -/
theorem delivered_eq (l : LinkRec) : l.delivered =
    if l.whole = true ∧ l.arrival.any Arrival.good = true then (l.arrival.map Arrival.samples).getD silence else silence := by
  unfold LinkRec.delivered
  cases h : l.arrival with
  | none => simp
  | some a => simp [and_comm]

/-- Settles O13: the bytes by `bytes_eq` and the block lemma, the boundary by `frameBoundary_audio`, `frameBoundary_link` and
`frameBoundary_down`. -/
theorem boundaryHandsOverAndMeasures : Obligations.BoundaryHandsOverAndMeasures := by
  refine ⟨fun d => ?_, fun sense early s hh => ?_⟩
  · dsimp only
    refine ⟨bytes_length d, fun k => ?_, ?_, ?_, ?_, bytes_slot d 3 (by decide), ?_⟩
    · have h0 := bytes_sample d k 0 (by decide)
      rw [Nat.add_zero] at h0
      rw [h0, bytes_sample d k 1 (by decide), bytes_sample d k 2 (by decide), bigEndian_three]
      exact sample_of_bytes _
    · refine (bytes_slot d 0 (by decide)).trans ?_
      cases d.command <;> rfl
    · refine (bytes_slot d 1 (by decide)).trans ?_
      cases d.indicator <;> rfl
    · refine (bytes_slot d 2 (by decide)).trans ?_
      cases d.lock <;> cases d.echo <;> rfl
    · rw [take_bytes, ← crc16_bits, bytes_check d 0, bytes_check d 1, bigEndian_two]
      exact check_of_bytes _
  · refine ⟨settleLine (frameBoundary sense early s), running_next _ s hh, ?_⟩
    generalize ht : settleLine (frameBoundary sense early s) = t
    have ht := ht.symm
    obtain ⟨hsend, hcomp, ⟨hsync, -⟩, hbus, hinput, hpeak, -⟩ := frameBoundary_audio ht
    obtain ⟨-, hclosed, hper, -⟩ := frameBoundary_plane ht
    obtain ⟨ha, -, -, -, hlinks⟩ := boundaryLinks_step sense s
    refine ⟨hper, hsend, hcomp, hbus, hpeak, fun c => ?_, fun j => ?_, fun i => ?_, fun i => ?_, fun i => ?_⟩
    · rw [getElem!_pos _ _ (by omega), ← ha]
      exact (hinput ⟨24 + c.val, by omega⟩).trans (handedOver_line ..)
    · rw [getElem!_pos _ _ (by omega), hsync, ← congrArg Audio.tdmIn ha]
      exact (hinput ⟨16 + j.val, by omega⟩).trans (handedOver_farEnd ..)
    · have harr : ((boundaryLinks sense s).links[i]).arrival = (s.links[i]).arrival := by rw [hlinks, (atBoundary_kept ..).1]
      rw [hinput, handedOver_mic, delivered_eq, harr]
      simp only [boundary_whole_iff ht, and_assoc]
    · rw [hclosed, closeFrames_link]
      generalize (handover (boundaryLinks sense s)).links[i] = l
      exact ⟨rfl, rfl⟩
    · obtain ⟨hdown, hdl, hds⟩ := frameBoundary_down ht i
      obtain ⟨hnone, hsome⟩ := downFrame_spec (boundaryDecided sense s)
        (if early then (boundarySampled sense s).indicator i else (boundaryDecided sense s).indicator i) i
      rw [← hdown, hdl] at hnone hsome
      refine ⟨hnone, fun hd => ?_⟩
      obtain ⟨d, h1, h2, h3, h4, h5, h6⟩ := hsome hd
      rw [hds] at h2
      refine ⟨d, h1, h2, h3, h4, h5, fun hno he => ?_, fun hno he hstay => ?_⟩
      · rw [h6, he, if_neg Bool.false_ne_true]
        exact (frameBoundary_indicator ht hno i).1
      · rw [h6, he, if_pos rfl]
        exact (frameBoundary_indicator ht hno i).2 hstay

end Sys2Proof.Machine
end

section
/-! SUPPORT. One evaluation of a slot (R92 to R97), entry by entry: what the closing and the opening phase can do to a gate. -/

namespace Sys2Proof.Machine
open Host

/-! ## The loudest of a list (R94) -/

/-- The fold of `loudest`, begun at an entry. -/
theorem loudest_fold (peak : Fin 16 → Nat) (l : List (Fin 16)) (b : Fin 16) (hl : (b :: l).Pairwise (· < ·)) :
    ∃ y ∈ b :: l, l.foldl (fun b m => match b with
        | none => some m
        | some x => if peak x < peak m then some m else some x) (some b) = some y
      ∧ ∀ x ∈ b :: l, peak x ≤ peak y ∧ (peak x = peak y → y ≤ x) := by
  induction l generalizing b with
  | nil => exact ⟨b, by simp⟩
  | cons c l ih =>
    obtain ⟨hb, hcl⟩ := List.pairwise_cons.1 hl
    have hbl : (b :: l).Pairwise (· < ·) :=
      List.pairwise_cons.2 ⟨fun x hx => hb x (List.mem_cons_of_mem _ hx), (List.pairwise_cons.1 hcl).2⟩
    have hbc : b < c := hb c (List.mem_cons_self ..)
    simp only [List.foldl_cons]
    by_cases h : peak b < peak c
    · obtain ⟨y, hy, he, hmax⟩ := ih c hcl
      refine ⟨y, List.mem_cons_of_mem _ hy, by rw [if_pos h]; exact he, fun x hx => ?_⟩
      rcases List.mem_cons.1 hx with rfl | hx
      · have := (hmax c (List.mem_cons_self ..)).1
        exact ⟨by omega, by omega⟩
      · exact hmax x hx
    · obtain ⟨y, hy, he, hmax⟩ := ih b hbl
      have hmem : y ∈ b :: c :: l := by
        rcases List.mem_cons.1 hy with rfl | hy
        · exact List.mem_cons_self ..
        · exact List.mem_cons_of_mem _ (List.mem_cons_of_mem _ hy)
      refine ⟨y, hmem, by rw [if_neg h]; exact he, fun x hx => ?_⟩
      obtain ⟨hby, hbeq⟩ := hmax b (List.mem_cons_self ..)
      rcases List.mem_cons.1 hx with rfl | hx
      · exact ⟨hby, hbeq⟩
      · rcases List.mem_cons.1 hx with rfl | hx
        · exact ⟨by omega, fun h' => le_trans (hbeq (by omega)) hbc.le⟩
        · exact hmax x (List.mem_cons_of_mem _ hx)

/-- The loudest microphone of an ascending list: the largest peak, ties going to the lower index. -/
theorem loudest_spec (peak : Fin 16 → Nat) (l : List (Fin 16)) (hl : l.Pairwise (· < ·)) {m : Fin 16} (hm : m ∈ l) :
    ∃ y ∈ l, loudest peak l = some y ∧ ∀ x ∈ l, peak x ≤ peak y ∧ (peak x = peak y → y ≤ x) := by
  cases l with
  | nil => simp at hm
  | cons b l => exact loudest_fold peak l b hl

/-! ## The closing phase (R92 to R95) -/

section
variable {v : GateView} {gs : Gates} {m : Fin 16}

theorem expires_iff : expires v gs m = true ↔ (gs[m]).state = .opened ∧ (gs[m]).counter ≤ 1 ∧ v.cand m = false := by
  simp only [expires, Bool.and_eq_true, decide_eq_true_eq, Bool.not_eq_true']
  tauto

theorem stepCounter_closed {x : Fin 16} (h : (gs[x]).state = .closed) : stepCounter v x gs[x] = gs[x] := by
  rw [stepCounter, h]

/-- A member of the slot that the counters leave OPEN or LAST_ON without expiring. -/
def Remains (v : GateView) (gs : Gates) (x : Fin 16) : Prop :=
  x ∈ v.members ∧ (stepCounter v x gs[x]).state ≠ .closed ∧ expires v gs x = false

/-- An OPEN member stays so where it is a candidate or its counter has not run down (R92). -/
theorem remains_of_opened {x : Fin 16} (hx : x ∈ v.members) (ho : (gs[x]).state = .opened)
    (h : 1 < (gs[x]).counter ∨ v.cand x = true) : Remains v gs x := by
  refine ⟨hx, ?_, Bool.eq_false_iff.2 fun he => ?_⟩
  · simp only [stepCounter, ho]
    split_ifs <;> simp
  · obtain ⟨-, hc, hn⟩ := expires_iff.1 he
    rcases h with h | h
    · omega
    · exact Bool.false_ne_true (hn.symm.trans h)

/-- When a microphone becomes LAST_ON (R94). -/
theorem becomesLast_some (h : becomesLast v gs = some m) :
    v.lastOn = true ∧ (∀ x, ¬Remains v gs x) ∧ loudest v.peak (v.members.filter (expires v gs)) = some m := by
  simp only [becomesLast] at h
  split at h
  · rename_i hc
    rw [Bool.and_eq_true, Bool.not_eq_true', List.any_eq_false] at hc
    refine ⟨hc.1, fun x hx => hc.2 x hx.1 ?_, h⟩
    rw [hx.2.2, decide_eq_true hx.2.1]
    rfl
  · simp at h

theorem becomesLast_eq (hl : v.lastOn = true) (hr : ∀ x, ¬Remains v gs x) :
    becomesLast v gs = loudest v.peak (v.members.filter (expires v gs)) := by
  refine if_pos ?_
  rw [Bool.and_eq_true, Bool.not_eq_true', List.any_eq_false]
  refine ⟨hl, fun x hx h => hr x ⟨hx, ?_, ?_⟩⟩ <;> simp_all

/-- An entry whose counter reaches 0 becomes LAST_ON or CLOSED. -/
theorem closeOne_expires (hm : m ∈ v.members) (he : expires v gs m = true) :
    closeOne v gs m = if becomesLast v gs = some m then { state := .lastOn, counter := 0 } else shutGate := by
  rw [closeOne, if_pos hm, if_pos he]

/-- Where one becomes LAST_ON every other member stands CLOSED. -/
theorem closeOne_other (h : becomesLast v gs = some m) {x : Fin 16} (hx : x ∈ v.members) (hne : x ≠ m) :
    (closeOne v gs x).state = .closed := by
  obtain ⟨-, hr, -⟩ := becomesLast_some h
  cases he : expires v gs x with
  | true =>
    rw [closeOne_expires hx he, if_neg fun h' => hne (Option.some.inj (h'.symm.trans h))]
    rfl
  | false =>
    have hc : (stepCounter v x gs[x]).state = .closed := by
      by_contra hc
      exact hr x ⟨hx, hc, he⟩
    have hlast : (stepCounter v x gs[x]).state ≠ .lastOn := by rw [hc]; exact GateState.noConfusion
    rw [closeOne, if_pos hx, he, if_neg Bool.false_ne_true, if_neg fun h => hlast h.1, hc]

/-- The fold of `victim`, begun at an entry or at none, ends at it or at one of the list. -/
theorem victim_fold {gs : Gates} {y : Fin 16} (l : List (Fin 16)) (b : Option (Fin 16)) (h : l.foldl (fun b m => match b with
      | none => some m
      | some x => if (gs[m]).counter ≤ (gs[x]).counter then some m else some x) b = some y) : b = some y ∨ y ∈ l := by
  induction l generalizing b with
  | nil => exact .inl h
  | cons c l ih =>
    rcases ih _ h with hb | hy
    · cases b with
      | none => exact .inr (Option.some.inj hb ▸ List.mem_cons_self ..)
      | some z =>
        dsimp only at hb
        split at hb
        · exact .inr (Option.some.inj hb ▸ List.mem_cons_self ..)
        · exact .inl hb
    · exact .inr (List.mem_cons_of_mem _ hy)

/-- The victim of a list is among it. -/
theorem victim_mem {gs : Gates} {l : List (Fin 16)} {y : Fin 16} (h : victim gs l = some y) : y ∈ l :=
  (victim_fold l none h).resolve_left (by simp)

theorem closeExcess_none {members : List (Fin 16)} {n : Nat} {gs : Gates}
    (h : victim gs (members.filter fun m => (gs[m]).isOpen) = none) : closeExcess members (n + 1) gs = gs := by
  rw [closeExcess, h]

theorem closeExcess_some {members : List (Fin 16)} {n : Nat} {gs : Gates} {y : Fin 16}
    (h : victim gs (members.filter fun m => (gs[m]).isOpen) = some y) :
    closeExcess members (n + 1) gs = closeExcess members n (put gs y shutGate) := by
  rw [closeExcess, h]

/-- Closing the excess leaves every entry or shuts it, and leaves those outside the slot. -/
theorem closeExcess_get (members : List (Fin 16)) (n : Nat) (gs : Gates) (x : Fin 16) :
    ((closeExcess members n gs)[x] = gs[x] ∨ (closeExcess members n gs)[x] = shutGate)
    ∧ (x ∉ members → (closeExcess members n gs)[x] = gs[x]) := by
  induction n generalizing gs with
  | zero => exact ⟨.inl rfl, fun _ => rfl⟩
  | succ n ih =>
    rcases hv : victim gs (members.filter fun m => (gs[m]).isOpen) with _ | y
    · rw [closeExcess_none hv]
      exact ⟨.inl rfl, fun _ => rfl⟩
    · rw [closeExcess_some hv]
      have hy : y ∈ members := (List.mem_filter.1 (victim_mem hv)).1
      obtain ⟨h1, h2⟩ := ih (put gs y shutGate)
      by_cases hxy : x = y
      · subst hxy
        rw [put_same] at h1
        exact ⟨.inr (h1.elim id id), fun h => absurd hy h⟩
      · rw [put_other _ _ _ _ hxy] at h1 h2
        exact ⟨h1, h2⟩

/-- The closing phase on an entry whose counter reaches 0: LAST_ON where it becomes that and is not closed as excess, else
CLOSED. -/
theorem closingPhase_expires (hm : m ∈ v.members) (he : expires v gs m = true) :
    (closingPhase v gs)[m] = shutGate
    ∨ ((closingPhase v gs)[m] = { state := .lastOn, counter := 0 } ∧ becomesLast v gs = some m) := by
  obtain ⟨h, -⟩ := closeExcess_get v.members (countOpen v.members (tab (closeOne v gs)) - v.limit) (tab (closeOne v gs)) m
  rw [tab_get, closeOne_expires hm he] at h
  split at h
  · rename_i hb
    exact h.elim (fun h => .inr ⟨h, hb⟩) .inl
  · exact .inl (h.elim id id)

theorem closingPhase_outside {x : Fin 16} (hx : x ∉ v.members) : (closingPhase v gs)[x] = gs[x] := by
  rw [closingPhase, (closeExcess_get ..).2 hx, tab_get, closeOne, if_neg hx]

/-- Where one becomes LAST_ON, no other member is OPEN or LAST_ON after the closing phase. -/
theorem closingPhase_other (h : becomesLast v gs = some m) {x : Fin 16} (hx : x ∈ v.members) (hne : x ≠ m) :
    ((closingPhase v gs)[x]).state = .closed := by
  obtain ⟨he, -⟩ := closeExcess_get v.members (countOpen v.members (tab (closeOne v gs)) - v.limit) (tab (closeOne v gs)) x
  rw [tab_get] at he
  rcases he with he | he
  · exact (congrArg Gate.state he).trans (closeOne_other h hx hne)
  · exact congrArg Gate.state he

/-- A list without repetition of which `m` is the only member has at most one entry. -/
theorem length_le_one_of_eq {l : List (Fin 16)} (hl : l.Nodup) (h : ∀ x ∈ l, x = m) : l.length ≤ 1 := by
  rcases l with _ | ⟨a, _ | ⟨b, l⟩⟩
  · simp
  · simp
  · have ha := h a (by simp)
    have hb := h b (by simp)
    simp [ha, hb] at hl

/-- The one microphone that becomes LAST_ON is within the open limit, where that is not 0. -/
theorem closingPhase_lastOn (hn : v.members.Nodup) (hm : m ∈ v.members) (he : expires v gs m = true)
    (hb : becomesLast v gs = some m) (hlim : 1 ≤ v.limit) :
    (closingPhase v gs)[m] = { state := .lastOn, counter := 0 } := by
  have hopen : countOpen v.members (tab (closeOne v gs)) ≤ 1 := by
    refine length_le_one_of_eq (m := m) (hn.filter _) fun x hx => ?_
    obtain ⟨hx, ho⟩ := List.mem_filter.1 hx
    by_contra hne
    rw [tab_get] at ho
    exact of_decide_eq_true ho (closeOne_other hb hx hne)
  have hzero : countOpen v.members (tab (closeOne v gs)) - v.limit = 0 := by omega
  rw [closingPhase, hzero]
  exact (tab_get ..).trans ((closeOne_expires hm he).trans (if_pos hb))

end

/-! ## The opening phase (R96, R97) -/

/-- The opening phase's run through the candidates. -/
def openings (v : GateView) (gs : Gates) : Opening :=
  (rankedCandidates v gs).foldl (takeCandidate v)
    { gates := gs, free := v.limit - (v.members.filter fun m => decide ((gs[m]).state = .opened)).length, opened := false }

theorem openingPhase_eq (v : GateView) (gs : Gates) : openingPhase v gs =
    if (openings v gs).opened then
      tab fun m => if m ∈ v.members ∧ ((openings v gs).gates[m]).state = .lastOn then shutGate else (openings v gs).gates[m]
    else (openings v gs).gates := rfl

theorem mem_ranked {v : GateView} {gs : Gates} {m : Fin 16} :
    m ∈ rankedCandidates v gs ↔ m ∈ v.members ∧ v.cand m = true ∧ (gs[m]).state = .closed := by
  rw [rankedCandidates, List.mem_insertionSort, List.mem_filter, Bool.and_eq_true, decide_eq_true_eq]

/-- What taking a candidate can do: open its gate, close a victim's for it, or nothing (R96, R97). -/
theorem takeCandidate_cases (v : GateView) (o : Opening) (c : Fin 16) :
    takeCandidate v o c = { gates := put o.gates c { state := .opened, counter := v.hold }, free := o.free - 1, opened := true }
    ∨ (∃ y ∈ v.members, (o.gates[y]).state = .opened ∧ takeCandidate v o c =
        { gates := put (put o.gates y shutGate) c { state := .opened, counter := v.hold }, free := 0, opened := true })
    ∨ (o.free = 0 ∧ takeCandidate v o c = o) := by
  unfold takeCandidate
  by_cases hfree : 0 < o.free
  · exact .inl (if_pos hfree)
  · have hzero : o.free = 0 := by omega
    rw [if_neg hfree]
    cases v.chair c
    · exact .inr (.inr ⟨hzero, rfl⟩)
    · rcases hy : victim o.gates (v.members.filter fun x => decide ((o.gates[x]).state = .opened) && !v.chair x) with _ | y
      · exact .inr (.inr ⟨hzero, rfl⟩)
      · obtain ⟨hym, hyo⟩ := List.mem_filter.1 (victim_mem hy)
        exact .inr (.inl ⟨y, hym, of_decide_eq_true (Bool.and_eq_true_iff.1 hyo).1, rfl⟩)

/-- A candidate taken leaves every other entry that is not OPEN or lies outside the slot; it opens a gate or leaves all. -/
theorem takeCandidate_spec (v : GateView) (o : Opening) (c : Fin 16) :
    (∀ x, x ≠ c → (o.gates[x]).state ≠ .opened ∨ x ∉ v.members → (takeCandidate v o c).gates[x] = o.gates[x])
    ∧ (o.opened = true → (takeCandidate v o c).opened = true)
    ∧ ((takeCandidate v o c).opened = false → takeCandidate v o c = o)
    ∧ (0 < o.free → (takeCandidate v o c).opened = true) := by
  rcases takeCandidate_cases v o c with h | ⟨y, hy, hyo, h⟩ | ⟨hzero, h⟩ <;> rw [h]
  · exact ⟨fun x hx _ => put_other _ _ _ _ hx, fun _ => rfl, fun h => by simp at h, fun _ => rfl⟩
  · refine ⟨fun x hx hor => ?_, fun _ => rfl, fun h => by simp at h, fun _ => rfl⟩
    have hxy : x ≠ y := by
      rintro rfl
      exact hor.elim (fun h => h hyo) (fun h => h hy)
    exact (put_other _ _ _ _ hx).trans (put_other _ _ _ _ hxy)
  · exact ⟨fun _ _ _ => rfl, id, fun _ => rfl, fun h => by omega⟩

/-- The run through candidates: what it leaves, and when it opens a gate. -/
theorem takeCandidates_spec (v : GateView) (l : List (Fin 16)) (o : Opening) :
    (∀ x, x ∉ l → (o.gates[x]).state ≠ .opened ∨ x ∉ v.members → (l.foldl (takeCandidate v) o).gates[x] = o.gates[x])
    ∧ (o.opened = true → (l.foldl (takeCandidate v) o).opened = true)
    ∧ ((l.foldl (takeCandidate v) o).opened = false → l.foldl (takeCandidate v) o = o)
    ∧ (0 < o.free → l ≠ [] → (l.foldl (takeCandidate v) o).opened = true) := by
  induction l generalizing o with
  | nil => exact ⟨fun _ _ _ => rfl, id, fun _ => rfl, fun _ h => absurd rfl h⟩
  | cons c l ih =>
    obtain ⟨a1, a2, a3, a4⟩ := takeCandidate_spec v o c
    obtain ⟨b1, b2, b3, -⟩ := ih (takeCandidate v o c)
    rw [List.foldl_cons]
    refine ⟨fun x hx hor => ?_, fun h => b2 (a2 h), fun h => ?_, fun h _ => b2 (a4 h)⟩
    · obtain ⟨hxc, hxl⟩ := not_or.1 fun h => hx (List.mem_cons.2 h)
      have hstep := a1 x hxc hor
      rw [b1 x hxl (by rwa [hstep]), hstep]
    · have hstep := b3 h
      rw [hstep] at h
      rw [hstep, a3 h]

/-- An entry that is not OPEN and no candidate is released from LAST_ON where the opening phase opens a gate, and else stays. -/
theorem openingPhase_idle (v : GateView) (gs : Gates) (m : Fin 16) (hm : m ∈ v.members) (hc : v.cand m = false)
    (ho : (gs[m]).state ≠ .opened) : (openingPhase v gs)[m] =
      if (openings v gs).opened = true ∧ (gs[m]).state = .lastOn then shutGate else gs[m] := by
  have hmr : m ∉ rankedCandidates v gs := fun h => by simp [(mem_ranked.1 h).2.1] at hc
  have hkeep : (openings v gs).gates[m] = gs[m] := (takeCandidates_spec v _ _).1 m hmr (.inl ho)
  rw [openingPhase_eq]
  cases (openings v gs).opened
  · simpa using hkeep
  · rw [if_pos rfl, tab_get, hkeep]
    simp only [hm, true_and]

theorem openingPhase_outside (v : GateView) (gs : Gates) (x : Fin 16) (hx : x ∉ v.members) : (openingPhase v gs)[x] = gs[x] := by
  have hxr : x ∉ rankedCandidates v gs := fun h => hx (mem_ranked.1 h).1
  have hkeep : (openings v gs).gates[x] = gs[x] := (takeCandidates_spec v _ _).1 x hxr (.inr hx)
  rw [openingPhase_eq]
  split
  · rw [tab_get, hkeep, if_neg fun h => hx h.1]
  · exact hkeep

/-- Where no gate opens the opening phase leaves the gates. -/
theorem openingPhase_none (v : GateView) (gs : Gates) (h : (openings v gs).opened = false) : openingPhase v gs = gs := by
  rw [openingPhase_eq, if_neg (by simp [h])]
  exact congrArg Opening.gates ((takeCandidates_spec v _ _).2.2.1 h)

/-- A closed candidate opens a gate where none is OPEN and the open limit is not 0. -/
theorem openings_opened (v : GateView) (gs : Gates) {x : Fin 16} (hx : x ∈ rankedCandidates v gs) (hlim : 1 ≤ v.limit)
    (hnone : ∀ y ∈ v.members, (gs[y]).state ≠ .opened) : (openings v gs).opened = true := by
  have hfree : (v.members.filter fun m => decide ((gs[m]).state = .opened)) = [] :=
    List.filter_eq_nil_iff.2 fun y hy h => hnone y hy (of_decide_eq_true h)
  refine (takeCandidates_spec v _ _).2.2.2 ?_ (List.ne_nil_of_mem hx)
  rw [hfree]
  exact hlim

/-! ## One evaluation, on a microphone whose counter reaches 0 -/

section
variable {v : GateView} {gs : Gates} {m : Fin 16} (hm : m ∈ v.members) (he : expires v gs m = true)
include hm he

/-- The evaluation of an expiring microphone's gate: CLOSED, or LAST_ON where it becomes that, is not excess, and no gate
opens. -/
theorem evaluateSlot_expires :
    (evaluateSlot v gs)[m] = shutGate
    ∨ ((evaluateSlot v gs)[m] = { state := .lastOn, counter := 0 } ∧ becomesLast v gs = some m
        ∧ (openings v (closingPhase v gs)).opened = false) := by
  obtain ⟨-, -, hc⟩ := expires_iff.1 he
  rcases closingPhase_expires hm he with h | ⟨h, hb⟩
  · have hidle := openingPhase_idle v (closingPhase v gs) m hm hc (by rw [h]; simp [shutGate])
    rw [h] at hidle
    exact .inl (hidle.trans (if_neg fun h => by simp [shutGate] at h))
  · have hidle := openingPhase_idle v (closingPhase v gs) m hm hc (by rw [h]; simp)
    rw [h] at hidle
    cases ho : (openings v (closingPhase v gs)).opened
    · exact .inr ⟨hidle.trans (if_neg (by simp [ho])), hb, rfl⟩
    · exact .inl (hidle.trans (if_pos ⟨ho, rfl⟩))

/-- An expiring microphone that does not become LAST_ON is CLOSED. -/
theorem evaluateSlot_closed (h : becomesLast v gs ≠ some m) : ((evaluateSlot v gs)[m]).state = .closed := by
  rcases evaluateSlot_expires hm he with hs | ⟨-, hb, -⟩
  · rw [hs]; rfl
  · exact absurd hb h

/-- It is CLOSED where another member stays OPEN (R94). -/
theorem evaluateSlot_closed_of_remains {x : Fin 16} (hx : Remains v gs x) : ((evaluateSlot v gs)[m]).state = .closed :=
  evaluateSlot_closed hm he fun h => (becomesLast_some h).2.1 x hx

/-- It is CLOSED where a louder one expires with it (R94). -/
theorem evaluateSlot_closed_of_louder (hsorted : v.members.Pairwise (· < ·)) {x : Fin 16} (hx : x ∈ v.members)
    (hxe : expires v gs x = true) (hp : v.peak m < v.peak x) : ((evaluateSlot v gs)[m]).state = .closed := by
  refine evaluateSlot_closed hm he fun h => ?_
  have hmem : x ∈ v.members.filter (expires v gs) := List.mem_filter.2 ⟨hx, hxe⟩
  obtain ⟨y, -, hy, hmax⟩ := loudest_spec v.peak _ (hsorted.filter _) hmem
  obtain rfl : y = m := Option.some.inj (hy.symm.trans (becomesLast_some h).2.2)
  have := (hmax x hmem).1
  omega

/-- It is CLOSED where a member is a candidate and the open limit is not 0 (R94, R96). -/
theorem evaluateSlot_closed_of_candidate (hlim : 1 ≤ v.limit) {x : Fin 16} (hx : x ∈ v.members) (hxc : v.cand x = true) :
    ((evaluateSlot v gs)[m]).state = .closed := by
  rcases evaluateSlot_expires hm he with hs | ⟨-, hb, hno⟩
  · rw [hs]; rfl
  · exfalso
    have hne : x ≠ m := by
      rintro rfl
      exact Bool.false_ne_true ((expires_iff.1 he).2.2.symm.trans hxc)
    have hclosed := closingPhase_other hb hx hne
    have hranked : x ∈ rankedCandidates v (closingPhase v gs) := mem_ranked.2 ⟨hx, hxc, hclosed⟩
    have hnone (y : Fin 16) (hy : y ∈ v.members) : ((closingPhase v gs)[y]).state ≠ .opened := by
      by_cases hym : y = m
      · subst hym
        rcases closingPhase_expires hm he with h | ⟨h, -⟩ <;> rw [h] <;> simp [shutGate]
      · rw [closingPhase_other hb hy hym]
        simp
    rw [openings_opened v _ hranked hlim hnone] at hno
    simp at hno

/-- It becomes LAST_ON where last-on is On, no member is a candidate, and every other member is CLOSED or expires with it and
yields to it (R94). -/
theorem evaluateSlot_lastOn (hsorted : v.members.Pairwise (· < ·)) (hl : v.lastOn = true) (hlim : 1 ≤ v.limit)
    (hall : ∀ x ∈ v.members, v.cand x = false ∧ (x = m ∨ (gs[x]).state = .closed
      ∨ (expires v gs x = true ∧ (v.peak x < v.peak m ∨ (v.peak x = v.peak m ∧ m < x))))) :
    ((evaluateSlot v gs)[m]).state = .lastOn := by
  have hremains (x : Fin 16) : ¬Remains v gs x := by
    rintro ⟨hx, hstep, hxe⟩
    rcases (hall x hx).2 with rfl | hc | ⟨h, -⟩
    · simp [he] at hxe
    · exact hstep ((congrArg Gate.state (stepCounter_closed hc)).trans hc)
    · simp [h] at hxe
  have hmem : m ∈ v.members.filter (expires v gs) := List.mem_filter.2 ⟨hm, he⟩
  obtain ⟨y, hy, hloud, hmax⟩ := loudest_spec v.peak _ (hsorted.filter _) hmem
  obtain ⟨hyv, hye⟩ := List.mem_filter.1 hy
  have hym : y = m := by
    obtain ⟨hpm, htie⟩ := hmax m hmem
    rcases (hall y hyv).2 with h | h | ⟨-, h | ⟨hpe, hlt⟩⟩
    · exact h
    · exact GateState.noConfusion (h.symm.trans (expires_iff.1 hye).1)
    · omega
    · exact absurd (htie hpe.symm) (not_le.2 hlt)
  have hb : becomesLast v gs = some m := by rw [becomesLast_eq hl hremains, hloud, hym]
  have hnodup : v.members.Nodup := hsorted.imp fun h => ne_of_lt h
  have hclose := closingPhase_lastOn hnodup hm he hb hlim
  have hnone : rankedCandidates v (closingPhase v gs) = [] :=
    List.eq_nil_iff_forall_not_mem.2 fun x hx => by
      obtain ⟨hx, hxc, -⟩ := mem_ranked.1 hx
      simp [(hall x hx).1] at hxc
  have hidle : (openings v (closingPhase v gs)).opened = false := by rw [openings, hnone]; rfl
  rw [evaluateSlot, openingPhase_none _ _ hidle, hclose]

/-- Where it becomes LAST_ON, no member is OPEN beside it (R94). -/
theorem evaluateSlot_lastOn_alone (h : ((evaluateSlot v gs)[m]).state = .lastOn) {x : Fin 16} (hx : x ∈ v.members) :
    ((evaluateSlot v gs)[x]).state ≠ .opened := by
  rcases evaluateSlot_expires hm he with hs | ⟨hs, hb, hno⟩
  · simp [hs, shutGate] at h
  · by_cases hxm : x = m
    · subst hxm
      rw [h]
      simp
    · rw [evaluateSlot, openingPhase_none _ _ hno, closingPhase_other hb hx hxm]
      simp

end

theorem evaluateSlot_outside {v : GateView} {gs : Gates} {x : Fin 16} (hx : x ∉ v.members) : (evaluateSlot v gs)[x] = gs[x] := by
  rw [evaluateSlot, openingPhase_outside _ _ _ hx, closingPhase_outside hx]

end Sys2Proof.Machine
end

section
/-! SUPPORT. GATE_HOLD_EXPIRY (R93, R94): the evaluation that it takes ahead of the boundary, its levels, and O42. -/

namespace Sys2Proof.Machine
open Host

/-! ## The levels of the coming boundary (R6, R14, R15) -/

/-- What a link will hand over at the coming boundary, and whether it stands ACTIVE at both, by its record alone. -/
theorem linkAhead_handover (s : State) (m : Fin 16) :
    (s.linkAhead m).delivered = ((s.links[m]).atBoundary false s.autoUp[m]).delivered
    ∧ (s.linkAhead m).whole = ((s.links[m]).atBoundary false s.autoUp[m]).whole := by
  rw [State.linkAhead, (linkBoundary_step s m).2]
  exact atBoundary_handover ..

/-- The levels read ahead of a boundary are those that the boundary leaves on the meters. -/
theorem next_levels {sense : Sense} {early : Bool} {s t : State} (ht : t = settleLine (frameBoundary sense early s))
    (m : Fin 16) : s.nextPeak m = t.audio.peak[micSource m] ∧ s.nextNoise m = t.audio.noise[micSource m] := by
  obtain ⟨-, -, -, -, hinput, hpeak, hnoise⟩ := frameBoundary_audio ht
  obtain ⟨hd, hw⟩ := linkAhead_handover s m
  have ha : (boundaryLinks sense s).audio = s.audio := (boundaryLinks_step sense s).1
  have hlink : (boundaryLinks sense s).links[m] = (s.links[m]).atBoundary false s.autoUp[m] := (boundaryLinks_work sense s).2 m
  have hpk : s.nextPeak m = t.audio.peak[micSource m] := by
    rw [State.nextPeak, hpeak, hinput, handedOver_mic, hd, hlink]
  refine ⟨hpk, ?_⟩
  rw [hnoise]
  simp only [State.nextNoise, State.trackedNoise, sourceMic_micSource, ha, hlink, hw, hpk]

/-! ## The evaluation taken ahead -/

/-- GATE_HOLD_EXPIRY takes effect on a microphone (R92 to R94): its slot is still to be evaluated, and its counter reaches 0. -/
theorem gateHoldExpiry_of_due {m : Fin 16} {s : State} (hd : s.evaluationDue (s.micPart m) = true)
    (he : expires (s.nextView (s.micPart m)) s.gates m = true) :
    gateHoldExpiry m s = handCount (s.micPart m) (evaluateOn (s.nextView (s.micPart m)) s) :=
  if_pos (by rw [hd, he]; rfl)

theorem gateHoldExpiry_of_not_due {m : Fin 16} {s : State}
    (h : ¬(s.evaluationDue (s.micPart m) = true ∧ expires (s.nextView (s.micPart m)) s.gates m = true)) :
    gateHoldExpiry m s = s := if_neg (by rwa [Bool.and_eq_true])

theorem evaluationDue_iff (s : State) (p : Fin 4) : s.evaluationDue p = true ↔
    s.slotIn .gated p = true ∧ s.rg.noEval[p] = false ∧ s.ahead.counts[p] = none := by
  simp only [State.evaluationDue, Bool.and_eq_true, Bool.not_eq_true', Option.isNone_iff_eq_none, and_assoc]

theorem members_sorted (s : State) (p : Fin 4) : (s.members p).Pairwise (· < ·) :=
  (List.pairwise_lt_finRange 16).filter _

theorem mem_members {s : State} {p : Fin 4} {m : Fin 16} : m ∈ s.members p ↔ s.micPart m = p := by
  simp [State.members, mics]

/-- The open count of a slot, by the gates (R90). -/
theorem openCount_eq (s : State) (p : Fin 4) : s.openCount p =
    ((List.finRange 16).filter fun x => decide (s.micPart x = p ∧ (s.gates[x]).state ≠ .closed)).length := by
  rw [State.openCount, State.members, List.filter_filter]
  congr 1
  refine List.filter_congr fun x _ => ?_
  simp only [Gate.isOpen, ← Bool.decide_and, and_comm]

/-- Gates replaced and targets derived again: every envelope follows (R59 to R61). -/
theorem retarget_follow (s u : State) (g : Gates) (hm : u.mute = s.mute) (hl : u.live = s.live) (hk : u.links = s.links)
    (hf : u.floors = s.floors) (hr : u.rg = s.rg) (hg : u.gates = g)
    (he : u.env = (retarget s { s with gates := g }).env) : EnvelopesFollow s u := by
  intro i
  have htarget : u.targetOf i = ({ s with gates := g } : State).targetOf i :=
    targetOf_congr (s := { s with gates := g }) hm hl hk hg hf (congrArg Regroup.map hr) i
  have hold : u.holdSet i = s.holdSet i := holdSet_congr hm hl hk i
  have hold' : ({ s with gates := g } : State).holdSet i = s.holdSet i := holdSet_congr rfl rfl rfl i
  have hpart (m : Fin 16) : u.micPart m = s.micPart m := micPart_congr hl (congrArg Regroup.map hr) m
  rw [he, htarget]
  simp only [retarget, tab_get, retargetOne, rampCodeFor, hold, hold', State.lead, hpart, hl]
  cases sourceMic i <;> rfl

/-- What GATE_HOLD_EXPIRY leaves where it takes effect (R92, R98, R103). -/
theorem gateHoldExpiry_effect (m : Fin 16) (s : State) (hd : s.evaluationDue (s.micPart m) = true)
    (he : expires (s.nextView (s.micPart m)) s.gates m = true) :
    let p := s.micPart m
    let t := settleLine (gateHoldExpiry m s)
    t.gates = evaluateSlot (s.nextView p) s.gates ∧ EnvelopesFollow s t
    ∧ t.ahead = { s.ahead with counts := s.ahead.counts.set p.val (some
        ((List.finRange 16).filter fun x => decide (s.micPart x = p ∧ (t.gates[x]).state ≠ .closed)).length) }
    ∧ t = { s with gates := t.gates, ahead := t.ahead, env := t.env, lineA := t.lineA } := by
  dsimp only
  rw [gateHoldExpiry_of_due hd he]
  generalize s.nextView (s.micPart m) = v
  have hgates : (evaluateOn v s).gates = evaluateSlot v s.gates := by rw [evaluateOn, retarget_gates]
  have hpart (x : Fin 16) : (evaluateOn v s).micPart x = s.micPart x := micPart_congr (by simp) (by simp) x
  refine ⟨by rw [settleLine_gates, handCount_gates, hgates], ?_, ?_, ?_⟩
  · refine retarget_follow s _ (evaluateSlot v s.gates) (by simp) (by simp) (by simp) (by simp) (by simp) ?_ ?_
    · rw [settleLine_gates, handCount_gates, hgates]
    · rw [settleLine_env, handCount_env, evaluateOn]
  · rw [settleLine_ahead, settleLine_gates, handCount_gates, handCount, openCount_eq, evaluateOn_ahead]
    simp only [hpart]
    rfl
  · rw [settleLine_frame]
    simp only [handCount, evaluateOn, retarget]

/-- Settles O42: `gateHoldExpiry_effect` for the frame, the laws of one evaluation for the expiring microphone's gate, and
`next_levels` for the levels. -/
theorem gateHoldExpiryCloses : Obligations.GateHoldExpiryCloses := by
  refine ⟨fun m s hh => ?_, fun sense early s t hh ht m => next_levels (eq_of_running (f := frameBoundary sense early) hh ht) m⟩
  intro p v expiring due
  have hexp (x : Fin 16) : expiring x ↔ x ∈ v.members ∧ expires v s.gates x = true := by
    rw [expires_iff]
  have hm : m ∈ v.members := mem_members.2 rfl
  have hdue : due ↔ s.evaluationDue p = true ∧ expires v s.gates m = true := by
    rw [evaluationDue_iff, and_assoc, and_assoc]
    simp only [due, hexp, hm, true_and]
  refine ⟨fun hno => ?_, fun hd => ?_⟩
  · refine (running_next (gateHoldExpiry m) s hh).trans ?_
    rw [gateHoldExpiry_of_not_due (fun h => hno (hdue.2 h))]
  · obtain ⟨hd, he⟩ := hdue.1 hd
    obtain ⟨hgates, henv, hahead, hframe⟩ := gateHoldExpiry_effect m s hd he
    refine ⟨settleLine (gateHoldExpiry m s), running_next (gateHoldExpiry m) s hh, hgates, ?_⟩
    generalize settleLine (gateHoldExpiry m s) = t at hgates henv hahead hframe ⊢
    have hat (x : Fin 16) : t.gates[x] = (evaluateSlot v s.gates)[x] := by rw [hgates]
    have hsorted : v.members.Pairwise (· < ·) := members_sorted s p
    simp only [hat] at hahead ⊢
    refine ⟨?_, ?_, fun x hx => evaluateSlot_outside fun h => hx (mem_members.1 h), fun hl => ?_, ?_, ?_, ?_, ?_, ?_, henv,
      hahead, hframe⟩
    · exact (evaluateSlot_expires hm he).elim (congrArg Gate.counter) fun h => congrArg Gate.counter h.1
    · rcases evaluateSlot_expires hm he with h | ⟨h, -, -⟩ <;> rw [h] <;> exact GateState.noConfusion
    · exact evaluateSlot_closed hm he fun h => by simp [(becomesLast_some h).1] at hl
    · rintro ⟨x, hx, hxo, hstay⟩
      exact evaluateSlot_closed_of_remains hm he (remains_of_opened hx hxo hstay)
    · rintro ⟨x, hx, hp⟩
      obtain ⟨hx, hxe⟩ := (hexp x).1 hx
      exact evaluateSlot_closed_of_louder hm he hsorted hx hxe hp
    · rintro hlim ⟨x, hx, hxc⟩
      exact evaluateSlot_closed_of_candidate hm he hlim hx hxc
    · intro hl hlim hall
      refine evaluateSlot_lastOn hm he hsorted hl hlim fun x hx => ⟨(hall x hx).1, (hall x hx).2.imp id (.imp id ?_)⟩
      exact fun h => ⟨((hexp x).1 h.1).2, h.2⟩
    · exact fun h x hx => evaluateSlot_lastOn_alone hm he h hx

end Sys2Proof.Machine
end

section
/-! SUPPORT. What an entry holds, by table (R1, R2, R16, R17, R19, R46, R89, R122, R142, R163), and what entries depend on. -/

namespace Sys2Proof.Machine
open Host

/-! ## Sets as operands (R160) -/

theorem setBits_fold {n : Nat} (v : Vector Bool n) (l : List (Fin n)) (a : Nat) :
    l.foldl (fun acc i => if v[i] then acc + 2 ^ i.val else acc) a = a + (l.map fun i => bit v[i] * 2 ^ i.val).sum := by
  induction l generalizing a with
  | nil => rfl
  | cons i l ih =>
    rw [List.foldl_cons, ih, List.map_cons, List.sum_cons, ← Nat.add_assoc]
    cases v[i] <;> simp [bit]

/-- The operand of a set is the sum of its members' bits. -/
theorem setBits_eq_sum {n : Nat} (v : Vector Bool n) :
    setBits v = ((List.finRange n).map fun i => bit v[i] * 2 ^ i.val).sum :=
  (setBits_fold v _ 0).trans (Nat.zero_add _)

theorem sum_bits_eq_ofBits {n : Nat} (f : Fin n → Bool) :
    ((List.finRange n).map fun i => bit (f i) * 2 ^ i.val).sum = Nat.ofBits f := by
  induction n with
  | zero => rfl
  | succ n ih =>
    have htail : ((List.finRange n).map fun i => bit (f i.succ) * 2 ^ i.succ.val).sum = 2 * Nat.ofBits (f ∘ Fin.succ) := by
      rw [← ih, ← List.sum_map_mul_left]
      refine congrArg List.sum (List.map_congr_left fun i _ => ?_)
      simp only [Function.comp_apply, Fin.val_succ, Nat.pow_succ]
      ring
    rw [List.finRange_succ, List.map_cons, List.sum_cons, List.map_map, Nat.ofBits_succ, ← htail, Nat.add_comm]
    cases f 0 <;> rfl

/-- A set of `n` members is an operand below `2 ^ n` whose bit i stands for member i. -/
theorem setBits_spec {n : Nat} (v : Vector Bool n) : setBits v < 2 ^ n ∧ ∀ i : Fin n, (setBits v).testBit i.val = v[i] := by
  rw [setBits_eq_sum, sum_bits_eq_ofBits fun i => v[i]]
  exact ⟨Nat.ofBits_lt_two_pow _, fun i => Nat.testBit_ofBits_lt _ _ i.isLt⟩

/-- Three buttons as an operand (9.11, log 10). -/
theorem setBits_three (v : Vector Bool 3) : setBits v = bit v[0] + 2 * bit v[1] + 4 * bit v[2] := by
  have hlist : List.finRange 3 = [0, 1, 2] := rfl
  rw [setBits_eq_sum, hlist]
  simp
  ring

/-! ## Codes as flags -/

theorem overflowCode_eq (o : Overflow) : overflowCode o = bit (decide (o = .bump)) := by cases o <;> rfl
theorem expiryCode_eq (e : Expiry) : expiryCode e = bit (decide (e = .revoke)) := by cases e <;> rfl
theorem wallStateCode_eq (w : WallState) : wallStateCode w = bit (decide (w = .opened)) := by cases w <;> rfl

/-! ## What entries depend on -/

/-- An entry does not depend on the ports' records or on Port A's line. -/
theorem entryAt_withPorts (s : State) (a b : PortRec) (line : LineA) (c : Cursor) :
    ({ s with portA := a, portB := b, lineA := line } : State).entryAt c = s.entryAt c := by
  obtain ⟨t, v, k⟩ := c
  cases t <;> rfl

/-! ## Entries -/

theorem index?_val {n : Nat} (i : Fin n) : index? n i.val = some i := dif_pos i.isLt

/-- In a view that holds entries, the entry at an index is that of the table. -/
theorem entryAt_of_filled {s : State} {v : View} (h : s.viewEmpty v = false) (t : TableId) (k : Nat) :
    s.entryAt { table := t, view := v, index := k } = s.fieldsAt t v k := by
  rw [State.entryAt, h, if_neg Bool.false_ne_true]

/-- A buffer's entries are none while it is EMPTY (R147). -/
theorem entryAt_of_empty {s : State} {b : Fin 2} (h : (s.scene.bufs[b]).status = .empty) (t : TableId) (k : Nat) :
    s.entryAt { table := t, view := .sb b, index := k } = none := if_pos (decide_eq_true h)

theorem fieldsAt_excluded (s : State) (v : View) {b : Nat} (h : b < 24) : s.fieldsAt .crosspoint v (b * 27) = some [0] := by
  have hx : excluded ⟨b * 27, by omega⟩ = true := (excluded_iff _).2 ⟨b, h, rfl⟩
  have hi : index? 676 (b * 27) = some ⟨b * 27, by omega⟩ := index?_val (n := 676) ⟨b * 27, by omega⟩
  rw [State.fieldsAt, hi, Option.map_some, if_pos hx]

theorem fieldsAt_crosspoint (s : State) (v : View) {i : Fin 676} (h : excluded i = false) :
    s.fieldsAt .crosspoint v i.val = some [(s.viewImage v).xpt[i]] := by
  rw [State.fieldsAt, index?_val, Option.map_some, h, if_neg Bool.false_ne_true]

theorem fieldsAt_source (s : State) (v : View) (i : Fin 26) : s.fieldsAt .source v i.val =
    some ([((s.viewImage v).src[i]).trim, ((s.viewImage v).src[i]).sect.val]
      ++ if i.val < 16 then [bit ((s.viewImage v).src[i]).chair] else []) := by
  have hmic : (sourceMic i).isSome = true ↔ i.val < 16 := by
    unfold sourceMic
    split <;> simp_all
  rw [State.fieldsAt, index?_val, Option.map_some, sourceFields]
  simp only [hmic]

theorem fieldsAt_bus (s : State) (v : View) (b : Fin 26) : s.fieldsAt .bus v b.val =
    some [((s.viewImage v).bus[b]).gain, ((s.viewImage v).bus[b]).sect.val] := by
  rw [State.fieldsAt, index?_val, Option.map_some, busFields]

theorem fieldsAt_sect (s : State) (v : View) (q : Fin 4) : s.fieldsAt .sect v q.val =
    some (sectionFields (s.viewImage v).sec[q] ++ [(s.rg.map[q]).val, regroupCode s.rg.state]) := by
  rw [State.fieldsAt, index?_val, Option.map_some, State.partOf]

theorem fieldsAt_group (s : State) (v : View) (g : Fin 8) :
    s.fieldsAt .group v g.val = some [setBits (s.viewImage v).grp[g], bit (s.viewMuted v g)] := by
  rw [State.fieldsAt, index?_val, Option.map_some]

theorem fieldsAt_wall (s : State) (v : View) (w : Fin 3) : s.fieldsAt .wall v w.val = some (s.wallFields v w) := by
  rw [State.fieldsAt, index?_val, Option.map_some]

theorem fieldsAt_device (s : State) (v : View) : s.fieldsAt .device v 0 = some (s.deviceFields v) := rfl

/-- The microphones of a source: its own, or none. -/
theorem filter_source_eq (i : Fin 26) :
    ((List.finRange 16).filter fun m => decide (m.val = i.val)) = (sourceMic i).toList := by
  revert i
  decide

/-- The three fields of a microphone stand in its holds entry, and in no other's (R89). -/
theorem fieldsAt_holds (s : State) (v : View) (i : Fin 26) : s.fieldsAt .holds v i.val =
    some ([(s.holdSet i).storedBits, (s.holdSet i).derivedBits]
      ++ ((List.finRange 16).filter fun m => decide (m.val = i.val)).flatMap (fun m =>
          [bit (s.mute.recs[i]).ask, bit s.mute.quiet[s.micPart m], indicatorCode (s.indicator m)])
      ++ [(s.env[i]).target, (s.env[i]).value, (s.env[i]).code]) := by
  rw [State.fieldsAt, index?_val, Option.map_some, filter_source_eq]
  unfold State.holdsFields
  cases sourceMic i
  · rfl
  · simp only [Option.toList_some, List.flatMap_singleton]

theorem fieldsAt_link (s : State) (v : View) (i : Fin 16) : s.fieldsAt .link v i.val = some (linkFields s.links[i]) := by
  rw [State.fieldsAt, index?_val, Option.map_some]

theorem fieldsAt_queue (s : State) (v : View) (q : Fin 4) (k : Fin 16) :
    s.fieldsAt .queue v (q.val * 16 + k.val) = s.queueFields q k.val := by
  have hdiv : (q.val * 16 + k.val) / 16 = q.val := by omega
  have hmod : (q.val * 16 + k.val) % 16 = k.val := by omega
  rw [State.fieldsAt, hdiv, hmod, index?_val, Option.bind_some]

theorem fieldsAt_grant (s : State) (v : View) (q : Fin 4) (k : Fin 8) :
    s.fieldsAt .grant v (q.val * 8 + k.val) = s.grantFields q k.val := by
  have hdiv : (q.val * 8 + k.val) / 8 = q.val := by omega
  have hmod : (q.val * 8 + k.val) % 8 = k.val := by omega
  rw [State.fieldsAt, hdiv, hmod, index?_val, Option.bind_some]

theorem fieldsAt_meters (s : State) (v : View) (i : Fin 26) :
    s.fieldsAt .meters v i.val = some [s.audio.peak[i], s.mix.srcClip[i]]
    ∧ s.fieldsAt .meters v (26 + i.val) = some [s.audio.busPeak[i], s.mix.busClip[i]] := by
  have hsrc : index? 52 i.val = some ⟨i.val, by omega⟩ := index?_val (n := 52) ⟨i.val, by omega⟩
  have hbus : index? 52 (26 + i.val) = some ⟨26 + i.val, by omega⟩ := index?_val (n := 52) ⟨26 + i.val, by omega⟩
  refine ⟨?_, ?_⟩
  · rw [State.fieldsAt, hsrc, Option.map_some, State.meterFields, dif_pos i.isLt]
    rfl
  · rw [State.fieldsAt, hbus, Option.map_some, State.meterFields, dif_neg (by simp)]
    simp only [Nat.add_sub_cancel_left]
    rfl

theorem fieldsAt_pages (s : State) (v : View) (k : Fin 32) : s.fieldsAt .pages v k.val = some (pageFields s.scene.pages[k]) := by
  rw [State.fieldsAt, index?_val, Option.map_some]

end Sys2Proof.Machine
end

section
/-! SUPPORT. SELECT, SHOW and FOLLOW (R146, R147, R155), and O49. -/

namespace Sys2Proof.Machine
open Host

/-! ## SELECT and SHOW as commands -/

/-- READ requests are allowed to every profile (R144). -/
theorem allows_read (x : Profile) : allows x .read = true := by cases x <;> rfl

theorem exec_read {c : Instr} {p : Port} {r : Request} {s : State} (hh : s.held = false) (hc : portRequest c = some (p, r))
    (hr : r.reqClass = .read) (hn : r ≠ .clear) :
    let a := r.body p (s.port p).keep (received p s)
    exec c s = .next (answered p r.name a.status (answerData (s.port p).cursor a) a.state) := by
  rw [exec_request c p r s hc hn, running_next _ s hh, request_allowed p r s (by rw [hr, allows_read])]
  rfl

theorem tableOf_tableCode (tb : TableId) : tableOf (tableCode tb) = some tb := by cases tb <;> rfl

/-- A SELECT within its table, in a view that the table has, names its cursor (R146). -/
theorem cursorOf_eq {tb : TableId} {v : View} {k vc : Nat} (hk : k < entryCount tb) (hs : isStatus tb = true → v = .live)
    (hv : viewOf vc = some v) : cursorOf (tableCode tb) vc k = some { table := tb, view := v, index := k } := by
  have hview : (!isStatus tb || decide (v = .live)) = true := by
    cases h : isStatus tb
    · rfl
    · exact decide_eq_true (hs h)
  rw [cursorOf, tableOf_tableCode, hv]
  exact if_pos (by rw [hview, decide_eq_true hk]; rfl)

theorem doSelect_eq (p : Port) {t v k : Nat} {c : Cursor} (h : cursorOf t v k = some c) (s : State) :
    doSelect p t v k s = (s.setPort p { s.port p with cursor := c }).okReply := by rw [doSelect, h]

/-- SELECT sets the cursor and nothing else (R146). -/
theorem exec_select (p : Port) {s : State} (hh : s.held = false) {tb : TableId} {v : View} {k vc : Nat}
    (hk : k < entryCount tb) (hs : isStatus tb = true → v = .live) (hv : viewOf vc = some v) :
    exec (.select p (tableCode tb) vc k) s = .next (answered p .select .ok []
      ((received p s).setPort p { (received p s).port p with cursor := { table := tb, view := v, index := k } })) := by
  refine (exec_read (r := .select (tableCode tb) vc k) hh rfl rfl Request.noConfusion).trans ?_
  rw [Request.body, doSelect_eq p (cursorOf_eq hk hs hv)]
  rfl

theorem received_cursor (p : Port) (s : State) : ((received p s).port p).cursor = (s.port p).cursor := by cases p <;> rfl

theorem entryAt_received (p : Port) (s : State) (c : Cursor) : (received p s).entryAt c = s.entryAt c := by
  cases p
  · exact entryAt_withPorts s _ s.portB _ c
  · exact entryAt_withPorts s s.portA _ s.lineA c

/-- What a SHOW leaves before its answer (R147, R155). -/
def shown (p : Port) (s : State) : State :=
  followShown p (s.port p).cursor (s.entryAt (s.port p).cursor) ((received p s).advance p)

/-- SHOW is answered with the entry at the cursor, or EMPTY (R147). -/
theorem exec_show (p : Port) {s : State} (hh : s.held = false) :
    let c := (s.port p).cursor
    exec (.showEntry p) s
      = .next (answered p .showEntry (if (s.entryAt c).isSome then .ok else .empty) ((s.entryAt c).getD []) (shown p s)) := by
  refine (exec_read (r := .showEntry) hh rfl rfl Request.noConfusion).trans ?_
  have hbody : Request.showEntry.body p (s.port p).keep (received p s) = doShow p (received p s) := rfl
  rw [hbody]
  simp only [doShow, received_cursor, entryAt_received, shown]
  cases s.entryAt (s.port p).cursor <;> rfl

/-- A SHOW moves its port's cursor and, on Port A, the follow entry (R147, R155). -/
theorem shown_spec (p : Port) (s : State) :
    (shown p s).port p = { (received p s).port p with cursor := (s.port p).cursor.advance }
    ∧ (∀ q : Port, q ≠ p → (shown p s).port q = s.port q)
    ∧ shown p s = { s with portA := (shown p s).portA, portB := (shown p s).portB, lineA := (shown p s).lineA }
    ∧ (shown p s).lineA = (if p = .a ∧ s.lineA.follow = true
        then { s.lineA with
          followEntry := some { cursor := (s.port p).cursor, sent := s.entryAt (s.port p).cursor }, followReady := false }
        else (received p s).lineA) := by
  unfold shown
  generalize s.entryAt (s.port p).cursor = e
  cases p with
  | a =>
    have hline : ((received .a s).advance .a).lineA.follow = s.lineA.follow := rfl
    rw [followShown, hline]
    cases hf : s.lineA.follow
    · refine ⟨rfl, fun q hq => ?_, rfl, ?_⟩
      · cases q
        · exact absurd rfl hq
        · rfl
      · rw [if_neg (by simp)]
        rfl
    · refine ⟨rfl, fun q hq => ?_, rfl, ?_⟩
      · cases q
        · exact absurd rfl hq
        · rfl
      · rw [if_pos (by simp)]
        rfl
  | b =>
    refine ⟨rfl, fun q hq => ?_, rfl, (if_neg (by simp)).symm⟩
    cases q
    · rfl
    · exact absurd rfl hq

/-! ## FOLLOW at a boundary (R155) -/

/-- No work of a boundary before FOLLOW moves Port A's line. -/
theorem boundaryWorked_lineA (sense : Sense) (early : Bool) (s : State) : (boundaryWorked sense early s).lineA = s.lineA := by
  obtain ⟨k1, k2⟩ := boundaryDecided_plane sense s
  calc (boundaryWorked sense early s).lineA
      = (boundaryDecided sense s).lineA := (boundaryWorked_plane sense early s).lineA.trans (startDownstream_lineA ..)
    _ = (closeFrames (handover (boundaryLinks sense s))).lineA := (k1.trans k2).lineA
    _ = (boundaryLinks sense s).lineA := (closeFrames_lineA _).trans (handover_lineA _)
    _ = s.lineA := (boundaryLinks_step sense s).2.2.1

/-- FOLLOW and Port A's transmitter leave every entry. -/
theorem entryAt_settled (s : State) (c : Cursor) : (settleLine (followCompare s)).entryAt c = s.entryAt c := by
  obtain ⟨line, hline⟩ := settled_frame s
  rw [hline]
  exact entryAt_withPorts s s.portA s.portB line c

/-- Where FOLLOW has an entry, its content is compared with what was last sent. -/
theorem followCompare_entry {s : State} {f : FollowEntry} (hf : s.lineA.follow = true) (he : s.lineA.followEntry = some f) :
    (followCompare s).lineA
      = if s.entryAt f.cursor = f.sent then s.lineA else { s.lineA with followReady := true } := by
  rw [followCompare, hf, he]
  dsimp only
  split <;> rfl

theorem followCompare_idle {s : State} (h : ∀ f, s.lineA.follow = true → s.lineA.followEntry = some f → False) :
    followCompare s = s := by
  unfold followCompare
  split
  · rename_i f hf he
    exact (h f hf he).elim
  · rfl

/-! ## O49 -/

/-- A view that holds entries, by its image: LIVE, or a buffer that is not EMPTY. -/
theorem view_filled {s : State} {v : View} {img : Image}
    (h : (v = .live ∧ img = s.live) ∨ ∃ b : Fin 2, v = .sb b ∧ (s.scene.bufs[b]).status ≠ .empty ∧ img = (s.scene.bufs[b]).image) :
    s.viewEmpty v = false ∧ s.viewImage v = img := by
  rcases h with ⟨rfl, rfl⟩ | ⟨b, rfl, hb, rfl⟩
  · exact ⟨rfl, rfl⟩
  · exact ⟨decide_eq_false hb, rfl⟩

theorem viewMuted_eq (s : State) (v : View) (g : Fin 8) :
    bit (s.viewMuted v g) = if v = .live then bit s.mute.groupMuted[g] else 0 := by
  cases v <;> rfl

/-- Settles O49: SELECT and SHOW by `exec_select` and `exec_show`, the entries table by table by the `fieldsAt` laws, and FOLLOW by
`followCompare_entry`. -/
theorem selectAndShow : Obligations.SelectAndShow := by
  refine ⟨fun p s hh => ⟨fun tb v k hk hs vc hv => exec_select p hh hk hs hv, shown p s, exec_show p hh, shown_spec p s⟩,
    fun s v img hv => ?_, fun s b t k h => entryAt_of_empty h t k, fun sense early s hh => ?_⟩
  · obtain ⟨hfilled, rfl⟩ := view_filled hv
    intro entry flag
    have hentry (t : TableId) (k : Nat) : entry t k = s.fieldsAt t v k := entryAt_of_filled hfilled t k
    refine ⟨fun b hb => (hentry ..).trans (fieldsAt_excluded s v hb), fun i hi => (hentry ..).trans (fieldsAt_crosspoint s v hi),
      fun i => (hentry ..).trans (fieldsAt_source s v i), fun b => (hentry ..).trans (fieldsAt_bus s v b), fun q => ?_, fun g => ?_,
      fun w => ?_, fun hl => ?_, fun b hb => ?_, fun hl => ⟨fun i => ?_, fun i => ?_, fun q k => ?_, fun q k => ?_, fun i => ?_,
        fun k => (hentry ..).trans (fieldsAt_pages s v k)⟩⟩
    · rw [hentry, fieldsAt_sect, sectionFields, overflowCode_eq, expiryCode_eq]
      rfl
    · obtain ⟨hlt, hbits⟩ := setBits_spec (s.viewImage v).grp[g]
      exact ⟨_, by rw [hentry, fieldsAt_group, viewMuted_eq]; rfl, hlt, hbits⟩
    · rw [hentry, fieldsAt_wall, State.wallFields, wallStateCode_eq, wallStateCode_eq]
      rfl
    · subst hl
      rfl
    · subst hb
      rw [hentry, fieldsAt_device, State.deviceFields]
      dsimp only
      cases (s.scene.bufs[b]).powerOn with
      | none => rfl
      | some r =>
        rw [Option.toList_some, List.flatMap_singleton, powerOnFields, setBits_eq_sum]
        rfl
    · rw [hentry, fieldsAt_holds]
      rfl
    · rw [hentry, fieldsAt_link, linkFields]
      generalize s.links[i] = l
      dsimp only
      cases l.identity with
      | none => cases l.faultCode <;> rfl
      | some d =>
        rw [Option.toList_some, List.flatMap_singleton, setBits_three]
        cases l.faultCode <;> rfl
    · rw [hentry, fieldsAt_queue]
      rfl
    · rw [hentry, fieldsAt_grant]
      rfl
    · rw [hentry, hentry]
      exact fieldsAt_meters s v i
  · refine ⟨_, followCompare (boundaryWorked sense early s), running_next (frameBoundary sense early) s hh, ?_, ?_⟩
    · rw [frameBoundary_eq]
    · have hline := boundaryWorked_lineA sense early s
      rw [frameBoundary_eq]
      generalize boundaryWorked sense early s = w at hline ⊢
      rw [← hline]
      split
      · rename_i f hf he
        rw [followCompare_entry hf he, entryAt_settled]
      · rename_i h
        rw [followCompare_idle h]

end Sys2Proof.Machine
end

section
/-! SUPPORT. The regroup machine under every command (R20, R23, R28, R29), and O20 and O21. -/

namespace Sys2Proof.Machine
open Host

/-! ## What keeps the map in force -/

/-- The regroup machine is clean and its two maps are maps of R20: the invariant of O20. -/
def RegroupSound (s : State) : Prop := RegroupClean s.rg ∧ MapsLegal s

/-- From `s` to `t` the map in force stands and the regroup machine stays sound. -/
structure MapStill (s t : State) : Prop where
  map : t.rg.map = s.rg.map
  sound : RegroupSound s → RegroupSound t

theorem RegroupSound.congr {s t : State} (h : RegroupSound s) (hr : t.rg = s.rg) : RegroupSound t := by
  unfold RegroupSound MapsLegal at *
  rwa [hr]

theorem MapStill.of_rg {s t : State} (h : t.rg = s.rg) : MapStill s t := ⟨congrArg Regroup.map h, fun k => k.congr h⟩

theorem MapStill.refl (s : State) : MapStill s s := .of_rg rfl

theorem MapStill.trans {s t u : State} (h : MapStill s t) (k : MapStill t u) : MapStill s u :=
  ⟨k.map.trans h.map, fun x => k.sound (h.sound x)⟩

theorem MapStill.foldl {α : Type} {f : State → α → State} (h : ∀ s x, MapStill s (f s x)) (l : List α) (s : State) :
    MapStill s (l.foldl f s) := by
  induction l generalizing s with
  | nil => exact .refl s
  | cons x l ih => exact (h s x).trans (ih (f s x))

theorem MapStill.ite {s t u : State} {c : Prop} [Decidable c] (h : MapStill s t) (k : MapStill s u) :
    MapStill s (if c then t else u) := by split <;> assumption

/-- After a cause the machine is clean, whatever it was before (R27, R28). -/
theorem regroupCause_clean (timed : Bool) (s : State) : RegroupClean (regroupCause timed s).rg := by
  rcases regroupCause_state timed s with ⟨hst, -⟩ | ⟨hst, -, -, hch⟩
  · exact ⟨fun h => absurd hst h, fun h => by simp [hst] at h⟩
  · exact ⟨fun _ => hch, fun h => by simp [hst] at h⟩

/-- The pending map that a cause derives is a map of R20 (R25). -/
theorem regroupCause_pendMap (timed : Bool) (s : State) :
    (regroupCause timed s).rg.pendMap = mapOf (s.effectiveWith s.pendingImage) := by
  unfold regroupCause
  split
  · rfl
  · dsimp only; split <;> rfl
  · rfl

theorem regroupCause_sound {timed : Bool} {s : State} (h : LegalMap s.rg.map) : RegroupSound (regroupCause timed s) :=
  ⟨regroupCause_clean timed s, by rwa [regroupCause_map], _, regroupCause_pendMap timed s⟩

/-- A cause on a state that has the map of `s`, whatever else moved. -/
theorem regroupCause_still {s u : State} (timed : Bool) (h : u.rg.map = s.rg.map) : MapStill s (regroupCause timed u) :=
  ⟨(regroupCause_map timed u).trans h, fun k => regroupCause_sound (h ▸ k.2.1)⟩

/-! ## Operations that leave the regroup machine as it was -/

theorem OnlyLink.rg {i : Fin 16} {s t : State} (h : OnlyLink i s t) : t.rg = s.rg := h.2.2.2

@[simp] theorem moveLink_rg (i : Fin 16) (l : LinkRec) (cause : LinkCause) (code : Option Byte) (f : MuteRec → MuteRec)
    (clears removes : Bool) (s : State) : (moveLink i l cause code f clears removes s).rg = s.rg := (moveLink_only ..).rg

@[simp] theorem enterTraining_rg (cause : LinkCause) (i : Fin 16) (s : State) : (enterTraining cause i s).rg = s.rg :=
  moveLink_rg ..
@[simp] theorem enterRetrain_rg (cause : LinkCause) (i : Fin 16) (s : State) : (enterRetrain cause i s).rg = s.rg :=
  moveLink_rg ..
@[simp] theorem enterActive_rg (kind : Byte) (buttons : Vector Bool 3) (slide : Slide) (i : Fin 16) (s : State) :
    (enterActive kind buttons slide i s).rg = s.rg := moveLink_rg ..
@[simp] theorem enterDoze_rg (i : Fin 16) (s : State) : (enterDoze i s).rg = s.rg := moveLink_rg ..
@[simp] theorem enterDetached_rg (cause : LinkCause) (i : Fin 16) (s : State) : (enterDetached cause i s).rg = s.rg :=
  moveLink_rg ..
@[simp] theorem enterFault_rg (cause : LinkCause) (code : Option Byte) (i : Fin 16) (s : State) :
    (enterFault cause code i s).rg = s.rg := moveLink_rg ..
@[simp] theorem enterDown_rg (cause : LinkCause) (timed : Bool) (i : Fin 16) (s : State) :
    (enterDown cause timed i s).rg = s.rg := moveLink_rg ..
@[simp] theorem refuseDoze_rg (cause : LinkCause) (i : Fin 16) (s : State) : (refuseDoze cause i s).rg = s.rg :=
  (refuseDoze_only ..).rg
@[simp] theorem failAttempt_rg (i : Fin 16) (s : State) : (failAttempt i s).rg = s.rg := (failAttempt_only ..).rg

/-- The table of R139 leaves the regroup machine. -/
theorem linkAction_rg (req : LinkReq) (i : Fin 16) (s : State) : (linkAction req i s).1.rg = s.rg := by
  cases req
  · simp only [linkAction, linkNop]; split <;> simp
  · simp only [linkAction, linkUp]; split <;> (try split) <;> simp
  · simp only [linkAction, linkDoze]; split <;> simp [openHandshake]
  · simp only [linkAction, linkDetach]; split_ifs <;> simp [openHandshake]
  · simp only [linkAction, linkRetrain]; split <;> simp

@[simp] theorem overSet_rg (set : Set26) (f : MuteRec → MuteRec) (s : State) : (overSet set f s).rg = s.rg := by simp [overSet]
@[simp] theorem turnQuiet_rg (p : Fin 4) (on : Bool) (s : State) : (turnQuiet p on s).rg = s.rg := by simp [turnQuiet]
@[simp] theorem togglePrivacy_rg (m : Fin 16) (s : State) : (togglePrivacy m s).rg = s.rg := by simp [togglePrivacy]
@[simp] theorem toggleAsk_rg (m : Fin 16) (s : State) : (toggleAsk m s).rg = s.rg := by
  simp only [toggleAsk]; split <;> simp

/-! ## Floor requests -/

theorem askMic_rg (m : Fin 16) (s : State) : (askMic m s).state.rg = s.rg := by
  simp only [askMic]; split_ifs <;> simp [State.refuse]
theorem withdrawMic_rg (m : Fin 16) (s : State) : (withdrawMic m s).state.rg = s.rg := by
  simp only [withdrawMic]; split <;> simp [State.refuse]
theorem endGrant_rg (event : FloorEvent) (m : Fin 16) (s : State) : (endGrant event m s).state.rg = s.rg := by
  simp only [endGrant]; split <;> simp [State.refuse]
theorem makeGrant_rg (p : Fin 4) (m : Fin 16) (s : State) : (makeGrant p m s).state.rg = s.rg := by
  simp only [makeGrant]
  split
  · simp
  · split <;> simp [State.refuse]
theorem grantMic_rg (m : Fin 16) (s : State) : (grantMic m s).state.rg = s.rg := by
  simp only [grantMic]; split_ifs
  · rfl
  · exact makeGrant_rg ..
  · rfl
theorem grantOldest_rg (p : Fin 4) (s : State) : (grantOldest p s).state.rg = s.rg := by
  simp only [grantOldest]; split
  · rfl
  · exact makeGrant_rg ..
theorem clearQueue_rg (p : Fin 4) (s : State) : (clearQueue p s).state.rg = s.rg := by simp [clearQueue]
theorem talkFloor_rg (m : Fin 16) (s : State) : (talkFloor m s).rg = s.rg := by
  simp only [talkFloor]; split_ifs
  · rfl
  · exact endGrant_rg ..
  · exact withdrawMic_rg ..
  · exact askMic_rg ..

/-- A floor request on a source keeps what its operation on a microphone keeps. -/
theorem onSource_rg {f : Fin 16 → State → Reply} (h : ∀ m s, (f m s).state.rg = s.rg) (n : Nat) (s : State) :
    (onSource n f s).state.rg = s.rg := by
  unfold onSource; split
  · exact h ..
  · rfl
theorem onSlot_rg {f : Fin 4 → State → Reply} (h : ∀ p s, (f p s).state.rg = s.rg) (n : Nat) (s : State) :
    (onSlot n f s).state.rg = s.rg := by
  unfold onSlot; split
  · exact h ..
  · rfl

/-! ## Pod messages -/

theorem takeHello_rg (locked : Bool) (kind : Byte) (buttons : Vector Bool 3) (slide : Option Slide) (i : Fin 16) (s : State) :
    (takeHello locked kind buttons slide i s).rg = s.rg := by
  unfold takeHello; split <;> (try split) <;> simp

theorem actPress_rg (b : Button) (m : Fin 16) (s : State) : (actPress b m s).rg = s.rg := by
  cases b
  · simp [actPress]
  · simp only [actPress]; split
    · exact talkFloor_rg ..
    · simp
  · simp only [actPress]; split <;> simp

theorem takeButton_rg (b : Button) (seq : Bool) (i : Fin 16) (s : State) : (takeButton b seq i s).rg = s.rg := by
  simp only [takeButton]
  split
  · rfl
  · split <;> simp [actPress_rg]

theorem takeDozeAck_rg (i : Fin 16) (s : State) : (takeDozeAck i s).rg = s.rg := by
  simp only [takeDozeAck]; split <;> simp
theorem takeDozeNak_rg (i : Fin 16) (s : State) : (takeDozeNak i s).rg = s.rg := by
  simp only [takeDozeNak]; split <;> simp
theorem takeDetachAck_rg (i : Fin 16) (s : State) : (takeDetachAck i s).rg = s.rg := by
  simp only [takeDetachAck]; split <;> simp
theorem takeFaultReport_rg (code : Byte) (i : Fin 16) (s : State) : (takeFaultReport code i s).rg = s.rg := by
  simp only [takeFaultReport]; split <;> simp
theorem takeWake_rg (i : Fin 16) (s : State) : (takeWake i s).rg = s.rg := by
  simp only [takeWake]; split <;> simp

theorem takeMessage_rg (locked : Bool) (msg : PodMessage) (i : Fin 16) (s : State) : (takeMessage locked msg i s).rg = s.rg := by
  cases msg
  · exact takeHello_rg ..
  · exact takeButton_rg ..
  · exact takeDozeAck_rg ..
  · exact takeDozeNak_rg ..
  · exact takeDetachAck_rg ..
  · exact takeFaultReport_rg ..
  · exact takeWake_rg ..

theorem upstreamArrival_rg (i : Fin 16) (bytes : List Byte) (s : State) : (upstreamArrival i bytes s).rg = s.rg := by
  simp only [upstreamArrival]
  split
  · split
    · split
      · exact (takeMessage_rg ..).trans (setLink_rg ..)
      · simp
    · simp
  · rfl

/-! ## Timed rows -/

theorem badFrameRun_rg (i : Fin 16) (s : State) : (badFrameRun i s).rg = s.rg := by
  simp only [badFrameRun]; split <;> simp
theorem attemptFail_rg (i : Fin 16) (s : State) : (attemptFail i s).rg = s.rg := by
  simp only [attemptFail]; split <;> simp
theorem dozeTimeout_rg (i : Fin 16) (s : State) : (dozeTimeout i s).rg = s.rg := by
  simp only [dozeTimeout]; split <;> simp
theorem detachTimeout_rg (i : Fin 16) (s : State) : (detachTimeout i s).rg = s.rg := by
  simp only [detachTimeout]; split <;> simp
theorem residencyMet_rg (i : Fin 16) (s : State) : (residencyMet i s).rg = s.rg := by
  simp only [residencyMet]; split_ifs <;> simp
theorem autoUpEvent_rg (i : Fin 16) (s : State) : (autoUpEvent i s).rg = s.rg := by
  simp only [autoUpEvent]; split <;> simp
theorem gateHoldExpiry_rg (m : Fin 16) (s : State) : (gateHoldExpiry m s).rg = s.rg := by
  rcases gateHoldExpiry_spec m s with h | ⟨-, -, h⟩ <;> simp [h]
@[simp] theorem abandonBatch_rg (p : Port) (ob : OpenBatch) (s : State) : (abandonBatch p ob s).rg = s.rg :=
  (abandonBatch_kept p ob s).2.2
theorem batchIdleTimeout_rg (p : Port) (s : State) : (batchIdleTimeout p s).rg = s.rg := by
  unfold batchIdleTimeout
  split
  · split <;> simp
  · rfl

/-! ## Batches -/

theorem floorsAfterWrite_rg (before : State) (test : Fin 4 → Bool) (s : State) : (floorsAfterWrite before test s).rg = s.rg := by
  have general (l : List (Fin 4)) (u : State) : (l.foldl (fun t p =>
      if test p then
        let c := floorAfterWrite before s p
        State.post { t with floors := put t.floors p c.1 } c.2
      else t) u).rg = u.rg := by
    induction l generalizing u with
    | nil => rfl
    | cons p l ih =>
      rw [List.foldl_cons, ih]
      split <;> simp
  exact general slots s

theorem placeLive_rg (img : Image) (s : State) : (placeLive img s).rg = s.rg := by
  simp [placeLive, floorsAfterWrite_rg, gatesAfterWrite]

theorem applyBatch_rg (p : Port) (b : Batch) (s : State) : (applyBatch p b s).rg = s.rg := by
  simp only [applyBatch]
  split <;> simp [placeLive_rg]

theorem applyCommitted_rg (p : Port) (s : State) : (applyCommitted p s).rg = s.rg := by
  have general (l : List Batch) (u : State) : (l.foldl (fun t b => applyBatch p b t) u).rg = u.rg := by
    induction l generalizing u with
    | nil => rfl
    | cons b l ih => rw [List.foldl_cons, ih, applyBatch_rg]
  simp only [applyCommitted, general, setPort_rg]

/-- A batch handed on either leaves the regroup machine, or is a cause. -/
theorem commitBatch_still {p : Port} {b : Batch} {s t : State} (h : commitBatch p b s = some t) : MapStill s t := by
  simp only [commitBatch] at h
  split_ifs at h
  · cases h
    exact regroupCause_still false rfl
  · cases h
    exact .of_rg (by simp)

/-! ## Requests of chapter 9 and 10 -/

@[simp] theorem followShown_rg (p : Port) (c : Cursor) (content : Option (List Nat)) (s : State) :
    (followShown p c content s).rg = s.rg := by
  cases p
  · simp only [followShown]; split <;> rfl
  · rfl

theorem doSelect_rg (p : Port) (t v k : Nat) (s : State) : (doSelect p t v k s).state.rg = s.rg := by
  unfold doSelect; split
  · simp [State.okReply]
  · rfl

theorem doShow_rg (p : Port) (s : State) : (doShow p s).state.rg = s.rg := by simp [doShow]

theorem enterBuffer_rg (p : Port) (b : Fin 2) (key : TableId × Nat) (skip : Bool) (done : Status) (f : Buffer → Buffer)
    (s : State) : (enterBuffer p b key skip done f s).state.rg = s.rg := by
  simp only [enterBuffer]; split_ifs <;> simp [State.refuse]

theorem enterLive_still {p : Port} {e : Entry} {s t : State} (h : enterLive p e s = .ok t) : MapStill s t := by
  simp only [enterLive] at h
  split at h
  · cases h
  · split at h
    · split at h
      · cases h
        exact .of_rg (by simp)
      · cases h
    · split at h
      · rename_i hc
        cases h
        exact commitBatch_still hc
      · cases h

theorem enterEntry_still (p : Port) (v : View) (e : Entry) (done : Status) (s : State) :
    MapStill s (enterEntry p v e done s).state := by
  cases v
  · simp only [enterEntry]
    split
    · exact .of_rg (by simp [State.refuse])
    · split
      · rename_i u hu
        exact (enterLive_still hu).trans (.of_rg (by simp))
      · exact .refl s
  · exact .of_rg (enterBuffer_rg ..)

theorem doEnter_still (p : Port) (ops : List Nat) (keep : Option Set26) (s : State) :
    MapStill s (doEnter p ops keep s).state := by
  simp only [doEnter]
  split
  · exact .refl s
  · split
    · exact .of_rg (by simp [State.refuse])
    · split
      · exact .of_rg (by simp [State.okReply, clearClip])
      · exact .of_rg (by simp [State.refuse])
    · split
      · exact .refl s
      · exact .of_rg (enterBuffer_rg ..)
    · exact enterEntry_still ..

theorem doWall_still (p : Port) (w : Nat) (o : Override) (s : State) : MapStill s (doWall p w o s).state := by
  simp only [doWall]
  split
  · exact .refl s
  · split
    · rename_i hu
      exact enterLive_still hu
    · exact .refl s

theorem doCommit_still (p : Port) (s : State) : MapStill s (doCommit p s).state := by
  simp only [doCommit]
  split
  · exact .refl s
  · split
    · rename_i hc
      exact (MapStill.of_rg (by simp)).trans (commitBatch_still hc)
    · exact .refl s

theorem doMask_rg (p : Port) (n : Nat) (s : State) : (doMask p n s).state.rg = s.rg := by
  unfold doMask; split
  · simp [State.okReply]
  · rfl
theorem doBegin_rg (p : Port) (s : State) : (doBegin p s).state.rg = s.rg := by
  unfold doBegin; split <;> simp [State.okReply, State.refuse]
theorem doAbandon_rg (p : Port) (s : State) : (doAbandon p s).state.rg = s.rg := by
  unfold doAbandon; split <;> simp [State.okReply, State.refuse]
theorem doLower_rg (p : Port) (n : Profile) (s : State) : (doLower p n s).state.rg = s.rg := by
  simp only [doLower]; split <;> simp [State.okReply, State.refuse]
theorem doNotices_rg (p : Port) (s : State) : (doNotices p s).state.rg = s.rg := by cases p <;> rfl
theorem doFlags_rg (p : Port) (f : PortFlag) (on : Bool) (s : State) : (doFlags p f on s).state.rg = s.rg := by cases p <;> rfl
theorem doHold_rg (p : Port) (t : Target) (s : State) : (doHold p t s).state.rg = s.rg := by
  unfold doHold; split <;> simp [State.okReply, State.refuse, placeHolds]
theorem doFree_rg (p : Port) (t : Target) (s : State) : (doFree p t s).state.rg = s.rg := by
  unfold doFree; split
  · split <;> simp [State.okReply, State.refuse, releaseHolds]
  · rfl
theorem freeEverything_rg (p : Port) (s : State) : (freeEverything p s).rg = s.rg := by cases p <;> simp [freeEverything]
theorem doGroupMute_rg (g : Nat) (on : Bool) (s : State) : (doGroupMute g on s).state.rg = s.rg := by
  unfold doGroupMute; split <;> simp [State.okReply, State.refuse, setGroupMuted]
theorem doQuiet_rg (n : Nat) (on : Bool) (s : State) : (doQuiet n on s).state.rg = s.rg := by
  unfold doQuiet; split
  · split
    · dsimp only; split <;> simp
    · rfl
  · rfl
theorem doDismiss_rg (t : Target) (s : State) : (doDismiss t s).state.rg = s.rg := by
  unfold doDismiss; split
  · split <;> simp [State.okReply, State.refuse, dismissAsks]
  · simp [State.okReply, dismissAsks]
  · rfl
theorem doLink_rg (n : Nat) (req : LinkReq) (s : State) : (doLink n req s).state.rg = s.rg := by
  unfold doLink; split
  · rfl
  · simp [linkAction_rg]

theorem loadPage_rg (k : Fin 32) (b : Fin 2) (s : State) : (loadPage k b s).state.rg = s.rg := by
  unfold loadPage; split_ifs <;> simp [State.okReply, State.refuse, startJob, lockBuf]
theorem captureBuf_rg (b : Fin 2) (s : State) : (captureBuf b s).state.rg = s.rg := by
  unfold captureBuf; split <;> simp [State.okReply, State.refuse, lockBuf]
theorem storeBuf_rg (b : Fin 2) (k : Fin 32) (s : State) : (storeBuf b k s).state.rg = s.rg := by
  unfold storeBuf; split_ifs <;> simp [State.okReply, State.refuse, startJob, lockBuf]
theorem amendPage_rg (b : Fin 2) (k : Fin 32) (s : State) : (amendPage b k s).state.rg = s.rg := by
  unfold amendPage; split_ifs <;> simp [State.okReply, State.refuse, startJob, lockBuf]
theorem erasePage_rg (k : Fin 32) (s : State) : (erasePage k s).state.rg = s.rg := by
  simp only [erasePage]; split <;> simp [State.okReply, State.refuse, startJob]
theorem applyBuf_still (b : Fin 2) (s : State) : MapStill s (applyBuf b s).state := by
  simp only [applyBuf]
  split_ifs
  · exact .refl s
  · exact .refl s
  · exact .refl s
  · exact regroupCause_still false rfl

theorem onPageBuf_still {f : Fin 32 → Fin 2 → State → Reply} (h : ∀ k b s, MapStill s (f k b s).state) (k b : Nat) (s : State) :
    MapStill s (onPageBuf k b f s).state := by
  unfold onPageBuf; split
  · exact h ..
  · exact .refl s
theorem onBuf_still {f : Fin 2 → State → Reply} (h : ∀ b s, MapStill s (f b s).state) (b : Nat) (s : State) :
    MapStill s (onBuf b f s).state := by
  unfold onBuf; split
  · exact h ..
  · exact .refl s
theorem onPage_still {f : Fin 32 → State → Reply} (h : ∀ k s, MapStill s (f k s).state) (k : Nat) (s : State) :
    MapStill s (onPage k f s).state := by
  unfold onPage; split
  · exact h ..
  · exact .refl s

/-- No request body moves the map in force: the batches and an APPLY are causes, the others leave the regroup machine. -/
theorem body_still (p : Port) (r : Request) (keep : Option Set26) (s : State) : MapStill s (r.body p keep s).state := by
  cases r with
  | select t v k => exact .of_rg (doSelect_rg ..)
  | showEntry => exact .of_rg (doShow_rg ..)
  | enter ops => exact doEnter_still ..
  | mask n => exact .of_rg (doMask_rg ..)
  | beginBatch => exact .of_rg (doBegin_rg ..)
  | commit => exact doCommit_still ..
  | abandon => exact .of_rg (doAbandon_rg ..)
  | wall w o => exact doWall_still ..
  | notices => exact .of_rg (doNotices_rg ..)
  | flags f on => exact .of_rg (doFlags_rg ..)
  | lower n => exact .of_rg (doLower_rg ..)
  | hold t => exact .of_rg (doHold_rg ..)
  | free t => exact .of_rg (doFree_rg ..)
  | freeAll => exact .of_rg (freeEverything_rg ..)
  | gmute g => exact .of_rg (doGroupMute_rg ..)
  | gunmute g => exact .of_rg (doGroupMute_rg ..)
  | quiet n on => exact .of_rg (doQuiet_rg ..)
  | dismiss t => exact .of_rg (doDismiss_rg ..)
  | ask n => exact .of_rg (onSource_rg askMic_rg ..)
  | withdraw n => exact .of_rg (onSource_rg withdrawMic_rg ..)
  | release n => exact .of_rg (onSource_rg (endGrant_rg .released) ..)
  | grant n => exact .of_rg (onSource_rg grantMic_rg ..)
  | grantNext n => exact .of_rg (onSlot_rg grantOldest_rg ..)
  | revoke n => exact .of_rg (onSource_rg (endGrant_rg .revoked) ..)
  | clearQ n => exact .of_rg (onSlot_rg clearQueue_rg ..)
  | link i req => exact .of_rg (doLink_rg ..)
  | load k b => exact onPageBuf_still (fun k b s => .of_rg (loadPage_rg k b s)) ..
  | capture b => exact onBuf_still (fun b s => .of_rg (captureBuf_rg b s)) ..
  | store b k => exact onPageBuf_still (fun k b s => .of_rg (storeBuf_rg b k s)) ..
  | amend b k => exact onPageBuf_still (fun k b s => .of_rg (amendPage_rg b k s)) ..
  | erase k => exact onPage_still (fun k s => .of_rg (erasePage_rg k s)) ..
  | apply b => exact onBuf_still applyBuf_still ..
  | clear => exact .refl s

theorem serve_still (p : Port) (code : Byte) (cls : ReqClass) {body : Option Set26 → State → Reply}
    (h : ∀ k s, MapStill s (body k s).state) (s : State) : MapStill s (serve p code cls body s) := by
  have hr : MapStill s (received p s) := .of_rg (by simp)
  simp only [serve]
  split
  · exact (hr.trans (h ..)).trans (.of_rg (respond_rg ..))
  · exact hr.trans (.of_rg (respond_rg ..))

theorem request_still (p : Port) (r : Request) (s : State) : MapStill s (request p r s) := serve_still p _ _ (body_still p r) s

theorem refuseRequest_still (p : Port) (code : Byte) (st : Status) (s : State) : MapStill s (refuseRequest p code st s) :=
  .of_rg (by simp [refuseRequest])

/-! ## The start-up event (R170) -/

/-- What a start-up event depends on. -/
theorem startUp_congr {s t : State} (cause : StartCause) (pins : Pins) (hs : t.scene = s.scene) (hq : t.pending = s.pending)
    (hf : t.freeCount = s.freeCount) : startUp cause pins t = startUp cause pins s := by
  have hbreak : (breakJob t).scene = (breakJob s).scene ∧ (breakJob t).freeCount = (breakJob s).freeCount := by
    unfold breakJob
    rw [hs]
    cases s.scene.job with
    | none => exact ⟨hs, hf⟩
    | some j =>
      dsimp only
      cases j.op <;> dsimp only <;> (try split) <;> simp [breakPage, State.setPage, hs, hf]
  simp only [startUp, hbreak, hq]

/-- A start-up event of a part whose count of free values is `n`. -/
def StartsUp (s u : State) : Prop := ∃ cause pins n, u = startUp cause pins { s with freeCount := n }

theorem startRegroup_sound (s : State) (img : Image) {map : PartMap} (hm : LegalMap map) (hr : s.rg = startRegroup img map) :
    RegroupSound s := by
  unfold RegroupSound MapsLegal
  rw [hr]
  exact ⟨⟨fun _ => rfl, fun _ => ⟨rfl, rfl, rfl⟩⟩, hm, hm⟩

theorem startUp_sound (cause : StartCause) (pins : Pins) (s : State) : RegroupSound (startUp cause pins s) := by
  simp only [startUp, startFrom]
  split <;> exact startRegroup_sound _ _ ⟨_, rfl⟩ rfl

theorem requestClear_still (p : Port) (s : State) : MapStill s (requestClear p s) ∨ StartsUp s (requestClear p s) := by
  unfold requestClear
  split
  · exact .inr ⟨_, _, _, rfl⟩
  · exact .inl (request_still ..)

/-- A request that a line or a record spells keeps the map, or is CLEAR. -/
theorem wireRequest_still (p : Port) (name : ReqName) (ops : List Nat) (s : State) :
    MapStill s (wireRequest p name ops s) ∨ StartsUp s (wireRequest p name ops s) := by
  unfold wireRequest
  split
  · exact .inl (refuseRequest_still ..)
  · split
    · exact requestClear_still ..
    · exact .inl (request_still ..)
    · exact .inl (serve_still _ _ _ (fun _ s => .refl s) s)

theorem takeWords_still (words : List (List Byte)) (s : State) :
    MapStill s (takeWords words s) ∨ StartsUp s (takeWords words s) := by
  unfold takeWords
  split
  · exact .inl (.refl s)
  · split
    · exact wireRequest_still ..
    · exact .inl (refuseRequest_still ..)

theorem endOfLine_still (s : State) : MapStill s (endOfLine s) ∨ StartsUp s (endOfLine s) := by
  have ended (rest : List Byte) : MapStill s { s with lineA := s.lineA.endLine rest } := .of_rg rfl
  simp only [endOfLine]
  split
  · split
    · split_ifs
      · exact .inl ((ended _).trans (refuseRequest_still ..))
      · exact .inl ((ended _).trans (refuseRequest_still ..))
      · rcases takeWords_still (splitWords s.lineA.buf []) { s with lineA := s.lineA.endLine _ } with h | ⟨cause, pins, n, h⟩
        · exact .inl ((ended _).trans h)
        · exact .inr ⟨cause, pins, n, h.trans (startUp_congr cause pins rfl rfl rfl)⟩
    · exact .inl (.refl s)
  · exact .inl (.refl s)

theorem takeRecord_still (code : Byte) (ops : List Byte) (s : State) :
    MapStill s (takeRecord code ops s) ∨ StartsUp s (takeRecord code ops s) := by
  unfold takeRecord
  split
  · split
    · exact wireRequest_still ..
    · exact .inl (refuseRequest_still ..)
  · exact .inl (refuseRequest_still ..)

theorem portBWrite_still (a : Fin 128) (bytes : List Byte) (s : State) :
    MapStill s (portBWrite a bytes s) ∨ StartsUp s (portBWrite a bytes s) := by
  unfold portBWrite
  split
  · split
    · exact .inl (.refl s)
    · exact .inl (refuseRequest_still ..)
    · split_ifs
      · exact .inl (refuseRequest_still ..)
      · exact .inl (refuseRequest_still ..)
      · exact takeRecord_still ..
  · exact .inl (.refl s)

theorem lineSent_rg (s : State) : (lineSent s).rg = s.rg := by
  unfold lineSent
  split
  · rfl
  · dsimp only; split <;> rfl
theorem portBRead_rg (a : Fin 128) (count : Nat) (s : State) : (portBRead a count s).rg = s.rg := by
  unfold portBRead; split <;> rfl

/-! ## Scene completions -/

@[simp] theorem endJob_rg (j : Job) (event : SceneEvent) (s : State) : (endJob j event s).rg = s.rg := by
  simp only [endJob]
  cases j.buffer <;> simp [lockBuf]
@[simp] theorem programPage_rg (j : Job) (event : SceneEvent) (c : Contents) (verified : Bool) (s : State) :
    (programPage j event c verified s).rg = s.rg := by
  unfold programPage; split <;> simp [breakPage]
theorem loadComplete_rg (readOk : Bool) (s : State) : (loadComplete readOk s).rg = s.rg := by
  unfold loadComplete
  split
  · split
    · dsimp only; split <;> simp
    · rfl
  · rfl
theorem storeComplete_rg (verified : Bool) (s : State) : (storeComplete verified s).rg = s.rg := by
  unfold storeComplete
  split
  · split <;> simp
  · rfl
theorem amendComplete_rg (readOk verified : Bool) (s : State) : (amendComplete readOk verified s).rg = s.rg := by
  unfold amendComplete
  split
  · split
    · dsimp only; split <;> simp
    · rfl
  · rfl
theorem eraseComplete_rg (s : State) : (eraseComplete s).rg = s.rg := by
  unfold eraseComplete
  split
  · split <;> simp
  · rfl
theorem eraseStage_rg (s : State) : (eraseStage s).rg = s.rg := by
  unfold eraseStage
  split
  · dsimp only; split <;> simp
  · rfl
@[simp] theorem captureCopy_rg (b : Fin 2) (s : State) : (captureCopy b s).rg = s.rg := by
  unfold captureCopy; split <;> simp

/-! ## Walls, the switch and the end of a regroup -/

theorem senseChange_still (w : Fin 3) (level : WallState) (s : State) : MapStill s (senseChange w level s) := by
  simp only [senseChange]
  split
  · exact .of_rg (by simp)
  · exact regroupCause_still true (by simp)

theorem sampleWall_still (sense : Sense) (s : State) (w : Fin 3) : MapStill s (sampleWall sense s w) := by
  simp only [sampleWall]
  split_ifs
  · exact .of_rg (by simp)
  · exact .of_rg (by simp)
  · exact senseChange_still ..

theorem wallSenseChange_still (w : Fin 3) (s : State) : MapStill s (wallSenseChange w s) := by
  simp only [wallSenseChange]
  exact .ite (senseChange_still ..) (.refl s)

theorem regroupDone_still (s : State) : MapStill s (regroupDone s) := by
  unfold regroupDone
  split
  · rename_i hd
    obtain ⟨hst, -⟩ := (endDue_iff s.rg).1 hd
    refine ⟨rfl, ?_⟩
    rintro ⟨hclean, hmap, -⟩
    have hch : s.rg.changes = [] := hclean.1 (by simp [hst])
    exact ⟨⟨fun _ => hch, fun _ => ⟨rfl, rfl, rfl⟩⟩, hmap, hmap⟩
  · exact .refl s

theorem rebuildRecords_rg (old : State) (placed : Bool) (s : State) : (rebuildRecords old placed s).rg = s.rg := by
  simp [rebuildRecords]
theorem switchWalls_rg (s : State) : (switchWalls s).rg = s.rg := by simp [switchWalls]
theorem batchNotices_rg (l : List PendingBatch) (s : State) : (batchNotices l s).rg = s.rg := by
  unfold batchNotices
  induction l generalizing s with
  | nil => rfl
  | cons c l ih => rw [List.foldl_cons, ih, postTo_rg]
theorem freeApplied_rg (b : Option (Fin 2)) (s : State) : (freeApplied b s).rg = s.rg := by cases b <;> rfl

/-- The regroup machine that a switch leaves (R29). -/
theorem switchNow_rg (s : State) : ∃ changed, (switchNow s).rg = s.rg.afterSwitch changed := by
  simp only [switchNow, rebuildRecords_rg, freeApplied_rg, switchWalls_rg, batchNotices_rg]
  exact ⟨_, rfl⟩

theorem levelPieces_rg (s : State) : (levelPieces s).rg = s.rg := by
  unfold levelPieces; split <;> simp

/-- What a switch that is made leaves in the regroup machine. -/
theorem regroupSwitch_rg {s : State} (h : SwitchStands s.rg) : ∃ changed, (regroupSwitch s).rg = s.rg.afterSwitch changed := by
  rw [regroupSwitch, if_pos ((switchDue_iff s.rg).2 h)]
  obtain ⟨changed, hc⟩ := switchNow_rg (applyCommitted .b (applyCommitted .a (levelPieces s)))
  exact ⟨changed, by rw [hc, applyCommitted_rg, applyCommitted_rg, levelPieces_rg]⟩

theorem regroupSwitch_of_not {s : State} (h : ¬SwitchStands s.rg) : regroupSwitch s = s :=
  if_neg fun hd => h ((switchDue_iff s.rg).1 hd)

theorem regroupSwitch_sound {s : State} (h : RegroupSound s) : RegroupSound (regroupSwitch s) := by
  by_cases hd : SwitchStands s.rg
  · obtain ⟨changed, hr⟩ := regroupSwitch_rg hd
    obtain ⟨-, -, hpend⟩ := h
    unfold RegroupSound MapsLegal
    rw [hr]
    exact ⟨⟨fun _ => rfl, fun hst => nomatch hst⟩, hpend, hpend⟩
  · rwa [regroupSwitch_of_not hd]

/-! ## The boundary -/

theorem boundaryDecisions_rg (s : State) : (boundaryDecisions s).rg = s.rg := (boundaryDecisions_kept s).2.2.1

/-- The work of a boundary before its configuration work is a chain of operations that keep the map. -/
theorem boundaryDecided_still (sense : Sense) (s : State) : MapStill s (boundaryDecided sense s) := by
  obtain ⟨-, hbegun, -⟩ := boundaryBegun_spec sense s
  have hlinks : MapStill s (boundaryLinks sense s) := by
    have h : (boundaryLinks sense s).rg = { s.rg with fresh := s.rg.fresh && s.rg.pre } :=
      (boundaryLinks_work sense s).1.rg.trans hbegun
    refine ⟨by rw [h], fun k => ?_⟩
    unfold RegroupSound MapsLegal
    rw [h]
    exact k
  have hsampled : MapStill (boundaryLinks sense s) (boundarySampled sense s) := by
    unfold boundarySampled
    refine MapStill.trans ?_ (.foldl (sampleWall_still sense) _ _)
    exact .of_rg ((closeFrames_rg _).trans (handover_rg _))
  unfold boundaryDecided
  exact (hlinks.trans hsampled).trans (.of_rg ((takeSnapshot_rg _).trans (boundaryDecisions_rg _)))

theorem boundaryDecided_tested {s : State} (sense : Sense) (h : SwitchTested s) : SwitchTested (boundaryDecided sense s) := by
  obtain ⟨-, hbegun, -⟩ := boundaryBegun_spec sense s
  have hrg : (boundaryLinks sense s).rg = { s.rg with fresh := s.rg.fresh && s.rg.pre } :=
    (boundaryLinks_work sense s).1.rg.trans hbegun
  have hlinks : SwitchTested (closeFrames (handover (boundaryLinks sense s))) := by
    unfold SwitchTested
    rw [closeFrames_rg, handover_rg, hrg]
    exact h
  have hsampled := (boundarySampled_kept sense s).tested hlinks
  unfold boundaryDecided
  exact hsampled.congr ((takeSnapshot_rg _).trans (boundaryDecisions_rg _))

/-- The regroup machine before the switch test of a boundary: that of the state in which the configuration work begins, its step
read anew (R26). -/
theorem beforeSwitch_still (s : State) :
    MapStill s (readBusStep (applyCommitted .b (applyCommitted .a (idleBoundary .b (idleBoundary .a s)))))
    ∧ (SwitchTested s →
        SwitchTested (readBusStep (applyCommitted .b (applyCommitted .a (idleBoundary .b (idleBoundary .a s)))))) := by
  obtain ⟨-, -, ha⟩ := idleBoundary_kept .a s
  obtain ⟨-, -, hb⟩ := idleBoundary_kept .b (idleBoundary .a s)
  have hrg : (applyCommitted .b (applyCommitted .a (idleBoundary .b (idleBoundary .a s)))).rg = s.rg := by
    rw [applyCommitted_rg, applyCommitted_rg, hb, ha]
  generalize applyCommitted .b (applyCommitted .a (idleBoundary .b (idleBoundary .a s))) = u at hrg ⊢
  have hstep : MapStill u (readBusStep u) := ⟨rfl, id⟩
  exact ⟨(MapStill.of_rg hrg).trans hstep, fun h => (readBusStep_kept u).2.2 (h.congr hrg)⟩

theorem regroupBoundaryEnd_still (s : State) : MapStill s (regroupBoundaryEnd s) := ⟨rfl, id⟩

/-- After the switch test the configuration work keeps the map. -/
theorem afterSwitch_still (s : State) : MapStill s (captureCopy 1 (captureCopy 0 (regroupBoundaryEnd (regroupDone s)))) :=
  (regroupDone_still s).trans (regroupBoundaryEnd_still _) |>.trans (.of_rg (captureCopy_rg 0 _))
    |>.trans (.of_rg (captureCopy_rg 1 _))

theorem boundaryTables_sound {s : State} (h : RegroupSound s) : RegroupSound (boundaryTables s) :=
  (afterSwitch_still _).sound (regroupSwitch_sound ((beforeSwitch_still s).1.sound h))

theorem boundaryTables_still {s : State} (h : SwitchTested s) : MapStill s (boundaryTables s) := by
  obtain ⟨hstill, htested⟩ := beforeSwitch_still s
  unfold boundaryTables
  rw [regroupSwitch_of_tested _ (htested h)]
  exact hstill.trans (afterSwitch_still _)

/-- The whole of a boundary: the map stands where no switch can stand to be made (R28), and the machine stays sound. -/
theorem frameBoundary_still (sense : Sense) (early : Bool) (s : State) :
    (SwitchTested s → MapStill s (frameBoundary sense early s)) ∧ (RegroupSound s → RegroupSound (frameBoundary sense early s)) := by
  have hfollow (u : State) : MapStill u (followCompare u) := .of_rg (by rw [followCompare_frame])
  have hdown (v : Vector Indicator 16) : MapStill (boundaryDecided sense s) (startDownstream v (boundaryDecided sense s)) :=
    .of_rg (startDownstream_rg ..)
  rw [frameBoundary_eq]
  unfold boundaryWorked
  refine ⟨fun h => ?_, fun h => (hfollow _).sound ?_⟩
  · exact (((boundaryDecided_still sense s).trans (hdown _)).trans
      (boundaryTables_still ((boundaryDecided_tested sense h).congr (startDownstream_rg ..)))).trans (hfollow _)
  · exact boundaryTables_sound ((hdown _).sound ((boundaryDecided_still sense s).sound h))

theorem samplePeriod_still (tdm : Vector SlotWord 8) (chan : Vector SlotWord 2) (s : State) :
    MapStill s (samplePeriod tdm chan s) := by
  have hrg : (samplePeriod tdm chan s).rg = { s.rg with r := (samplePeriod tdm chan s).rg.r } := by
    unfold samplePeriod
    split <;> simp only [portPeriod, computePeriod, stepEnvelopes]
  refine ⟨by rw [hrg], fun h => ?_⟩
  unfold RegroupSound MapsLegal
  rw [hrg]
  exact h

/-! ## Every command -/

/-- What a command can do to the regroup machine: keep the map, make a switch at its boundary, or start up. -/
def RegroupMove (c : Instr) (s t : State) : Prop :=
  MapStill s t
  ∨ (s.rg.state = .fadingOut ∧ s.rg.tested = false ∧ (RegroupSound s → RegroupSound t)
      ∧ ((c = .regroupSwitch ∧ t.rg.map = s.rg.pendMap) ∨ ∃ sense early, c = .frameBoundary sense early))
  ∨ ∃ u, StartsUp s u ∧ t = settleLine u

/-- A command whose effect keeps the map or starts up does so whether or not the part is held. -/
theorem running_move {c : Instr} {f : State → State} {s t : State} (h : running f s = .next t)
    (hf : MapStill s (f s) ∨ StartsUp s (f s)) : RegroupMove c s t := by
  cases hh : s.held
  · have ht := eq_of_running hh h
    rcases hf with hf | hf
    · exact .inl (ht ▸ hf.trans (.of_rg (by simp)))
    · exact .inr (.inr ⟨_, hf, ht⟩)
  · exact .inl (eq_of_running_held hh h ▸ .refl s)

theorem running_keeps {c : Instr} {f : State → State} {s t : State} (h : running f s = .next t) (hf : (f s).rg = s.rg) :
    RegroupMove c s t := running_move h (.inl (.of_rg hf))

theorem settleLine_still (s : State) : MapStill s (settleLine s) := .of_rg (by simp)

theorem regroupSwitch_move {s t : State} (h : exec .regroupSwitch s = .next t) : RegroupMove .regroupSwitch s t := by
  by_cases hd : SwitchStands s.rg
  · cases hh : s.held
    · have ht : t = settleLine (regroupSwitch s) := eq_of_running hh h
      obtain ⟨hst, htested, -⟩ := id hd
      obtain ⟨changed, hr⟩ := regroupSwitch_rg hd
      refine .inr (.inl ⟨hst, htested, fun k => ?_, .inl ⟨rfl, ?_⟩⟩)
      · exact ht ▸ (settleLine_still _).sound (regroupSwitch_sound k)
      · rw [ht, settleLine_rg, hr]
        rfl
    · exact .inl (eq_of_running_held hh h ▸ .refl s)
  · exact running_keeps h (by rw [regroupSwitch_of_not hd])

theorem frameBoundary_move {sense : Sense} {early : Bool} {s t : State} (h : exec (.frameBoundary sense early) s = .next t) :
    RegroupMove (.frameBoundary sense early) s t := by
  obtain ⟨hstill, hsound⟩ := frameBoundary_still sense early s
  by_cases htested : SwitchTested s
  · exact running_move h (.inl (hstill htested))
  · cases hh : s.held
    · have ht : t = settleLine (frameBoundary sense early s) := eq_of_running hh h
      obtain ⟨hst, hno⟩ := Classical.not_imp.1 htested
      exact .inr (.inl ⟨hst, by simpa using hno, fun k => ht ▸ (settleLine_still _).sound (hsound k), .inr ⟨_, _, rfl⟩⟩)
    · exact .inl (eq_of_running_held hh h ▸ .refl s)

/-- A request as a command keeps the map, or is CLEAR. -/
theorem request_move {c : Instr} {p : Port} {r : Request} {s t : State} (hc : portRequest c = some (p, r))
    (h : exec c s = .next t) : RegroupMove c s t := by
  by_cases hr : r = .clear
  · subst hr
    have hcl : c = .clear p := by cases c <;> simp_all [portRequest]
    subst hcl
    exact running_move h (requestClear_still p s)
  · exact running_move ((exec_request c p r s hc hr).symm.trans h) (.inl (request_still p r s))

theorem exec_move (c : Instr) (s t : State) (h : exec c s = .next t) : RegroupMove c s t := by
  cases hc : portRequest c with
  | some pr => exact request_move hc h
  | none =>
    cases c with
    | startUp cause sense address =>
      exact .inr (.inr ⟨_, ⟨causeOf cause, ⟨sense, address⟩, s.freeCount, rfl⟩, (Outcome.next.inj h).symm⟩)
    | resetAsserted => exact .inl ((Outcome.next.inj h) ▸ .of_rg rfl)
    | samplePeriod tdm line => exact running_move h (.inl (samplePeriod_still tdm line s))
    | frameBoundary sense early => exact frameBoundary_move h
    | badFrameRun i => exact running_keeps h (badFrameRun_rg i s)
    | wallSenseChange w => exact running_move h (.inl (wallSenseChange_still w s))
    | gateHoldExpiry m => exact running_keeps h (gateHoldExpiry_rg m s)
    | queueExpiry m => exact running_keeps h (by simp [queueExpiry])
    | speechWarn m => exact running_keeps h (by simp [speechWarning])
    | speechExpiry m => exact running_keeps h (by simp [speechExpiry])
    | attemptFail i => exact running_keeps h (attemptFail_rg i s)
    | dozeHandshakeTimeout i => exact running_keeps h (dozeTimeout_rg i s)
    | detachHandshakeTimeout i => exact running_keeps h (detachTimeout_rg i s)
    | residencyMet i => exact running_keeps h (residencyMet_rg i s)
    | autoUp i => exact running_keeps h (autoUpEvent_rg i s)
    | batchApplication p => exact running_keeps h (applyCommitted_rg p s)
    | batchIdleTimeout p => exact running_keeps h (batchIdleTimeout_rg p s)
    | regroupSwitch => exact regroupSwitch_move h
    | regroupDone => exact running_move h (.inl (regroupDone_still s))
    | upstreamFrameArrival i bytes => exact running_keeps h (upstreamArrival_rg i bytes s)
    | hello i kind buttons slide => exact running_keeps h (takeHello_rg ..)
    | buttonMute i seq => exact running_keeps h (takeButton_rg ..)
    | buttonTalk i seq => exact running_keeps h (takeButton_rg ..)
    | buttonAll i seq => exact running_keeps h (takeButton_rg ..)
    | dozeAck i => exact running_keeps h (takeDozeAck_rg i s)
    | dozeNak i => exact running_keeps h (takeDozeNak_rg i s)
    | detachAck i => exact running_keeps h (takeDetachAck_rg i s)
    | faultReport i code => exact running_keeps h (takeFaultReport_rg code i s)
    | wake i => exact running_keeps h (takeWake_rg i s)
    | portACharacterReceived c => exact running_keeps h rfl
    | portALineEnd => exact running_move h (endOfLine_still s)
    | portALineSent => exact running_keeps h (lineSent_rg s)
    | portBWriteTransaction a bytes => exact running_move h (portBWrite_still a bytes s)
    | portBReadTransaction a count => exact running_keeps h (portBRead_rg a count s)
    | loadComplete ok => exact running_keeps h (loadComplete_rg ok s)
    | captureCopy b => exact running_keeps h (captureCopy_rg b s)
    | storeComplete ok => exact running_keeps h (storeComplete_rg ok s)
    | amendComplete ok verified => exact running_keeps h (amendComplete_rg ok verified s)
    | eraseComplete => exact running_keeps h (eraseComplete_rg s)
    | eraseStage => exact running_keeps h (eraseStage_rg s)
    | _ => exact nomatch hc

/-- Settles O21: a command that does not keep the map in force is a switch of a boundary or a start-up event (`exec_move`). -/
theorem mapChangesOnlyAtSwitch : Obligations.MapChangesOnlyAtSwitch := by
  intro c s t h hne
  rcases exec_move c s t h with hstill | ⟨hst, htested, -, hc⟩ | ⟨u, ⟨cause, pins, n, hu⟩, ht⟩
  · exact absurd hstill.map hne
  · exact .inl ⟨hst, htested, hc⟩
  · exact .inr ⟨cause, pins, n, hu ▸ ht⟩

/-- Settles O20: what keeps the map keeps the machine sound, a switch leaves it sound, and a start-up event makes it so. -/
theorem everyStepKeepsRegroupMachine : Obligations.EveryStepKeepsRegroupMachine := by
  intro s t hs h
  change RegroupSound s at hs
  change RegroupSound t
  unfold step at h
  split at h
  · cases h
    exact hs
  · rename_i c rest _
    have hs' : RegroupSound { s with pending := rest } := hs
    rcases exec_move c _ t h with hstill | ⟨-, -, hsound, -⟩ | ⟨u, ⟨cause, pins, n, hu⟩, ht⟩
    · exact hstill.sound hs'
    · exact hsound hs'
    · rw [ht, hu]
      exact (settleLine_still _).sound (startUp_sound cause pins _)

end Sys2Proof.Machine
end

section
/-! SUPPORT. Start-up (R170) and the maps of R20: O28, O17, O4 and O6. -/

namespace Sys2Proof.Machine
open Host

/-! ## The partition map (R20) -/

/-- A property of three wall states holds of every vector of them that it holds of when written out. -/
theorem walls_forall {P : Vector WallState 3 → Prop} (h : ∀ x y z : WallState, P #v[x, y, z]) (eff : Vector WallState 3) :
    P eff := by
  have he : eff = #v[eff[0], eff[1], eff[2]] := by
    ext k hk
    match k, hk with
    | 0, _ => rfl
    | 1, _ => rfl
    | 2, _ => rfl
  rw [he]
  exact h ..

/-- Settles O17: eight maps, each read off its three walls. -/
theorem mapJoinsOpenWalls : Obligations.MapJoinsOpenWalls := by
  refine ⟨fun eff a b => ?_, fun eff a => ?_, by decide⟩
  · revert a b
    refine walls_forall (P := fun eff => ∀ a b : Fin 4, a ≤ b → ((mapOf eff)[a] = (mapOf eff)[b] ↔
      ∀ w : Fin 3, a.val ≤ w.val → w.val < b.val → eff[w] = .opened)) (fun x y z => ?_) eff
    cases x <;> cases y <;> cases z <;> decide
  · revert a
    refine walls_forall (P := fun eff => ∀ a : Fin 4, (mapOf eff)[(mapOf eff)[a]] = (mapOf eff)[a] ∧ (mapOf eff)[a] ≤ a)
      (fun x y z => ?_) eff
    cases x <;> cases y <;> cases z <;> decide

/-! ## What a start-up event leaves (R170) -/

section
variable (queue : List Instr) (pins : Pins) (img : Image) (p : PowerOn) (pages : Vector Page 32) (free : Nat) (start : Notice)

/-- After start-up the only hold is LINK, on every microphone (R68, R69). -/
theorem startState_heldSource (i : Fin 26) :
    (startState queue pins img p pages free start).heldSource i = decide (i.val < 16) := by
  by_cases h : i.val < 16 <;>
    simp [startState, startMute, startLink, State.heldSource, State.holdSet, HoldSet.any, State.groupHeld, State.linkHeld,
      sourceMic, h]

/-- The targets after start-up are the derived ones (R68). -/
theorem startState_derived : TargetsDerived (startState queue pins img p pages free start) := fun i => by
  rw [State.targetOf, startState_heldSource]
  by_cases h : i.val < 16 <;> simp [startState, startEnv, sourceMic, h]

theorem startState_gates (m : Fin 16) :
    (startState queue pins img p pages free start).gates[m] = { state := .closed, counter := 0 } := by simp [startState]

theorem startState_floors (q : Fin 4) : (startState queue pins img p pages free start).floors[q] = emptyFloor := by
  simp [startState, emptyFloor]

theorem startState_port (q : Port) : (startState queue pins img p pages free start).port q =
    startPort ((startState queue pins img p pages free start).port q).profile start := by cases q <;> rfl

theorem startState_floorsKept : FloorsKept (startState queue pins img p pages free start) := by
  refine ⟨fun q => ⟨?_, fun m h => ?_⟩, fun q b hb => ?_⟩
  · rw [startState_floors]
    exact ⟨List.nodup_nil, Nat.zero_le _⟩
  · rw [startState_floors] at h
    simp [emptyFloor, FloorRec.queued, FloorRec.granted] at h
  · rw [startState_port] at hb
    simp [startPort] at hb

theorem startPort_bounded (profile : Profile) : PortBounded (startPort profile start) :=
  ⟨by simp [startPort, Config.queueCap], fun ob h => by simp [startPort] at h⟩

/-- Port A after start-up: START under AUTO-REPORT, and nothing else, is being sent (R143, R155, R156). -/
theorem startState_settleLine :
    settleLine (startState queue pins img p pages free start) =
      { startState queue pins img p pages free start with
        lineA := { startLineA p with sending := if p.autoReport then some (.notice start) else none } } := by
  have hline : startLine (startState queue pins img p pages free start) =
      { startState queue pins img p pages free start with
        lineA := { startLineA p with sending := if p.autoReport then some (.notice start) else none } } := by
    unfold startLine State.nextLine
    cases h : p.autoReport <;> simp [startState, startLineA, startPort, h]
  rw [settleLine, hline]
  rfl

end

/-- Settles O28: what every start-up event leaves, at State.reset. -/
theorem resetMeetsTheInvariants : Obligations.ResetMeetsTheInvariants := by
  have hsound : RegroupSound State.reset := startRegroup_sound State.reset factoryImage ⟨_, rfl⟩ rfl
  have hgates (m : Fin 16) : (State.reset.gates[m]).state = .closed := congrArg Gate.state (startState_gates ..)
  have hfloors : FloorsKept State.reset := startState_floorsKept ..
  exact ⟨hsound.1, hsound.2, startState_derived _ _ _ _ _ _ _, fun m _ => hgates m, hfloors,
    ⟨startPort_bounded .., startPort_bounded ..⟩, hfloors.2, fun m x _ _ _ => hgates x⟩

/-- A start-up event judges the pages and starts from page 0, or from the factory defaults where page 0 is not valid (R162, R170). -/
theorem startUp_eq (cause : StartCause) (pins : Pins) (s : State) :
    let g := (breakJob s).scene.pages[0]
    startUp cause pins s = startState s.pending pins (if g.valid then g.contents.image else factoryImage)
      (if g.valid then g.contents.powerOn.getD factoryPowerOn else factoryPowerOn) (judgePages (breakJob s).scene.pages)
      (breakJob s).freeCount (.start cause (!g.valid)) := by
  have hg : (judgePages (breakJob s).scene.pages)[0] =
      { (breakJob s).scene.pages[0] with mark := ((breakJob s).scene.pages[0]).valid } := by simp [judgePages]
  simp only [startUp, startFrom, hg]
  cases ((breakJob s).scene.pages[0]).valid <;> rfl

theorem valid_iff (g : Page) : g.valid = decide (g.flag = 1 ∧ g.check = g.contents.check) := by
  rw [Page.valid, Page.matched, Bool.decide_and]

theorem breakJob_freeCount (s : State) : s.freeCount ≤ (breakJob s).freeCount := by
  have hbreak (k : Fin 32) (n : Nat) : s.freeCount ≤ (breakPage k n s).freeCount := Nat.le_add_right ..
  unfold breakJob
  split
  · split
    · exact le_rfl
    · split
      · exact hbreak ..
      · exact le_rfl
    · exact hbreak ..
    · exact hbreak ..
  · exact le_rfl

/-- The wall records after start-up, by the levels and the overrides loaded (R18, R19). -/
theorem startWalls_get (sense : Sense) (overrides : Vector Override 3) (w : Fin 3) :
    (startWalls sense overrides)[w] =
      let level : WallState := match sense[w] with | .low => .closed | .high => .opened
      { sensed := level, count := 0, effective := match overrides[w] with | .follow => level | .opened => .opened | .closed => .closed } := by
  rw [startWalls, tab_get]
  cases sense[w] <;> cases overrides[w] <;> rfl

/-- Settles O4: `startUp_eq` names the state, `startState_settleLine` Port A's line, and each unit's fields are read off it. -/
theorem startUpLoadsPageZero : Obligations.StartUpLoadsPageZero := by
  intro cause sense address s hjob g ok start
  have hbreak : breakJob s = s := by simp [breakJob, hjob]
  have hok : g.valid = ok := valid_iff g
  have hstart := startUp_eq (causeOf cause) { sense := sense, address := address } s
  rw [hbreak] at hstart
  change startUp _ _ s = startState _ _ (if g.valid then _ else _) (if g.valid then _ else _) _ _ _ at hstart
  rw [hok] at hstart
  have hrecord (r : PowerOn) (hr : (ok = true ∧ g.contents.powerOn = some r) ∨ (ok = false ∧ r = factoryPowerOn)) :
      (if ok then g.contents.powerOn.getD factoryPowerOn else factoryPowerOn) = r := by
    rcases hr with ⟨h, hp⟩ | ⟨h, rfl⟩ <;> simp [*]
  generalize (if ok then g.contents.powerOn.getD factoryPowerOn else factoryPowerOn) = record at hstart hrecord
  refine ⟨_, congrArg Outcome.next ((congrArg settleLine hstart).trans (startState_settleLine ..)), rfl, rfl, rfl, rfl, rfl,
    fun r hr => ?_, fun q => by cases q <;> rfl, rfl, rfl, rfl, fun w => startWalls_get .., rfl, rfl, rfl, fun i => ?_, rfl, rfl,
    rfl, rfl, fun i => ?_, fun b => ?_, fun i => ?_, rfl, rfl, fun m => ?_, fun q => ?_, rfl, rfl, rfl, rfl, rfl, fun k => ?_, rfl, fun b => ?_⟩
  · cases hrecord r hr
    exact ⟨rfl, rfl, rfl, rfl, rfl⟩
  · simp [startState, startRegroup]
  · simp [startState, startLink]
  · simp [startState, startRegroup, startAudio, startMix]
  · simp [startState, startEnv, startAudio, startMix, startMute, Config.noiseTop, Config.unity]
  · simp [startState]
  · simp [startState, emptyFloor]
  · simp [startState, judgePages, valid_iff]
  · simp [startState, emptyBuffer]

/-- The levels that a CLEAR samples, as wall states. -/
theorem senseHigh_level (n : Nat) (w : Fin 3) : (match (tab fun w => if Config.senseHigh n w then Level.high else .low : Sense)[w] with
    | .low => WallState.closed | .high => .opened) = if Config.senseHigh n w then .opened else .closed := by
  rw [tab_get]
  cases Config.senseHigh n w <;> rfl

/-- Settles O6: CLEAR under a profile that allows SYSTEM is the start-up event, whose fields `startUp_eq` gives. -/
theorem clearIsStartUp : Obligations.ClearIsStartUp := by
  intro p s ⟨hh, hallow⟩ sense
  have hclear : requestClear p s = startUp .clear { sense := sense, address := s.pins.address } { s with freeCount := s.freeCount + 1 } :=
    if_pos hallow
  have hexec : exec (.clear p) s = .next (settleLine (startUp .clear { sense := sense, address := s.pins.address }
      { s with freeCount := s.freeCount + 1 })) := by
    rw [← hclear]
    exact running_next (requestClear p) s hh
  have hstart := startUp_eq .clear { sense := sense, address := s.pins.address } { s with freeCount := s.freeCount + 1 }
  have hfree := breakJob_freeCount { s with freeCount := s.freeCount + 1 }
  generalize breakJob { s with freeCount := s.freeCount + 1 } = u at hstart hfree
  have hsettled := (congrArg settleLine hstart).trans (startState_settleLine ..)
  refine ⟨_, hexec, rfl, ?_⟩
  rw [hsettled]
  refine ⟨rfl, hfree, fun w => ?_, rfl, rfl, rfl, fun b => ?_, ⟨_, rfl, rfl⟩, rfl, rfl⟩
  · refine (startWalls_get ..).trans ?_
    rw [senseHigh_level]
    rfl
  · simp [startState, startRegroup]

end Sys2Proof.Machine
end

section
/-! SUPPORT. The sample period's mix (R36 to R51) and the regroup cause (R25 to R28): O10 and O19. -/

namespace Sys2Proof.Machine
open Host

/-! ## The mix of a sample period -/

/-- The source stage of a period after the envelopes' step (R37, R40, R55). -/
theorem sourceStage_stepped (k : Snapshot) {s : State} (h : s.periods < 48) (i : Fin 26) :
    (stepEnvelopes s).sourceStage k s.period i =
      roundAt 30 (((s.audio.input[i])[s.periods]!).toInt * k.trim[i] *
        ((stepToward (s.env[i]).value (s.env[i]).target (rampStep (s.env[i]).code) * k.factor[i] / 32768 : Nat) : Int)) := by
  simp only [State.sourceStage, sourceRounded, attenuation, stepEnvelopes, tab_get, Env.step]
  simp only [Fin.getElem_fin, period_val h, h, getElem!_pos]

/-- The bus stage of a period after the ramps' step, over the saturated source stages (R26, R41 to R44). -/
theorem busStage_stepped (k : Snapshot) {s : State} {y : Fin 26 → Int}
    (hy : ∀ i, (stepEnvelopes s).sourceStage k s.period i = y i) (b : Fin 26) :
    (stepEnvelopes s).busStage k s.period b =
      roundAt 30 (((sources.filter (contributes k.map k.srcSect k.busSect b)).map fun i =>
          (saturate (y i)).toInt * (k.xpt[b.val * 26 + i.val]! : Int)).sum
        * ((k.gain[b] * stepToward s.rg.r[b] (s.rg.target b) s.rg.step / 32768 : Nat) : Int)) := by
  have hxpt (i : Fin 26) : k.xpt[b.val * 26 + i.val]! = k.xpt[xptIndex b i] :=
    getElem!_pos k.xpt (b.val * 26 + i.val) (xptIndex b i).isLt
  have hramp : (stepEnvelopes s).rg.r[b] = stepToward s.rg.r[b] (s.rg.target b) s.rg.step := by
    simp only [stepEnvelopes, tab_get]
  simp only [State.busStage, busRounded, busGain, accumulate, State.stageValues, tab_get, hy, hxpt, hramp]

/-- What a sample period under a snapshot leaves of source `i`: its envelope and its clip count (R51, R55). -/
theorem samplePeriod_source {s : State} {k : Snapshot} (h : s.mix.snap = some k) (tdm : Vector SlotWord 8)
    (chan : Vector SlotWord 2) (i : Fin 26) :
    (samplePeriod tdm chan s).env[i] = (s.env[i]).step
    ∧ (samplePeriod tdm chan s).mix.srcClip[i] = if outOfRange ((stepEnvelopes s).sourceStage k s.period i)
        then countUp Config.maxCount s.mix.srcClip[i] else s.mix.srcClip[i] := by
  rw [samplePeriod_of_some h, portPeriod_mix]
  simp only [portPeriod, computePeriod, stepEnvelopes, tab_get, and_self]

theorem samplePeriod_ramp {s : State} {k : Snapshot} (h : s.mix.snap = some k) (tdm : Vector SlotWord 8)
    (chan : Vector SlotWord 2) (b : Fin 26) :
    (samplePeriod tdm chan s).rg.r[b] = stepToward s.rg.r[b] (s.rg.target b) s.rg.step := by
  rw [samplePeriod_of_some h]
  simp only [portPeriod, computePeriod, stepEnvelopes, tab_get]

theorem samplePeriod_periods (tdm : Vector SlotWord 8) (chan : Vector SlotWord 2) {s : State} (h : s.periods < 48) :
    (samplePeriod tdm chan s).periods = s.periods + 1 := by
  have hmin : min (s.periods + 1) 48 = s.periods + 1 := by omega
  unfold samplePeriod
  split <;> simp [portPeriod, computePeriod, stepEnvelopes, Config.framePeriods, hmin]

/-- Settles O10: the source stages (`sourceStage_stepped`), then the bus stages over them (`busStage_stepped`). -/
theorem samplePeriodComputesTheMix : Obligations.SamplePeriodComputesTheMix := by
  intro tdm chan s k hh hk hp e r y0 acc z
  have hy (i : Fin 26) : (stepEnvelopes s).sourceStage k s.period i = y0 i := sourceStage_stepped k hp i
  have hz (b : Fin 26) : (stepEnvelopes s).busStage k s.period b = z b := busStage_stepped k hy b
  refine ⟨_, running_next (samplePeriod tdm chan) s hh, fun i => ?_, fun b => ?_, fun b => ?_, fun i => ?_, fun b => ?_, ?_⟩
  · rw [settleLine_env, (samplePeriod_source hk tdm chan i).1]
    rfl
  · rw [settleLine_rg, samplePeriod_ramp hk]
  · rw [settleLine_audio, (samplePeriod_bus hk tdm chan b).1, hz, ← period_val hp, 
      getElem!_pos (put s.audio.computed[b] s.period (saturate (z b))) s.period.val s.period.isLt]
    exact put_same ..
  · rw [settleLine_mix, (samplePeriod_source hk tdm chan i).2, hy, countUp_eq]
    rfl
  · rw [settleLine_mix, (samplePeriod_bus hk tdm chan b).2, hz, countUp_eq]
    rfl
  · rw [settleLine_periods, samplePeriod_periods tdm chan hp]

/-! ## The regroup cause -/

/-- The regroup machine after a cause, by the state that it finds (R27, R28). -/
def Regroup.caused (timed : Bool) (st : RegroupState) (g : Regroup) : Regroup :=
  if st = .fadingOut then (if g.cancels then g.turnBack timed else g) else g.fadeOut timed

theorem regroupCause_eq (timed : Bool) (s : State) :
    regroupCause timed s = { s with rg := (derivePending s).caused timed s.rg.state } := by
  unfold regroupCause Regroup.caused
  cases s.rg.state
  · rfl
  · dsimp only
    rw [if_pos rfl]
    split <;> rfl
  · rfl

/-- The image that the pending changes, or an APPLY, leave (R25, R33). -/
theorem pendingImage_of_changes {s : State} (h : s.rg.applyFrom = none) :
    s.pendingImage = (s.rg.changes.flatMap (·.batch.entries)).foldl Image.write s.live := by
  rw [State.pendingImage, h, List.foldl_flatMap]
  rfl

theorem pendingImage_of_apply {s : State} {b : Fin 2} (h : s.rg.applyFrom = some b) : s.pendingImage = (s.scene.bufs[b]).image := by
  rw [State.pendingImage, h]

theorem applyFrom_eq (g : Regroup) : g.applyFrom = match g.applyMark, g.applyDue with | some b, true => some b | _, _ => none := by
  unfold Regroup.applyFrom
  cases g.applyMark <;> cases g.applyDue <;> rfl

/-- A bus is affected where a contributing source differs, or an APPLY is being served (R25). -/
theorem busAffected_iff (g : Regroup) (live : Image) (b : Fin 26) : busAffected g live b = true ↔
    g.applyMark.isSome = true ∨ ∃ i : Fin 26,
      contributes g.map (tab fun x => (live.src[x]).sect) (tab fun x => (live.bus[x]).sect) b i
        ≠ contributes g.pendMap g.pendSrc g.pendBus b i := by
  simp only [busAffected, Bool.or_eq_true, List.any_eq_true, sources, List.mem_finRange, true_and, bne_iff_ne]

theorem cancels_iff (g : Regroup) : g.cancels = true ↔ g.applyMark = none ∧ g.pendMap = g.map ∧ g.changes = [] := by
  simp only [Regroup.cancels, Bool.and_eq_true, Option.isNone_iff_eq_none, decide_eq_true_eq, List.isEmpty_iff, and_assoc]

/-- What every cause keeps and derives (R23, R25), whether or not it cancels the fade-out. -/
theorem caused_kept (timed : Bool) (st : RegroupState) (g : Regroup) :
    let c := g.caused timed st
    (c.map = g.map ∧ c.r = g.r ∧ c.changes = g.changes ∧ c.applyMark = g.applyMark ∧ c.applyDue = g.applyDue
      ∧ c.switched = g.switched ∧ c.step = g.step ∧ c.noEval = g.noEval)
    ∧ c.pendMap = g.pendMap ∧ c.pendSrc = g.pendSrc ∧ c.pendBus = g.pendBus ∧ c.touched = g.touched
    ∧ c.tested = (g.tested || (timed && decide (st ≠ .fadingOut))) := by
  unfold Regroup.caused
  split
  · rename_i h
    have htested : (g.tested || (timed && decide (st ≠ .fadingOut))) = g.tested := by simp [h]
    rw [htested]
    split <;> exact ⟨⟨rfl, rfl, rfl, rfl, rfl, rfl, rfl, rfl⟩, rfl, rfl, rfl, rfl, rfl⟩
  · rename_i h
    have htested : (g.tested || (timed && decide (st ≠ .fadingOut))) = (g.tested || timed) := by simp [h]
    rw [htested]
    exact ⟨⟨rfl, rfl, rfl, rfl, rfl, rfl, rfl, rfl⟩, rfl, rfl, rfl, rfl, rfl⟩

/-- The state of FADING_IN in which a cancelled fade-out ends (R28). -/
theorem caused_cancels {timed : Bool} {g : Regroup} (h : g.cancels = true) :
    let c := g.caused timed .fadingOut
    c.state = .fadingIn ∧ c.affected = same 26 false ∧ ∀ b : Fin 26, c.target b = 32768 := by
  intro c
  have hc : c = g.turnBack timed := (if_pos rfl).trans (if_pos h)
  rw [hc]
  exact ⟨rfl, rfl, fun b => by simp [Regroup.target, Regroup.turnBack, Config.unity]⟩

theorem target_fadingOut {g : Regroup} (h : g.state = .fadingOut) (b : Fin 26) :
    g.target b = if g.affected[b] = true then 0 else 32768 := by
  rw [Regroup.target, h]
  rfl

/-- Any other cause leaves FADING_OUT (R27). -/
theorem caused_fadesOut {timed : Bool} {g : Regroup} {st : RegroupState} (hst : g.state = st)
    (h : ¬(st = .fadingOut ∧ g.cancels = true)) :
    let c := g.caused timed st
    c.state = .fadingOut ∧ c.affected = g.affected := by
  simp only [Regroup.caused]
  split
  · rename_i hf
    rw [if_neg fun hc => h ⟨hf, hc⟩]
    exact ⟨hst.trans hf, rfl⟩
  · exact ⟨rfl, rfl⟩

/-- Settles O19: `regroupCause_eq` reads the cause off `derivePending`, and the two outcomes are told apart by `cancels_iff`. -/
theorem causeStartsFadeOut : Obligations.CauseStartsFadeOut := by
  intro timed s t img affects cancels
  have ht : t = { s with rg := (derivePending s).caused timed s.rg.state } := regroupCause_eq timed s
  have himg : s.pendingImage = img := by
    have hfrom := applyFrom_eq s.rg
    cases hm : s.rg.applyMark with
    | none => simp only [hm] at hfrom; simpa only [img, hm] using pendingImage_of_changes hfrom
    | some b =>
      cases hd : s.rg.applyDue <;> simp only [hm, hd] at hfrom <;> simp only [img, hm, hd]
      · exact pendingImage_of_changes hfrom
      · exact pendingImage_of_apply hfrom
  obtain ⟨⟨h1, h2, h3, h4, h5, h6, h7, h8⟩, hpend, hsrc, hbus, htouched, htested⟩ :=
    caused_kept timed s.rg.state (derivePending s)
  have hrg : t.rg = (derivePending s).caused timed s.rg.state := by rw [ht]
  have haffects (b : Fin 26) : busAffected { s.rg with
      pendMap := mapOf (s.effectiveWith s.pendingImage)
      pendSrc := tab fun i => (s.pendingImage.src[i]).sect
      pendBus := tab fun b => (s.pendingImage.bus[b]).sect } s.live b = true ↔ affects b := by
    rw [busAffected_iff]
    simp only [affects, hrg, hpend, hsrc, hbus]
    rfl
  have hcancels : cancels ↔ s.rg.state = .fadingOut ∧ (derivePending s).cancels = true := by
    simp only [cancels, cancels_iff, hrg, hpend]
    rfl
  refine ⟨by rw [hrg]; exact ht, ?_⟩
  rw [hrg, hpend, hsrc, hbus, htouched]
  refine ⟨h1, h2, h3, h4, h5, h6, h7, h8, ?_, fun i => ?_, fun b => ?_, fun hc => ?_, fun hc => ?_, htested⟩
  · rw [← himg]
    rfl
  · simp only [derivePending, himg, tab_get, and_self]
  · rw [← haffects]
    simp only [derivePending, tab_get, Bool.or_eq_true]
  · obtain ⟨hst, hcan⟩ := hcancels.1 hc
    rw [hst]
    exact caused_cancels hcan
  · obtain ⟨hst, haff⟩ := caused_fadesOut (timed := timed) (g := derivePending s) rfl (mt hcancels.2 hc)
    have hstate : (derivePending s).state = s.rg.state := rfl
    rw [hstate] at hst haff
    refine ⟨hst, fun b => ?_, target_fadingOut hst⟩
    rw [haff, ← haffects]
    simp only [derivePending, tab_get]

end Sys2Proof.Machine
end

section
/-! SUPPORT. Requests of the CONFIG class (R144, R148, R151, R152, R164 to R169): O52, O53 and O58. -/

namespace Sys2Proof.Machine
open Host

/-! ## A request as a command, by what its body answers (R144) -/

section
variable {c : Instr} {p : Port} {r : Request} {s : State} (hc : portRequest c = some (p, r)) (hn : r ≠ .clear)
  (hready : Ready s p r.reqClass)
include hc hn hready

theorem exec_allowed {a : Reply} (ha : r.body p (s.port p).keep (received p s) = a) :
    exec c s = .next (answered p r.name a.status (answerData (s.port p).cursor a) a.state) := by
  rw [exec_request c p r s hc hn, running_next _ s hready.1, request_allowed p r s hready.2, ha]
  rfl

/-- A body that refuses with its cursor's entry. -/
theorem exec_refuses {st : Status} (ha : r.body p (s.port p).keep (received p s) = (received p s).refuse st)
    (hst : st.taken = false) : exec c s = .next (refused p r.name st s) := by
  rw [exec_allowed hc hn hready ha]
  simp [answerData, State.refuse, hst, refused]

/-- A body whose request is taken. -/
theorem exec_takes {u : State} {st : Status} {data : List Nat}
    (ha : r.body p (s.port p).keep (received p s) = { state := u, status := st, data := data }) (hst : st.taken = true) :
    exec c s = .next (answered p r.name st data u) := by
  rw [exec_allowed hc hn hready ha]
  simp [answerData, hst]

end

theorem received_port (p : Port) (s : State) : (received p s).port p =
    { s.port p with batch := (s.port p).batch.map fun b => { b with idle := 0 }, keep := none } := by cases p <;> rfl

/-! ## The entries of a batch (R151) -/

theorem any_key_iff (es : List Entry) (k : TableId × Nat) : (es.any fun x => decide (x.key = k)) = true ↔ ∃ y ∈ es, y.key = k := by
  simp

theorem joinEntries_present {es : List Entry} {e : Entry} (h : ∃ y ∈ es, y.key = e.key) :
    joinEntries es e = some (es.map fun x => if x.key = e.key then e else x) := if_pos ((any_key_iff es e.key).2 h)

theorem joinEntries_new {es : List Entry} {e : Entry} (h : ∀ y ∈ es, y.key ≠ e.key) (hl : es.length < 64) :
    joinEntries es e = some (es ++ [e]) :=
  (if_neg fun hk => by obtain ⟨y, hy, hyk⟩ := (any_key_iff es e.key).1 hk; exact h y hy hyk).trans (if_pos hl)

theorem joinEntries_full {es : List Entry} {e : Entry} (h : ∀ y ∈ es, y.key ≠ e.key) (hl : 64 ≤ es.length) :
    joinEntries es e = none :=
  (if_neg fun hk => by obtain ⟨y, hy, hyk⟩ := (any_key_iff es e.key).1 hk; exact h y hy hyk).trans (if_neg (Nat.not_lt.2 hl))

/-! ## A batch handed on (R24, R152) -/

/-- A batch that waits: it ends the pending change list, and FADING_OUT stands. -/
def Waits (p : Port) (b : Batch) (s t : State) : Prop :=
  t = { s with rg := t.rg } ∧ t.rg.changes = s.rg.changes ++ [{ port := p, batch := b }] ∧ t.rg.state = .fadingOut
  ∧ t.rg.map = s.rg.map ∧ t.rg.r = s.rg.r

section
variable {p : Port} {b : Batch} {s : State}

theorem commitBatch_marked (h : s.rg.applyMark.isSome = true) : commitBatch p b s = none := if_pos h

theorem commitBatch_waiting (hb : b.entries.any (Entry.isCause s.live) = true)
    (hw : s.rg.changes.any (fun c => decide (c.port = p)) = true) : commitBatch p b s = none := by
  have hb' : b.needsSwitch s.live = true := hb
  simp [commitBatch, hb', hw]

theorem commitBatch_plain (hm : s.rg.applyMark = none) (hb : b.entries.any (Entry.isCause s.live) = false) :
    commitBatch p b s = some (s.setPort p { s.port p with committed := (s.port p).committed ++ [b] }) := by
  have hb' : b.needsSwitch s.live = false := hb
  simp [commitBatch, hm, hb']

theorem regroupCause_ramps (timed : Bool) (s : State) : (regroupCause timed s).rg.r = s.rg.r := by
  rw [regroupCause_eq]
  obtain ⟨⟨-, hr, -⟩, -⟩ := caused_kept timed s.rg.state (derivePending s)
  exact hr

theorem regroupCause_frame (timed : Bool) (s : State) : regroupCause timed s = { s with rg := (regroupCause timed s).rg } := by
  rw [regroupCause_eq]

theorem commitBatch_waits (hm : s.rg.applyMark = none) (hb : b.entries.any (Entry.isCause s.live) = true)
    (hw : s.rg.changes.any (fun c => decide (c.port = p)) = false) : ∃ t, commitBatch p b s = some t ∧ Waits p b s t := by
  have hb' : b.needsSwitch s.live = true := hb
  refine ⟨regroupCause false { s with rg := { s.rg with changes := s.rg.changes ++ [{ port := p, batch := b }] } },
    by simp [commitBatch, hm, hb', hw], ?_⟩
  generalize hu : ({ s with rg := { s.rg with changes := s.rg.changes ++ [{ port := p, batch := b }] } } : State) = u
  have hch : u.rg.changes = s.rg.changes ++ [{ port := p, batch := b }] := by rw [← hu]
  have hframe := regroupCause_frame false u
  rcases regroupCause_state false u with ⟨hst, hc⟩ | ⟨-, -, hnil, -⟩
  · refine ⟨?_, hc.trans hch, hst, ?_, ?_⟩
    · exact hframe.trans (by rw [← hu])
    · rw [regroupCause_map, ← hu]
    · rw [regroupCause_ramps, ← hu]
  · simp [hch] at hnil

end

/-! ## An entry to LIVE (R33, R148, R151) -/

section
variable {p : Port} {e : Entry} {s : State}

theorem enterLive_marked (h : s.rg.applyMark.isSome = true) : enterLive p e s = .error .busy := if_pos h

theorem enterLive_joins {ob : OpenBatch} {es : List Entry} (hm : s.rg.applyMark = none) (hb : (s.port p).batch = some ob)
    (hj : joinEntries ob.entries e = some es) :
    enterLive p e s = .ok (s.setPort p { s.port p with batch := some { ob with entries := es } }) := by
  simp [enterLive, hm, hb, hj]

theorem enterLive_full {ob : OpenBatch} (hm : s.rg.applyMark = none) (hb : (s.port p).batch = some ob)
    (hj : joinEntries ob.entries e = none) : enterLive p e s = .error .batchFull := by
  simp [enterLive, hm, hb, hj]

theorem enterLive_alone {t : State} (hm : s.rg.applyMark = none) (hb : (s.port p).batch = none)
    (hc : commitBatch p { entries := [e], byCommit := false } s = some t) : enterLive p e s = .ok t := by
  simp [enterLive, hm, hb, hc]

theorem enterLive_waiting (hb : (s.port p).batch = none)
    (hc : commitBatch p { entries := [e], byCommit := false } s = none) : enterLive p e s = .error .busy := by
  unfold enterLive
  split
  · rfl
  · simp [hb, hc]

theorem single_any_cause (live : Image) (e : Entry) : [e].any (Entry.isCause live) = e.isCause live := by simp

end

/-! ## WALL (R19) -/

theorem doWall_taken {p : Port} {w : Fin 3} {o : Override} {s t : State} (h : enterLive p (.wall w o) s = .ok t) :
    doWall p w.val o s = t.okReply := by simp [doWall, index?_val, h]

theorem doWall_refused {p : Port} {w : Fin 3} {o : Override} {s : State} {st : Status}
    (h : enterLive p (.wall w o) s = .error st) : doWall p w.val o s = { state := s, status := st, data := [5, w.val] } := by
  simp [doWall, index?_val, h, tableCode]

section
variable {p : Port} {w : Fin 3} {o : Override} {s : State} (hready : Ready s p .config)
include hready

theorem exec_wall_taken {t : State} (h : enterLive p (.wall w o) (received p s) = .ok t) :
    exec (.wall p w.val o) s = .next (answered p .wall .ok [] t) :=
  exec_takes (r := .wall w.val o) rfl Request.noConfusion hready (doWall_taken h) rfl

theorem exec_wall_refused {st : Status} (h : enterLive p (.wall w o) (received p s) = .error st) :
    exec (.wall p w.val o) s = .next (answered p .wall st [5, w.val] (received p s)) := by
  rw [exec_allowed (r := .wall w.val o) rfl Request.noConfusion hready (doWall_refused h)]
  simp [answerData, Request.name]

end

theorem received_batch_none {p : Port} {s : State} (h : (s.port p).batch = none) : ((received p s).port p).batch = none := by
  simp [received_port, h]

theorem received_batch_some {p : Port} {s : State} {ob : OpenBatch} (h : (s.port p).batch = some ob) :
    ((received p s).port p).batch = some { ob with idle := 0 } := by simp [received_port, h]

/-- Settles O52: WALL is an entry to LIVE of its wall's override. -/
theorem wallWaitsForASwitch : Obligations.WallWaitsForASwitch := by
  intro p w o s hready
  refine ⟨fun h => exec_wall_refused hready ?_, fun hm hb hw => ?_, fun ob hm hb => ?_⟩
  · rcases h with hm | ⟨hb, hw⟩
    · exact enterLive_marked (by simpa using hm)
    · exact enterLive_waiting (received_batch_none hb) (commitBatch_waiting (by simp [Entry.isCause]) (by simpa using hw))
  · obtain ⟨t, ht, hframe, hch, hst, hmap, hr⟩ := commitBatch_waits (p := p) (b := { entries := [.wall w o], byCommit := false })
      (s := received p s) (by simpa using hm) (by simp [Entry.isCause]) (by simpa using hw)
    refine ⟨t, exec_wall_taken hready (enterLive_alone (by simpa using hm) (received_batch_none hb) ht), hframe, ?_, hst, ?_, ?_⟩
    · rw [hch, received_rg]
    · rw [hmap, received_rg]
    · rw [hr, received_rg]
  · have hm' : (received p s).rg.applyMark = none := by simpa using hm
    have hb' := received_batch_some hb
    refine ⟨fun hnew hl => ?_, fun hold => ?_, fun hnew hl => ?_⟩
    · exact exec_wall_taken hready (enterLive_joins hm' hb' (joinEntries_new (e := .wall w o) hnew hl))
    · exact exec_wall_taken hready (enterLive_joins hm' hb' (joinEntries_present (e := .wall w o) hold))
    · exact exec_wall_refused hready (enterLive_full hm' hb' (joinEntries_full (e := .wall w o) hnew hl))

/-! ## BEGIN, COMMIT and ABANDON (R151, R152) -/

theorem doCommit_none {p : Port} {s : State} (h : (s.port p).batch = none) : doCommit p s = s.refuse .noBatch := by
  simp [doCommit, h]

theorem doCommit_refused {p : Port} {s : State} {ob : OpenBatch} (h : (s.port p).batch = some ob)
    (hc : commitBatch p { entries := ob.entries, byCommit := true } (s.setPort p { s.port p with batch := none }) = none) :
    doCommit p s = s.refuse .busy := by simp [doCommit, h, hc]

theorem doCommit_taken {p : Port} {s t : State} {ob : OpenBatch} (h : (s.port p).batch = some ob)
    (hc : commitBatch p { entries := ob.entries, byCommit := true } (s.setPort p { s.port p with batch := none }) = some t) :
    doCommit p s = t.okReply := by simp [doCommit, h, hc]

theorem setPort_setPort (s : State) (p : Port) (r r' : PortRec) : (s.setPort p r).setPort p r' = s.setPort p r' := by
  cases p <;> rfl

section
variable {p : Port} {s : State} (hready : Ready s p .config) {ob : OpenBatch} (hb : (s.port p).batch = some ob)
include hready hb

theorem exec_commit_refused (hc : commitBatch p { entries := ob.entries, byCommit := true }
    ((received p s).setPort p { (received p s).port p with batch := none }) = none) :
    exec (.commit p) s = .next (refused p .commit .busy s) :=
  exec_refuses (r := .commit) rfl Request.noConfusion hready (doCommit_refused (received_batch_some hb) hc) rfl

theorem exec_commit_taken {t : State} (hc : commitBatch p { entries := ob.entries, byCommit := true }
    ((received p s).setPort p { (received p s).port p with batch := none }) = some t) :
    exec (.commit p) s = .next (answered p .commit .ok [] t) :=
  exec_takes (r := .commit) rfl Request.noConfusion hready (doCommit_taken (received_batch_some hb) hc) rfl

end

/-- Settles O53: COMMIT hands the open batch on as `commitBatch` says; BEGIN and ABANDON test for an open batch alone. -/
theorem batchRequestsMoveTheBatch : Obligations.BatchRequestsMoveTheBatch := by
  intro p s hready r
  refine ⟨fun hb => ?_, fun ob hb => ?_⟩
  · have hb' := received_batch_none hb
    refine ⟨?_, ?_, ?_⟩
    · exact exec_takes (r := .beginBatch) rfl Request.noConfusion hready (by simp [Request.body, doBegin, hb', State.okReply, r]) rfl
    · exact exec_refuses (r := .commit) rfl Request.noConfusion hready (doCommit_none hb') rfl
    · exact exec_refuses (r := .abandon) rfl Request.noConfusion hready (by simp [Request.body, doAbandon, hb']) rfl
  · have hb' := received_batch_some hb
    refine ⟨?_, ?_, fun hm => ?_, fun hm hplain => ?_, fun hm hcause => ⟨fun hw => ?_, fun hw => ?_⟩⟩
    · exact exec_refuses (r := .beginBatch) rfl Request.noConfusion hready (by simp [Request.body, doBegin, hb']) rfl
    · exact exec_takes (r := .abandon) rfl Request.noConfusion hready (by simp [Request.body, doAbandon, hb', State.okReply, r]) rfl
    · exact exec_commit_refused hready hb (commitBatch_marked (by simpa using hm))
    · rw [exec_commit_taken hready hb (commitBatch_plain (by simpa using hm) (by simpa using hplain)), setPort_setPort, setPort_port]
    · exact exec_commit_refused hready hb (commitBatch_waiting (by simpa using hcause) (by simpa using hw))
    · obtain ⟨t, ht, hframe, hch, hst, -⟩ := commitBatch_waits (p := p) (b := { entries := ob.entries, byCommit := true })
        (s := (received p s).setPort p { r with batch := none }) (by simpa using hm) (by simpa using hcause) (by simpa using hw)
      refine ⟨t, exec_commit_taken hready hb ht, hframe, ?_, hst⟩
      rw [hch, setPort_rg, received_rg]

end Sys2Proof.Machine
end

section
/-! SUPPORT. The scene requests (R33, R164 to R169): O58. -/

namespace Sys2Proof.Machine
open Host

/-! ## Requests that name a page and a buffer -/

theorem onPageBuf_val (k : Fin 32) (b : Fin 2) (f : Fin 32 → Fin 2 → State → Reply) (s : State) :
    onPageBuf k.val b.val f s = f k b s := by simp [onPageBuf, index?_val]
theorem onBuf_val (b : Fin 2) (f : Fin 2 → State → Reply) (s : State) : onBuf b.val f s = f b s := by simp [onBuf, index?_val]
theorem onPage_val (k : Fin 32) (f : Fin 32 → State → Reply) (s : State) : onPage k.val f s = f k s := by simp [onPage, index?_val]

theorem pageClass_val (k : Fin 32) : pageClass k.val = if k = 0 then .system else .config := by
  simp only [pageClass, Fin.ext_iff, Fin.val_zero]

@[simp] theorem received_locked (p : Port) (s : State) (b : Fin 2) : (received p s).locked b = decide ((s.scene.bufs[b]).lock ≠ .free) := by
  simp [State.locked]
@[simp] theorem received_engineBusy (p : Port) (s : State) : (received p s).engineBusy = s.scene.job.isSome := by
  simp [State.engineBusy]

/-! ## What a taken request locks and starts (R164) -/

/-- The job that a request starts on page `k` of `s` (R167). -/
def newJob (op : EngineOp) (k : Fin 32) (b : Option (Fin 2)) (record : Option PowerOn) (s : State) : Job :=
  { op := op, page := k, buffer := b, erased := false, kept := keptCount s.scene.pages[k], powerOn := record }

/-- A buffer locked and the engine started: what moves, and what stands. -/
theorem started_spec (op : EngineOp) (k : Fin 32) (b : Fin 2) (record : Option PowerOn) (p : Port) (s : State) :
    let u := startJob op k (some b) record (lockBuf b .engine (received p s))
    u.scene.bufs = s.scene.bufs.set b.val { s.scene.bufs[b] with lock := .engine }
    ∧ u.scene.job = some (newJob op k (some b) record s) ∧ u = { received p s with scene := u.scene }
    ∧ u.scene.pages = s.scene.pages := by
  refine ⟨?_, ?_, rfl, ?_⟩
  · simp [startJob, lockBuf, State.setJob, State.setBuf, put]
  · simp [startJob, lockBuf, State.setJob, State.setBuf, newJob]
  · simp [startJob, lockBuf, State.setJob, State.setBuf]

/-- The power-on record of a STORE to page 0: the buffer's own where it was loaded from page 0 (R167). -/
theorem storedPowerOn_own {s : State} {b : Fin 2} {r : PowerOn} (hs : (s.scene.bufs[b]).source = some 0)
    (hp : (s.scene.bufs[b]).powerOn = some r) : storedPowerOn s b = r := by simp only [storedPowerOn, hs, if_true, hp]

/-- Else a valid page's. -/
theorem storedPowerOn_page {s : State} {b : Fin 2} {r : PowerOn} (hs : (s.scene.bufs[b]).source ≠ some 0)
    (hm : (s.scene.pages[0]).mark = true) (hp : (s.scene.pages[0]).contents.powerOn = some r) : storedPowerOn s b = r := by
  simp only [storedPowerOn, hs, if_false, hm, if_true, hp]

/-- Else the factory one. -/
theorem storedPowerOn_factory {s : State} {b : Fin 2} (hs : (s.scene.bufs[b]).source ≠ some 0)
    (hm : (s.scene.pages[0]).mark = false) : storedPowerOn s b = factoryPowerOn := by
  simp only [storedPowerOn, hs, if_false, hm, Bool.false_eq_true]

theorem storedPowerOn_received (p : Port) (s : State) (b : Fin 2) : storedPowerOn (received p s) b = storedPowerOn s b := by
  simp only [storedPowerOn, received_scene]

/-- APPLY's cause: every bus is affected, and the pending map is that of the image (R25, R33). -/
theorem applied_spec (b : Fin 2) {s : State} (hst : s.rg.state = .steady) :
    let u := regroupCause false { s with rg := { s.rg with applyMark := some b, applyDue := true } }
    u = { s with rg := u.rg } ∧ u.rg.state = .fadingOut ∧ u.rg.applyMark = some b ∧ u.rg.affected = same 26 true
    ∧ u.rg.map = s.rg.map ∧ u.rg.r = s.rg.r
    ∧ u.rg.pendMap = mapOf (tab fun w => effectiveOf (s.scene.bufs[b]).image.wall[w] (s.walls[w]).sensed) := by
  intro u
  have hu : u = _ := regroupCause_eq false _
  have hcaused (g : Regroup) : g.caused false s.rg.state = g.fadeOut false := if_neg (by simp [hst])
  dsimp only at hu
  rw [hcaused] at hu
  rw [hu]
  refine ⟨rfl, rfl, rfl, ?_, rfl, rfl, rfl⟩
  ext i hi
  simp [Regroup.fadeOut, derivePending, busAffected]

/-! ## The requests, case by case (R164) -/

section
variable {p : Port} {k : Fin 32} {b : Fin 2} {s : State} (hready : Ready s p .config)
include hready

theorem exec_load : exec (.load p k.val b.val) s = .next (
    if (s.scene.bufs[b]).lock ≠ .free then refused p .load .bufferBusy s
    else if s.scene.job.isSome then refused p .load .busy s
    else if (s.scene.pages[k]).mark = false then refused p .load .pageInvalid s
    else answered p .load .ok [] (startJob .load k (some b) none (lockBuf b .engine (received p s)))) := by
  have hbody : Request.body p (.load k.val b.val) (s.port p).keep (received p s) = loadPage k b (received p s) := onPageBuf_val ..
  simp only [loadPage, received_locked, received_engineBusy, received_scene, decide_eq_true_eq] at hbody
  have hrefuse {st : Status} (h : Request.body p (.load k.val b.val) (s.port p).keep (received p s) = (received p s).refuse st)
      (hst : st.taken = false) : exec (.load p k.val b.val) s = .next (refused p .load st s) :=
    exec_refuses (r := .load k.val b.val) rfl Request.noConfusion hready h hst
  simp only [Bool.not_eq_true'] at hbody
  split_ifs at hbody ⊢
  · exact hrefuse hbody rfl
  · exact hrefuse hbody rfl
  · exact hrefuse hbody rfl
  · exact exec_takes (r := .load k.val b.val) rfl Request.noConfusion hready hbody rfl

theorem exec_capture_refused (h : (s.scene.bufs[b]).lock ≠ .free) :
    exec (.capture p b.val) s = .next (refused p .capture .bufferBusy s) :=
  exec_refuses (r := .capture b.val) rfl Request.noConfusion hready ((onBuf_val ..).trans (if_pos (by simpa using h))) rfl

theorem exec_capture_taken (h : (s.scene.bufs[b]).lock = .free) :
    exec (.capture p b.val) s = .next (answered p .capture .ok [] (lockBuf b .capture (received p s))) :=
  exec_takes (r := .capture b.val) rfl Request.noConfusion hready ((onBuf_val ..).trans (if_neg (by simpa using h))) rfl

theorem exec_apply_refused {st : Status} (h : applyBuf b (received p s) = (received p s).refuse st) (hst : st.taken = false) :
    exec (.apply p b.val) s = .next (refused p .apply st s) :=
  exec_refuses (r := .apply b.val) rfl Request.noConfusion hready ((onBuf_val ..).trans h) hst

theorem exec_apply_taken {u : State} (h : applyBuf b (received p s) = u.okReply) :
    exec (.apply p b.val) s = .next (answered p .apply .ok [] u) :=
  exec_takes (r := .apply b.val) rfl Request.noConfusion hready ((onBuf_val ..).trans h) rfl

end

theorem ready_page {s : State} {p : Port} {k : Fin 32} (h : Ready s p (if k = 0 then .system else .config)) :
    Ready s p (pageClass k.val) := by rwa [pageClass_val]

section
variable {p : Port} {k : Fin 32} {b : Fin 2} {s : State} (hready : Ready s p (if k = 0 then .system else .config))
include hready

theorem exec_store_refused {st : Status} (h : storeBuf b k (received p s) = (received p s).refuse st) (hst : st.taken = false) :
    exec (.store p b.val k.val) s = .next (refused p .store st s) :=
  exec_refuses (r := .store b.val k.val) rfl Request.noConfusion (ready_page hready) ((onPageBuf_val ..).trans h) hst

theorem exec_store_taken {u : State} (h : storeBuf b k (received p s) = u.okReply) :
    exec (.store p b.val k.val) s = .next (answered p .store .ok [] u) :=
  exec_takes (r := .store b.val k.val) rfl Request.noConfusion (ready_page hready) ((onPageBuf_val ..).trans h) rfl

theorem exec_amend_refused {st : Status} (h : amendPage b k (received p s) = (received p s).refuse st) (hst : st.taken = false) :
    exec (.amend p b.val k.val) s = .next (refused p .amend st s) :=
  exec_refuses (r := .amend b.val k.val) rfl Request.noConfusion (ready_page hready) ((onPageBuf_val ..).trans h) hst

theorem exec_amend_taken {u : State} (h : amendPage b k (received p s) = u.okReply) :
    exec (.amend p b.val k.val) s = .next (answered p .amend .ok [] u) :=
  exec_takes (r := .amend b.val k.val) rfl Request.noConfusion (ready_page hready) ((onPageBuf_val ..).trans h) rfl

theorem exec_erase_refused {st : Status} (h : erasePage k (received p s) = (received p s).refuse st) (hst : st.taken = false) :
    exec (.erase p k.val) s = .next (refused p .erase st s) :=
  exec_refuses (r := .erase k.val) rfl Request.noConfusion (ready_page hready) ((onPage_val ..).trans h) hst

theorem exec_erase_taken {u : State} (h : erasePage k (received p s) = u.okReply) :
    exec (.erase p k.val) s = .next (answered p .erase .ok [] u) :=
  exec_takes (r := .erase k.val) rfl Request.noConfusion (ready_page hready) ((onPage_val ..).trans h) rfl

end

/-- Settles O58: each request is its operation on the page and buffer, whose tests are taken in the order of R164. -/
theorem sceneRequestsAreTaken : Obligations.SceneRequestsAreTaken := by
  intro p k b s x locks starts scene
  have hlocked (h : x.lock ≠ .free) : (received p s).locked b = true := by rw [received_locked]; exact decide_eq_true h
  have hfree (h : x.lock = .free) : ¬(received p s).locked b = true := by 
    rw [received_locked, decide_eq_true_eq, not_not]; exact h
  have hstatus : ((received p s).scene.bufs[b]).status = x.status := by rw [received_scene]
  have hbusy (h : s.scene.job.isSome = true) : (received p s).engineBusy = true := by rw [received_engineBusy, h]
  have hidle (h : s.scene.job = none) : ¬(received p s).engineBusy = true := by rw [received_engineBusy, h]; simp
  have hmark : ((received p s).scene.pages[k]).mark = (s.scene.pages[k]).mark := by rw [received_scene]
  have hstate : (received p s).rg.state = s.rg.state := by rw [received_rg]
  have hstarts {u : State} {op : EngineOp} {buf : Option (Fin 2)} {record : Option PowerOn}
      (hj : u.scene.job = some (newJob op k buf record s)) (hb : (op ≠ .erase → buf = some b) ∧ (op = .erase → buf = none))
      (hn : op ≠ .store ∨ k ≠ 0 → record = none) (hs : op = .store → k = 0 → record = some (storedPowerOn s b)) :
      starts u op := by
    refine ⟨_, hj, rfl, rfl, rfl, rfl, hb.1, hb.2, hn, fun ho hk => ?_⟩
    have hrec := hs ho hk
    subst hk
    exact ⟨fun r h1 h2 => hrec.trans (by rw [storedPowerOn_own h1 h2]),
      fun r h1 h2 h3 => hrec.trans (by rw [storedPowerOn_page h1 h2 h3]),
      fun h1 h2 => hrec.trans (by rw [storedPowerOn_factory h1 h2])⟩
  refine ⟨fun hready => ⟨exec_load hready, fun hl hj hm => ?_, exec_capture_refused hready, fun hl => ?_, fun hl => ?_,
    fun hl he => ?_, fun hl he hst => ?_, fun hl he hst => ?_⟩, fun hready => ⟨fun hl => ⟨?_, ?_⟩, fun hl he => ?_,
    fun hl he => ?_, fun hl hj => ⟨fun he => ?_, fun he => ?_⟩, fun hj => ?_, fun hl hj => ⟨fun he => ?_, fun he hm => ?_,
    fun he hm => ?_⟩, fun hj => ?_⟩⟩
  · obtain ⟨h1, h2, h3, h4⟩ := started_spec .load k b none p s
    refine ⟨_, ?_, h1, hstarts h2 ⟨fun _ => rfl, nofun⟩ (fun _ => rfl) nofun, h3, h4⟩
    rw [exec_load hready, if_neg (not_not.2 hl), if_neg (by simp [hj]), if_neg (by rw [hm]; exact nofun)]
  · refine ⟨_, exec_capture_taken hready hl, ?_, rfl, ?_, ?_⟩ <;> cases p <;> rfl
  · exact exec_apply_refused hready (if_pos (hlocked hl)) rfl
  · exact exec_apply_refused hready ((if_neg (hfree hl)).trans (if_pos (hstatus.trans he))) rfl
  · exact exec_apply_refused hready ((if_neg (hfree hl)).trans ((if_neg (hstatus ▸ he)).trans (if_pos (hstate ▸ hst)))) rfl
  · obtain ⟨hframe, happlied⟩ := applied_spec b (s := lockBuf b .apply (received p s)) (by simpa [lockBuf] using hst)
    refine ⟨_, exec_apply_taken hready ((if_neg (hfree hl)).trans ((if_neg (hstatus ▸ he)).trans
      (if_neg (not_not.2 (hstate.trans hst))))), ?_⟩
    obtain ⟨hfade, happly, haffected, hmap, hr, hpend⟩ := happlied
    rw [hframe]
    refine ⟨?_, rfl, ?_, ?_, hfade, happly, haffected, ?_, ?_, ?_, ?_⟩
    · cases p <;> rfl
    · cases p <;> rfl
    · cases p <;> rfl
    · cases p <;> rfl
    · simpa [lockBuf] using hmap
    · simpa [lockBuf] using hr
    · simpa [lockBuf, State.setBuf, x] using hpend
  · exact exec_store_refused hready (if_pos (hlocked hl)) rfl
  · exact exec_amend_refused hready (if_pos (hlocked hl)) rfl
  · exact exec_store_refused hready ((if_neg (hfree hl)).trans (if_pos (hstatus.trans he))) rfl
  · exact exec_amend_refused hready ((if_neg (hfree hl)).trans (if_pos (hstatus ▸ he))) rfl
  · exact exec_store_refused hready ((if_neg (hfree hl)).trans ((if_neg (hstatus ▸ he)).trans (if_pos (hbusy hj)))) rfl
  · exact exec_amend_refused hready ((if_neg (hfree hl)).trans ((if_neg (not_not.2 (hstatus.trans he))).trans
      (if_pos (hbusy hj)))) rfl
  · exact exec_erase_refused hready (if_pos (hbusy hj)) rfl
  · obtain ⟨h1, h2, h3, h4⟩ := started_spec .store k b (if k = 0 then some (storedPowerOn (received p s) b) else none) p s
    refine ⟨_, exec_store_taken hready ((if_neg (hfree hl)).trans ((if_neg (hstatus ▸ he)).trans (if_neg (hidle hj)))), h1,
      hstarts h2 ⟨fun _ => rfl, nofun⟩ (fun h => if_neg (h.resolve_left (not_not.2 rfl))) (fun _ hk => ?_), h3, h4⟩
    rw [if_pos hk, storedPowerOn_received]
  · exact exec_amend_refused hready ((if_neg (hfree hl)).trans ((if_neg (not_not.2 (hstatus.trans he))).trans
      ((if_neg (hidle hj)).trans (if_pos (by rw [hmark, hm]; rfl))))) rfl
  · obtain ⟨h1, h2, h3, h4⟩ := started_spec .amend k b none p s
    exact ⟨_, exec_amend_taken hready ((if_neg (hfree hl)).trans ((if_neg (not_not.2 (hstatus.trans he))).trans
      ((if_neg (hidle hj)).trans (if_neg (by rw [hmark, hm]; simp))))), h1,
      hstarts h2 ⟨fun _ => rfl, nofun⟩ (fun _ => rfl) nofun, h3, h4⟩
  · refine ⟨_, exec_erase_taken hready (if_neg (hidle hj)), hstarts (buf := none) (record := none) ?_ ⟨nofun, fun _ => rfl⟩
      (fun _ => rfl) nofun, rfl, ?_, ?_⟩
    · simp [startJob, State.setJob, State.setPage, newJob]
    · simp [startJob, State.setJob, State.setPage, Page.invalidate, put]
    · simp [startJob, State.setJob, State.setPage]

end Sys2Proof.Machine
end

section
/-! SUPPORT. The forms of ENTER (R148, R149). -/

namespace Sys2Proof.Machine
open Host

/-! ## Clamps and named fields (R149) -/

theorem clampTo_eq {lo hi : Nat} (h : lo ≤ hi) (n : Nat) :
    clampTo lo hi n = if n < lo then lo else if hi < n then hi else n := by
  unfold clampTo
  split_ifs <;> omega

theorem clampTo_zero (hi n : Nat) : clampTo 0 hi n = min n hi := Nat.zero_max ..

theorem outside_zero (hi n : Nat) : outside 0 hi n = decide (hi < n) := by simp [outside]

theorem outside_or (a b : Nat) (x y : Nat) : (outside 0 a x || outside 0 b y) = decide (a < x ∨ b < y) := by
  rw [outside_zero, outside_zero, Bool.decide_or]

theorem sectField_of_lt {q : Nat} (h : q < 4) : sectField q = some ⟨q, h⟩ := dif_pos h
theorem sectField_of_not {q : Nat} (h : ¬q < 4) : sectField q = none := dif_neg h

theorem flagOf_of_lt {n : Nat} (h : n < 2) : flagOf n = some (decide (n = 1)) := by
  obtain rfl | rfl : n = 0 ∨ n = 1 := by omega
  all_goals rfl
theorem flagOf_of_not {n : Nat} (h : ¬n < 2) : flagOf n = none := by
  rw [flagOf, if_neg (by omega), if_neg (by omega)]

theorem modeOfCode_of_lt {n : Nat} (h : n < 3) :
    modeOfCode n = some (if n = 0 then .openToAll else if n = 1 then .gated else .chaired) := by
  obtain rfl | rfl | rfl : n = 0 ∨ n = 1 ∨ n = 2 := by omega
  all_goals rfl
theorem modeOfCode_of_not {n : Nat} (h : ¬n < 3) : modeOfCode n = none := by
  rw [modeOfCode, if_neg (by omega), if_neg (by omega), if_neg (by omega)]

theorem overflowOf_of_lt {n : Nat} (h : n < 2) : overflowOf n = some (if n = 1 then .bump else .refuse) := by
  obtain rfl | rfl : n = 0 ∨ n = 1 := by omega
  all_goals rfl
theorem overflowOf_of_not {n : Nat} (h : ¬n < 2) : overflowOf n = none := by
  rw [overflowOf, if_neg (by omega), if_neg (by omega)]

theorem expiryOf_of_lt {n : Nat} (h : n < 2) : expiryOf n = some (if n = 1 then .revoke else .warnOnly) := by
  obtain rfl | rfl : n = 0 ∨ n = 1 := by omega
  all_goals rfl
theorem expiryOf_of_not {n : Nat} (h : ¬n < 2) : expiryOf n = none := by
  rw [expiryOf, if_neg (by omega), if_neg (by omega)]

theorem sourceMic_isSome (i : Fin 26) : (sourceMic i).isSome = decide (i.val < 16) := by
  unfold sourceMic
  split <;> simp_all

/-! ## The forms, table by table -/

section
variable (s : State) (v : View) (ops : List Nat)

theorem readForm_crosspoint (i : Fin 676) : readForm s { table := .crosspoint, view := v, index := i.val } ops = readXpt i ops := by
  simp only [readForm, index?_val, Option.bind_some]
theorem readForm_source (i : Fin 26) : readForm s { table := .source, view := v, index := i.val } ops = readSource i ops := by
  simp only [readForm, index?_val, Option.bind_some]
theorem readForm_bus (i : Fin 26) : readForm s { table := .bus, view := v, index := i.val } ops = readBus i ops := by
  simp only [readForm, index?_val, Option.bind_some]
theorem readForm_sect (i : Fin 4) : readForm s { table := .sect, view := v, index := i.val } ops = readSection i ops := by
  simp only [readForm, index?_val, Option.bind_some]
theorem readForm_group (g : Fin 8) : readForm s { table := .group, view := v, index := g.val } ops = readGroup g ops := by
  simp only [readForm, index?_val, Option.bind_some]
theorem readForm_wall (w : Fin 3) : readForm s { table := .wall, view := v, index := w.val } ops = readWall w ops := by
  simp only [readForm, index?_val, Option.bind_some]

end

theorem readXpt_length {i : Fin 676} {ops : List Nat} (h : ops.length ≠ 1) : readXpt i ops = none := by
  unfold readXpt
  split
  · exact absurd rfl h
  · rfl

theorem readXpt_one (i : Fin 676) (x : Nat) : readXpt i [x] = some (.entry (.xpt i (min x 65535)), decide (65535 < x)) := by
  rw [readXpt, Config.maxGain, clampTo_zero, outside_zero]

theorem readSource_length {i : Fin 26} {ops : List Nat} (h : ops.length ≠ if i.val < 16 then 3 else 2) :
    readSource i ops = none := by
  unfold readSource
  split
  · rename_i hm
    rw [sourceMic_isSome, decide_eq_true_eq] at hm
    exact absurd (if_pos hm).symm h
  · rename_i hm
    rw [sourceMic_isSome, decide_eq_false_iff_not] at hm
    exact absurd (if_neg hm).symm h
  · rfl

theorem readSource_mic {i : Fin 26} (hi : i.val < 16) (x q c : Nat) : readSource i [x, q, c] = (if h : q < 4 ∧ c < 2
    then some (.entry (.src i { trim := min x 65535, sect := ⟨q, h.1⟩, chair := decide (c = 1) }), decide (65535 < x)) else none) := by
  have hm : (sourceMic i).isSome = true := by rw [sourceMic_isSome, decide_eq_true hi]
  simp only [readSource, hm, Config.maxGain, clampTo_zero, outside_zero]
  by_cases hq : q < 4
  · by_cases hc : c < 2
    · simp [sectField_of_lt hq, flagOf_of_lt hc, hq, hc]
    · simp [flagOf_of_not hc, hc]
  · simp [sectField_of_not hq, hq]

theorem readSource_other {i : Fin 26} (hi : 16 ≤ i.val) (x q : Nat) : readSource i [x, q] = (if h : q < 4
    then some (.entry (.src i { trim := min x 65535, sect := ⟨q, h⟩, chair := false }), decide (65535 < x)) else none) := by
  have hm : (sourceMic i).isSome = false := by rw [sourceMic_isSome, decide_eq_false (Nat.not_lt.2 hi)]
  simp only [readSource, hm, Config.maxGain, clampTo_zero, outside_zero]
  by_cases hq : q < 4
  · simp [sectField_of_lt hq, hq]
  · simp [sectField_of_not hq, hq]

theorem readBus_length {i : Fin 26} {ops : List Nat} (h : ops.length ≠ 2) : readBus i ops = none := by
  unfold readBus
  split
  · exact absurd rfl h
  · rfl

theorem readBus_two (i : Fin 26) (x q : Nat) : readBus i [x, q] = (if h : q < 4
    then some (.entry (.bus i { gain := min x 65535, sect := ⟨q, h⟩ }), decide (65535 < x)) else none) := by
  simp only [readBus, Config.maxGain, clampTo_zero, outside_zero]
  by_cases hq : q < 4
  · simp [sectField_of_lt hq, hq]
  · simp [sectField_of_not hq, hq]

theorem readSection_length {i : Fin 4} {ops : List Nat} (h : ops.length ≠ 17) : readSection i ops = none := by
  unfold readSection
  split
  · exact absurd rfl h
  · rfl

section
variable (i : Fin 4) (mode limit thr ratio hold level code last speak auto policy life speech lead act x y : Nat)

/-- A section's form with every named field in its range: each other field clamped (R17, R149). -/
theorem readSection_named (hm : mode < 3) (hl : last < 2) (ha : auto < 2) (hp : policy < 2) (hx : act < 2) :
    readSection i [mode, limit, thr, ratio, hold, level, code, last, speak, auto, policy, life, speech, lead, act, x, y] =
      some (.entry (.sec i
        { mode := if mode = 0 then .openToAll else if mode = 1 then .gated else .chaired, openLimit := clampTo 1 8 limit,
          threshold := clampTo 0 8388607 thr, ratio := clampTo 16 255 ratio, hold := clampTo 0 2000 hold,
          offLevel := clampTo 0 32768 level, gateCode := clampTo 0 3 code, lastOn := decide (last = 1),
          speakerLimit := clampTo 1 8 speak, autoGrant := decide (auto = 1), overflow := if policy = 1 then .bump else .refuse,
          lifetime := clampTo 0 600 life, speechLimit := clampTo 0 3600 speech, warnLead := clampTo 0 3600 lead,
          expiry := if act = 1 then .revoke else .warnOnly }),
        outside 1 8 limit || outside 0 8388607 thr || outside 16 255 ratio || outside 0 2000 hold || outside 0 32768 level
          || outside 0 3 code || outside 1 8 speak || outside 0 600 life || outside 0 3600 speech || outside 0 3600 lead) := by
  simp only [readSection, modeOfCode_of_lt hm, flagOf_of_lt hl, flagOf_of_lt ha, overflowOf_of_lt hp, expiryOf_of_lt hx]

theorem readSection_unnamed (h : ¬(mode < 3 ∧ last < 2 ∧ auto < 2 ∧ policy < 2 ∧ act < 2)) :
    readSection i [mode, limit, thr, ratio, hold, level, code, last, speak, auto, policy, life, speech, lead, act, x, y] = none := by
  unfold readSection
  dsimp only
  split
  · rename_i h1 h2 h3 h4 h5
    refine absurd ⟨?_, ?_, ?_, ?_, ?_⟩ h <;> by_contra hn
    · simp [modeOfCode_of_not hn] at h1
    · simp [flagOf_of_not hn] at h2
    · simp [flagOf_of_not hn] at h3
    · simp [overflowOf_of_not hn] at h4
    · simp [expiryOf_of_not hn] at h5
  · rfl

end

theorem readGroup_length {g : Fin 8} {ops : List Nat} (h : ops.length ≠ 2) : readGroup g ops = none := by
  unfold readGroup
  split
  · exact absurd rfl h
  · rfl

theorem readGroup_two (g : Fin 8) (n x : Nat) : readGroup g [n, x] =
    if n < 2 ^ 26 then some (.entry (.grp g (tab fun i => n.testBit i.val)), false) else none := by
  simp only [readGroup, sourceSet, bitsSet]
  split <;> rfl

theorem readWall_length {w : Fin 3} {ops : List Nat} (h : ops.length ≠ 4) : readWall w ops = none := by
  unfold readWall
  split
  · exact absurd rfl h
  · rfl

theorem readWall_four (w : Fin 3) (o x y z : Nat) : readWall w [o, x, y, z] =
    if o = 0 then some (.entry (.wall w .follow), false) else if o = 1 then some (.entry (.wall w .opened), false)
    else if o = 2 then some (.entry (.wall w .closed), false) else none := by
  simp only [readWall, overrideOf]
  split_ifs <;> rfl

theorem readDevice_live_length {s : State} {ops : List Nat} (h : ops.length ≠ 2) : readDevice s .live ops = none := by
  match ops with
  | [] => rfl
  | [_] => rfl
  | [_, _] => exact absurd rfl h
  | _ :: _ :: _ :: _ => rfl

theorem readDevice_live (s : State) (m b : Nat) :
    readDevice s .live [m, b] = some (.entry (.dev (min m 3) (min b 3)), decide (3 < m ∨ 3 < b)) := by
  simp only [readDevice, clampTo_zero, outside_or]

theorem readDevice_buffer_length {s : State} {d : Fin 2} {ops : List Nat} (h6 : ops.length ≠ 6) (h13 : ops.length ≠ 13) :
    readDevice s (.sb d) ops = none := by
  unfold readDevice
  split
  · rename_i h
    exact absurd h nofun
  · exact absurd rfl h6
  · exact absurd rfl h13
  · rfl

section
variable {s : State} {d : Fin 2} (m b l0 l1 l2 l3 : Nat)

theorem readDevice_short : readDevice s (.sb d) [m, b, l0, l1, l2, l3] = if (s.scene.bufs[d]).powerOn = none
    then some (.device (min m 3) (min b 3) none (readLabel l0 l1 l2 l3), decide (3 < m ∨ 3 < b)) else none := by
  simp only [readDevice, clampTo_zero, outside_or, Option.isNone_iff_eq_none]

variable (pa pb rate echo follow auto up : Nat)

theorem readDevice_ignored (h : (s.scene.bufs[d]).powerOn = none) :
    readDevice s (.sb d) [m, b, pa, pb, rate, echo, follow, auto, up, l0, l1, l2, l3] =
      some (.device (min m 3) (min b 3) none (readLabel l0 l1 l2 l3), decide (3 < m ∨ 3 < b)) := by
  simp only [readDevice, clampTo_zero, outside_or, Option.isNone_iff_eq_none]
  exact if_pos h

theorem readDevice_record (h : (s.scene.bufs[d]).powerOn.isSome = true) :
    readDevice s (.sb d) [m, b, pa, pb, rate, echo, follow, auto, up, l0, l1, l2, l3] =
      (readPowerOn pa pb rate echo follow auto up).map fun r =>
        (.device (min m 3) (min b 3) (some r) (readLabel l0 l1 l2 l3), decide (3 < m ∨ 3 < b)) := by
  simp only [readDevice, clampTo_zero, outside_or, Option.isNone_iff_eq_none]
  exact if_neg fun hn => by simp only [hn, Option.isSome_none, Bool.false_eq_true] at h

/-- The power-on fields of a buffer's device entry: each in its range, or the whole entry is none (R149, R162). -/
theorem readPowerOn_eq : readPowerOn pa pb rate echo follow auto up =
    match profileOf pa, profileOf pb, rateOf rate with
    | some a, some b', some r =>
      if echo < 2 ∧ follow < 2 ∧ auto < 2 ∧ up < 2 ^ 16 then
        some { profileA := a, profileB := b', rate := r, echo := decide (echo = 1), follow := decide (follow = 1),
               autoReport := decide (auto = 1), autoUp := tab fun i => up.testBit i.val }
      else none
    | _, _, _ => none := by
  unfold readPowerOn
  cases profileOf pa with
  | none => rfl
  | some a =>
  cases profileOf pb with
  | none => rfl
  | some b' =>
  cases rateOf rate with
  | none => rfl
  | some r =>
  dsimp only
  by_cases he : echo < 2
  · by_cases hf : follow < 2
    · by_cases ha : auto < 2
      · rw [flagOf_of_lt he, flagOf_of_lt hf, flagOf_of_lt ha, linkSet]
        by_cases hu : up < 2 ^ 16
        · rw [if_pos hu, if_pos ⟨he, hf, ha, hu⟩]
          rfl
        · rw [if_neg hu, if_neg fun h => hu h.2.2.2]
      · rw [flagOf_of_lt he, flagOf_of_lt hf, flagOf_of_not ha, if_neg fun h => ha h.2.2.1]
    · rw [flagOf_of_lt he, flagOf_of_not hf, if_neg fun h => hf h.2.1]
  · rw [flagOf_of_not he, if_neg fun h => he h.1]

end

/-! ## Status entries (R148) -/

/-- The form of a status entry: as many operands as a SHOW returns fields; an empty list position takes the form of one with an
entry (R148; log 11). -/
theorem readForm_status (s : State) (v : View) (ops : List Nat) {t : TableId} {k : Nat} (ht : isStatus t = true)
    (hm : t ≠ .meters) (hk : k < entryCount t) :
    (∀ fields, s.fieldsAt t .live k = some fields → readForm s { table := t, view := v, index := k } ops = readStatus fields.length ops)
    ∧ (s.fieldsAt t .live k = none →
        readForm s { table := t, view := v, index := k } ops = readStatus (if t = .queue then 2 else 3) ops) := by
  have of_some {f : List Nat} {x : Option (EnterValue × Bool)} (hf : s.fieldsAt t .live k = some f) (hx : x = readStatus f.length ops) :
      (∀ fields, s.fieldsAt t .live k = some fields → x = readStatus fields.length ops)
      ∧ (s.fieldsAt t .live k = none → x = readStatus (if t = .queue then 2 else 3) ops) := by
    rw [hf]
    exact ⟨fun _ h => by cases h; exact hx, nofun⟩
  cases t with
  | holds =>
    obtain ⟨i, rfl⟩ : ∃ i : Fin 26, k = i.val := ⟨⟨k, hk⟩, rfl⟩
    exact of_some (f := s.holdsFields i) (congrArg (Option.map s.holdsFields) (index?_val i))
      (congrArg (Option.bind · fun i => readStatus (s.holdsFields i).length ops) (index?_val i))
  | link =>
    obtain ⟨i, rfl⟩ : ∃ i : Fin 16, k = i.val := ⟨⟨k, hk⟩, rfl⟩
    exact of_some (fieldsAt_link s .live i)
      (congrArg (Option.bind · fun i => readStatus (linkFields s.links[i]).length ops) (index?_val i))
  | pages =>
    obtain ⟨i, rfl⟩ : ∃ i : Fin 32, k = i.val := ⟨⟨k, hk⟩, rfl⟩
    exact of_some (fieldsAt_pages s .live i)
      (congrArg (Option.bind · fun k => readStatus (pageFields s.scene.pages[k]).length ops) (index?_val i))
  | queue =>
    refine ⟨fun fields h => ?_, fun _ => rfl⟩
    have hlen : fields.length = 2 := by
      simp only [State.fieldsAt, Option.bind_eq_some_iff, State.queueFields] at h
      obtain ⟨p, -, hp⟩ := h
      split at hp
      · obtain ⟨q, -, rfl⟩ := Option.map_eq_some_iff.1 hp
        rfl
      · cases hp
    rw [hlen]
    rfl
  | grant =>
    refine ⟨fun fields h => ?_, fun _ => rfl⟩
    have hlen : fields.length = 3 := by
      simp only [State.fieldsAt, Option.bind_eq_some_iff, State.grantFields] at h
      obtain ⟨p, -, hp⟩ := h
      split at hp
      · obtain ⟨q, -, rfl⟩ := Option.map_eq_some_iff.1 hp
        rfl
      · cases hp
    rw [hlen]
    rfl
  | meters => exact absurd rfl hm
  | _ => exact absurd ht nofun

end Sys2Proof.Machine
end

section
/-! SUPPORT. ENTER (R148 to R151, R163): O50. -/

namespace Sys2Proof.Machine
open Host

/-! ## What an ENTER reads is not moved by its receipt -/

theorem readForm_received (p : Port) (s : State) (c : Cursor) (ops : List Nat) :
    readForm (received p s) c ops = readForm s c ops := by cases p <;> rfl

theorem oldMembership_received (p : Port) (s : State) (v : View) (g : Fin 8) :
    (received p s).oldMembership p v g = s.oldMembership p v g := by
  cases v
  · simp only [State.oldMembership, received_port, received_live]
    cases (s.port p).batch <;> rfl
  · simp only [State.oldMembership, received_scene]

theorem mergeKeep_received (p : Port) (keep : Option Set26) (v : View) (e : Entry) (s : State) :
    mergeKeep p keep v e (received p s) = mergeKeep p keep v e s := by
  cases keep with
  | none => rfl
  | some k => cases e <;> simp only [mergeKeep, oldMembership_received]

/-! ## The cursor moved on (R147) -/

/-- A port's record with its cursor advanced. -/
def PortRec.advanced (r : PortRec) : PortRec := { r with cursor := r.cursor.advance }

theorem advance_eq (s : State) (p : Port) : s.advance p = s.setPort p (s.port p).advanced := rfl

theorem advance_setPort (s : State) (p : Port) (r : PortRec) : (s.setPort p r).advance p = s.setPort p r.advanced := by
  rw [advance_eq, setPort_port, setPort_setPort]

theorem advance_withRg (s : State) (p : Port) (g : Regroup) :
    ({ s with rg := g } : State).advance p = { s.advance p with rg := g } := by cases p <;> rfl

/-- The port's record after a taken ENTER, but for its batches. -/
def entered (p : Port) (s : State) : PortRec := ((received p s).port p).advanced

theorem advance_received (p : Port) (s : State) : (received p s).advance p = (received p s).setPort p (entered p s) := rfl

theorem entered_eq (p : Port) (s : State) : entered p s = { (received p s).port p with
    cursor := { (s.port p).cursor with
      index := if (s.port p).cursor.index + 1 < entryCount (s.port p).cursor.table then (s.port p).cursor.index + 1 else 0 } } := by
  rw [entered, PortRec.advanced, received_cursor]
  rfl

/-! ## The outcomes of ENTER -/

theorem skips_iff (e : Entry) : e.skips = true ↔ ∃ i, excluded i = true ∧ ∃ v, e = .xpt i v := by
  cases e <;> simp [Entry.skips]

theorem skips_eq_false {e : Entry} (h : ∀ i v, e = .xpt i v → excluded i = false) : e.skips = false := by
  cases e with
  | xpt i v => exact h i v rfl
  | _ => rfl

theorem done_taken (x : Bool) : (if x then Status.clamped else Status.ok).taken = true := by cases x <;> rfl

section
variable {p : Port} {ops : List Nat} {s : State}

theorem doEnter_received {keep : Option Set26} {a : Reply} {val : EnterValue} {x : Bool}
    (hf : readForm s (s.port p).cursor ops = some (val, x))
    (ha : (match val with
      | .readOnly => ((received p s).advance p).refuse .readOnly
      | .clip n => if n = 0 then ((clearClip (s.port p).cursor.index (received p s)).advance p).okReply
          else ((received p s).advance p).refuse .readOnly
      | .device m b record label => match (s.port p).cursor.view with
        | .live => (received p s).refuse .badOperand
        | .sb y => enterBuffer p y (.device, 0) false (if x then .clamped else .ok) (writeDevice m b record label) (received p s)
      | .entry e => enterEntry p (s.port p).cursor.view (mergeKeep p keep (s.port p).cursor.view e s)
          (if x then .clamped else .ok) (received p s)) = a) :
    doEnter p ops keep (received p s) = a := by
  rw [doEnter, received_cursor, readForm_received, hf, ← ha]
  cases val with
  | entry e => simp only [mergeKeep_received]
  | _ => rfl

variable (hready : Ready s p .config)
include hready

theorem exec_enter_allowed {a : Reply} (ha : doEnter p ops (s.port p).keep (received p s) = a) :
    exec (.enter p ops) s = .next (answered p .enter a.status (answerData (s.port p).cursor a) a.state) :=
  exec_allowed (r := .enter ops) rfl Request.noConfusion hready ha

/-- An ENTER refused with its cursor's entry, in whatever state that leaves. -/
theorem exec_enter_refused {u : State} {st : Status} (ha : doEnter p ops (s.port p).keep (received p s) = u.refuse st)
    (hst : st.taken = false) : exec (.enter p ops) s = .next (answered p .enter st (s.port p).cursor.data u) := by
  rw [exec_enter_allowed hready ha]
  simp [answerData, State.refuse, hst]

theorem exec_enter_taken {u : State} {st : Status}
    (ha : doEnter p ops (s.port p).keep (received p s) = { state := u, status := st }) (hst : st.taken = true) :
    exec (.enter p ops) s = .next (answered p .enter st [] u) :=
  exec_takes (r := .enter ops) rfl Request.noConfusion hready ha hst

end

/-! ## An entry to LIVE and to a buffer -/

section
variable {p : Port} {e : Entry} {done : Status} {s : State}

theorem enterEntry_skipped (h : e.skips = true) : enterEntry p .live e done s = (s.advance p).refuse .excluded := if_pos h

theorem enterEntry_live {t : State} (h : e.skips = false) (ht : enterLive p e s = .ok t) :
    enterEntry p .live e done s = { state := t.advance p, status := done } := by simp [enterEntry, h, ht]

theorem enterEntry_refused {st : Status} (h : e.skips = false) (ht : enterLive p e s = .error st) :
    enterEntry p .live e done s = s.refuse st := by simp [enterEntry, h, ht]

variable {b : Fin 2} {key : TableId × Nat} {skip : Bool} {f : Buffer → Buffer}

theorem enterBuffer_locked (h : (s.scene.bufs[b]).lock ≠ .free) : enterBuffer p b key skip done f s = s.refuse .bufferBusy :=
  if_pos (decide_eq_true h)

theorem not_locked (h : (s.scene.bufs[b]).lock = .free) : ¬s.locked b = true := fun hl => of_decide_eq_true hl h

theorem enterBuffer_empty (h : (s.scene.bufs[b]).lock = .free) (he : (s.scene.bufs[b]).status = .empty) :
    enterBuffer p b key skip done f s = s.refuse .emptyBuffer := (if_neg (not_locked h)).trans (if_pos he)

theorem enterBuffer_skipped (h : (s.scene.bufs[b]).lock = .free) (he : (s.scene.bufs[b]).status ≠ .empty) :
    enterBuffer p b key true done f s = (s.advance p).refuse .excluded := (if_neg (not_locked h)).trans (if_neg he)

theorem enterBuffer_written (h : (s.scene.bufs[b]).lock = .free) (he : (s.scene.bufs[b]).status ≠ .empty) :
    enterBuffer p b key false done f s = { state := (s.setBuf b ((f s.scene.bufs[b]).touch key)).advance p, status := done } :=
  (if_neg (not_locked h)).trans (if_neg he)

end

theorem setBuf_port (s : State) (b : Fin 2) (x : Buffer) (p : Port) : (s.setBuf b x).port p = s.port p := by cases p <;> rfl

theorem withMix_port (s : State) (m : Mix) (p : Port) : ({ s with mix := m } : State).port p = s.port p := by cases p <;> rfl

theorem clearClip_port (s : State) (k : Nat) (p : Port) : (clearClip k s).port p = s.port p := withMix_port ..

theorem advance_setBuf (p : Port) (s : State) (b : Fin 2) (x : Buffer) :
    ((received p s).setBuf b x).advance p = ((received p s).setBuf b x).setPort p (entered p s) := by
  rw [advance_eq, setBuf_port, entered]

theorem advance_clearClip (p : Port) (s : State) (k : Nat) :
    (clearClip k (received p s)).advance p = (clearClip k (received p s)).setPort p (entered p s) := by
  rw [advance_eq, clearClip_port, entered]

/-- The outcomes of an ENTER in LIVE (R33, R148, R151, R152). -/
theorem exec_enter_live {p : Port} {ops : List Nat} {s : State} (hready : Ready s p .config) {e0 : Entry} {x : Bool}
    (hf : readForm s (s.port p).cursor ops = some (.entry e0, x)) (hv : (s.port p).cursor.view = .live) :
    let c := (s.port p).cursor
    let r := (received p s).port p
    let st : Status := if x then .clamped else .ok
    let e := mergeKeep p (s.port p).keep c.view e0 s
    ((∃ i, excluded i = true ∧ ∃ v, e = .xpt i v) →
      exec (.enter p ops) s = .next (answered p .enter .excluded c.data ((received p s).setPort p (entered p s))))
    ∧ ((∀ i v, e = .xpt i v → excluded i = false) →
      (s.rg.applyMark.isSome = true → exec (.enter p ops) s = .next (refused p .enter .busy s))
      ∧ (s.rg.applyMark = none → (s.port p).batch = none → e.isCause s.live = false →
        exec (.enter p ops) s = .next (answered p .enter st [] ((received p s).setPort p
          { entered p s with committed := r.committed ++ [{ entries := [e], byCommit := false }] })))
      ∧ (s.rg.applyMark = none → (s.port p).batch = none → e.isCause s.live = true →
        (s.rg.changes.any (fun y => decide (y.port = p)) = true → exec (.enter p ops) s = .next (refused p .enter .busy s))
        ∧ (s.rg.changes.any (fun y => decide (y.port = p)) = false →
          ∃ u, exec (.enter p ops) s = .next (answered p .enter st [] u)
            ∧ u = { (received p s).setPort p (entered p s) with rg := u.rg }
            ∧ u.rg.changes = s.rg.changes ++ [{ port := p, batch := { entries := [e], byCommit := false } }]
            ∧ u.rg.state = .fadingOut ∧ u.rg.map = s.rg.map ∧ u.rg.r = s.rg.r))
      ∧ (∀ ob, s.rg.applyMark = none → (s.port p).batch = some ob →
        ((∀ y ∈ ob.entries, y.key ≠ e.key) → exec (.enter p ops) s = .next (if ob.entries.length < 64
          then answered p .enter st [] ((received p s).setPort p
            { entered p s with batch := some { entries := ob.entries ++ [e], idle := 0 } })
          else refused p .enter .batchFull s))
        ∧ ((∃ y ∈ ob.entries, y.key = e.key) → exec (.enter p ops) s = .next (answered p .enter st []
          ((received p s).setPort p { entered p s with
            batch := some { entries := ob.entries.map fun y => if y.key = e.key then e else y, idle := 0 } }))))) := by
  intro c r st e
  have hbody (a : Reply) (ha : enterEntry p .live e st (received p s) = a) :
      doEnter p ops (s.port p).keep (received p s) = a := by
    refine doEnter_received hf ?_
    dsimp only
    rw [← ha, hv]
    simp only [e, c, hv]
    rfl
  refine ⟨fun hx => exec_enter_refused hready (hbody _ (enterEntry_skipped ((skips_iff e).2 hx))) rfl, fun hx => ?_⟩
  have hskip : e.skips = false := skips_eq_false hx
  have htaken {t : State} (ht : enterLive p e (received p s) = .ok t) :
      exec (.enter p ops) s = .next (answered p .enter st [] (t.advance p)) :=
    exec_enter_taken hready (hbody _ (enterEntry_live hskip ht)) (done_taken x)
  have hrefused {w : Status} (ht : enterLive p e (received p s) = .error w) (hw : w.taken = false) :
      exec (.enter p ops) s = .next (refused p .enter w s) :=
    exec_enter_refused hready (hbody _ (enterEntry_refused hskip ht)) hw
  have hmark (hm : s.rg.applyMark = none) : (received p s).rg.applyMark = none := by rw [received_rg, hm]
  refine ⟨fun hm => hrefused (enterLive_marked (by rw [received_rg, hm])) rfl, fun hm hb hcause => ?_, fun hm hb hcause =>
    ⟨fun hw => ?_, fun hw => ?_⟩, fun ob hm hb => ⟨fun hnew => ?_, fun hold => ?_⟩⟩
  · rw [htaken (enterLive_alone (hmark hm) (received_batch_none hb) (commitBatch_plain (hmark hm)
      (by rw [single_any_cause, received_live, hcause]))), advance_setPort]
    rfl
  · exact hrefused (enterLive_waiting (received_batch_none hb) (commitBatch_waiting
      (by rw [single_any_cause, received_live, hcause]) (by rw [received_rg, hw]))) rfl
  · obtain ⟨t, ht, hframe, hch, hst, hmap, hr⟩ := commitBatch_waits (p := p) (b := { entries := [e], byCommit := false })
      (hmark hm) (by rw [single_any_cause, received_live, hcause]) (by rw [received_rg, hw])
    refine ⟨t.advance p, htaken (enterLive_alone (hmark hm) (received_batch_none hb) ht), ?_, ?_, ?_, ?_, ?_⟩
    · rw [hframe, advance_withRg, advance_received]
    · rw [advance_rg, hch, received_rg]
    · rw [advance_rg, hst]
    · rw [advance_rg, hmap, received_rg]
    · rw [advance_rg, hr, received_rg]
  · split
    · rename_i hl
      rw [htaken (enterLive_joins (hmark hm) (received_batch_some hb) (joinEntries_new hnew hl)), advance_setPort]
      rfl
    · rename_i hl
      exact hrefused (enterLive_full (hmark hm) (received_batch_some hb) (joinEntries_full hnew (Nat.not_lt.1 hl))) rfl
  · rw [htaken (enterLive_joins (hmark hm) (received_batch_some hb) (joinEntries_present hold)), advance_setPort]
    rfl

/-- The state with buffer `b` replaced. -/
def withBuffer (p : Port) (s : State) (b : Fin 2) (x : Buffer) : State :=
  { received p s with scene := { s.scene with bufs := s.scene.bufs.set b.val x } }

theorem withBuffer_spec (p : Port) (s : State) (b : Fin 2) (x : Buffer) :
    let u := withBuffer p s b x
    u = { received p s with scene := u.scene } ∧ u.scene.pages = s.scene.pages ∧ u.scene.job = s.scene.job
      ∧ (∀ d : Fin 2, d ≠ b → u.scene.bufs[d] = s.scene.bufs[d]) ∧ u.scene.bufs[b] = x :=
  ⟨rfl, rfl, rfl, fun d hd => put_other _ b d x hd, put_same _ b x⟩

theorem touch_eq (x : Buffer) (key : TableId × Nat) : x.touch key =
    { x with status := .modified, dirty := if key ∈ x.dirty then x.dirty else x.dirty ++ [key] } := rfl

theorem setBuf_received (p : Port) (s : State) (b : Fin 2) (x : Buffer) : (received p s).setBuf b x = withBuffer p s b x := by
  rw [withBuffer, ← received_scene p s]
  rfl

/-- The outcomes of an ENTER in a buffer (R163), its write being `f`. -/
theorem exec_enter_buffer {p : Port} {ops : List Nat} {s : State} (hready : Ready s p .config) {b : Fin 2} {key : TableId × Nat}
    {skip : Bool} {st : Status} {f : Buffer → Buffer} (hst : st.taken = true)
    (hbody : doEnter p ops (s.port p).keep (received p s) = enterBuffer p b key skip st f (received p s)) :
    let buf := s.scene.bufs[b]
    (buf.lock ≠ .free → exec (.enter p ops) s = .next (refused p .enter .bufferBusy s))
    ∧ (buf.lock = .free → buf.status = .empty → exec (.enter p ops) s = .next (refused p .enter .emptyBuffer s))
    ∧ (buf.lock = .free → buf.status ≠ .empty → skip = true →
        exec (.enter p ops) s = .next (answered p .enter .excluded (s.port p).cursor.data ((received p s).setPort p (entered p s))))
    ∧ (buf.lock = .free → buf.status ≠ .empty → skip = false →
        exec (.enter p ops) s = .next (answered p .enter st []
          ((withBuffer p s b ((f buf).touch key)).setPort p (entered p s)))) := by
  intro buf
  have hbuf : (received p s).scene.bufs[b] = buf := by rw [received_scene]
  refine ⟨fun hl => ?_, fun hl he => ?_, fun hl he hs => ?_, fun hl he hs => ?_⟩
  · exact exec_enter_refused hready (hbody.trans (enterBuffer_locked (hbuf ▸ hl))) rfl
  · exact exec_enter_refused hready (hbody.trans (enterBuffer_empty (hbuf ▸ hl) (hbuf ▸ he))) rfl
  · subst hs
    exact exec_enter_refused hready (hbody.trans (enterBuffer_skipped (hbuf ▸ hl) (hbuf ▸ he))) rfl
  · subst hs
    rw [exec_enter_taken hready (hbody.trans (enterBuffer_written (hbuf ▸ hl) (hbuf ▸ he))) hst, advance_setBuf, setBuf_received, hbuf]

theorem readForm_meters (k : Nat) (s : State) (v : View) (ops : List Nat) :
    readForm s { table := .meters, view := v, index := k } ops = match ops with | [_, n] => some (.clip n, false) | _ => none := by
  unfold readForm readMeter
  rcases ops with _ | ⟨_, _ | ⟨_, _ | _⟩⟩ <;> rfl

/-- Settles O50: the forms by the `read…` laws, then the outcomes in LIVE (`exec_enter_live`) and in a buffer (`exec_enter_buffer`). -/
theorem enterByTheEntryAtTheCursor : Obligations.EnterByTheEntryAtTheCursor := by
  unfold Obligations.EnterByTheEntryAtTheCursor
  refine ⟨?_, ?_⟩
  · intro s v ops form clamp off
    have hclamp {lo hi : Nat} (h : lo ≤ hi) (n : Nat) : clampTo lo hi n = clamp lo hi n := clampTo_eq h n
    refine ⟨fun i => ⟨?_, fun h => ?_⟩, fun i => ⟨fun h => ?_, fun h => ?_, ?_, ?_, ?_⟩, fun i => ⟨fun h => ?_, ?_⟩,
      fun g => ⟨fun h => ?_, ?_⟩, fun w => ⟨fun h => ?_, ?_⟩, ?_, ?_, fun k _ => readForm_meters k s v ops, fun t k ht hm hk => ?_⟩
    · rintro x rfl
      exact (readForm_crosspoint s v _ i).trans (readXpt_one i x)
    · exact (readForm_crosspoint s v ops i).trans (readXpt_length h)
    · exact (readForm_source s v ops i).trans (readSource_length h)
    · exact (readForm_bus s v ops i).trans (readBus_length h)
    · rintro x q c hi rfl
      exact (readForm_source s v _ i).trans (readSource_mic hi x q c)
    · rintro x q hi rfl
      exact (readForm_source s v _ i).trans (readSource_other hi x q)
    · rintro x q rfl
      exact (readForm_bus s v _ i).trans (readBus_two i x q)
    · exact (readForm_sect s v ops i).trans (readSection_length h)
    · rintro mode limit thr ratio hold level code last speak auto policy life speech lead act x y rfl
      refine ⟨fun ⟨hm, hl, ha, hp, hx⟩ => ?_, fun h => (readForm_sect s v _ i).trans (readSection_unnamed _ _ _ _ _ _ _ _ _ _ _ _ _ _ _ _ _ _ h)⟩
      refine (readForm_sect s v _ i).trans ((readSection_named i mode limit thr ratio hold level code last speak auto policy life
        speech lead act x y hm hl ha hp hx).trans ?_)
      simp only [hclamp (show 1 ≤ 8 by decide), hclamp (show 16 ≤ 255 by decide), hclamp (Nat.zero_le _)]
      rfl
    · exact (readForm_group s v ops g).trans (readGroup_length h)
    · rintro n x rfl
      exact (readForm_group s v _ g).trans (readGroup_two g n x)
    · exact (readForm_wall s v ops w).trans (readWall_length h)
    · rintro o x y z rfl
      exact (readForm_wall s v _ w).trans (readWall_four w o x y z)
    · rintro rfl
      refine ⟨fun h => readDevice_live_length h, ?_⟩
      rintro m b rfl
      exact readDevice_live s m b
    · rintro d m b l0 l1 l2 l3 rfl label
      refine ⟨fun h6 h13 => readDevice_buffer_length h6 h13, ?_, ?_⟩
      · rintro rfl
        exact readDevice_short m b l0 l1 l2 l3
      · rintro pa pb rate echo follow auto up rfl
        refine ⟨fun h => readDevice_ignored m b l0 l1 l2 l3 pa pb rate echo follow auto up h, fun h => ?_⟩
        refine (readDevice_record m b l0 l1 l2 l3 pa pb rate echo follow auto up h).trans ?_
        rw [readPowerOn_eq]
        cases profileOf pa with
        | none => rfl
        | some a =>
        cases profileOf pb with
        | none => rfl
        | some b' =>
        cases rateOf rate with
        | none => rfl
        | some r =>
        dsimp only
        split <;> rfl
    · exact readForm_status s v ops ht hm hk
  · intro p ops s hready c r next st kept
    have hnext : entered p s = next := entered_eq p s
    refine ⟨fun hf => ?_, fun x hf => ?_, fun n x hf => ⟨fun hn => ?_, fun hn => ?_⟩, fun e0 x hf hv => ?_, fun e0 x b hf hv => ?_,
      fun m n record label x b hf hv => ?_⟩
    · exact exec_enter_refused hready (by rw [doEnter, received_cursor, readForm_received, hf]) rfl
    · rw [← hnext]
      exact exec_enter_refused hready (doEnter_received hf rfl) rfl
    · rw [← hnext]
      exact exec_enter_refused hready (doEnter_received hf (if_neg hn)) rfl
    · refine ⟨clearClip c.index (received p s), ?_, rfl, ?_, fun i => ?_, fun b => ?_⟩
      · rw [← hnext, ← advance_clearClip]
        exact exec_enter_taken hready (doEnter_received hf (if_pos hn)) rfl
      · simp only [clearClip, received_mix]
      · simp only [clearClip, tab_get, received_mix, eq_comm]
      · simp only [clearClip, tab_get, received_mix, eq_comm]
    · rw [← hnext]
      exact exec_enter_live hready hf hv
    · have hbody : doEnter p ops (s.port p).keep (received p s) =
          enterBuffer p b (kept e0).key (kept e0).skips (st x) (fun y => { y with image := y.image.write (kept e0) }) (received p s) := by
        refine doEnter_received hf ?_
        simp only [hv, kept, c]
        rfl
      obtain ⟨h1, h2, h3, h4⟩ := exec_enter_buffer hready (done_taken x) hbody
      refine ⟨h1, h2, fun hl he ⟨i, w, hx, hex⟩ => hnext ▸ h3 hl he ((skips_iff _).2 ⟨i, hex, w, hx⟩), fun hl he hx => ?_⟩
      obtain ⟨hu, hpages, hjob, hothers, hat⟩ := withBuffer_spec p s b
        ({ s.scene.bufs[b] with image := (s.scene.bufs[b]).image.write (kept e0) }.touch (kept e0).key)
      exact ⟨_, hnext ▸ h4 hl he (skips_eq_false hx), hu, hpages, hjob, hothers, hat.trans (touch_eq _ _)⟩
    · have hbody : doEnter p ops (s.port p).keep (received p s) =
          enterBuffer p b (.device, 0) false (st x) (writeDevice m n record label) (received p s) := by
        refine doEnter_received hf ?_
        simp only [hv, c]
        rfl
      obtain ⟨h1, h2, -, h4⟩ := exec_enter_buffer hready (done_taken x) hbody
      refine ⟨h1, h2, fun hl he => ⟨_, hnext ▸ h4 hl he rfl, ?_⟩⟩
      cases record <;> rfl

end Sys2Proof.Machine
end

section
/-! SUPPORT. The parts of a boundary, one by one: what each leaves of the partition unit, the mix engine and the scenes, and which
notices of a regroup it posts (R18, R29, R31, R33). -/

namespace Sys2Proof.Machine
open Host

/-! ## Notices of a regroup -/

/-- A notice that only the partition unit posts: WALL, REGROUP DONE, SCENE APPLIED (R18, R29, R31, R33). -/
def Notice.ofRegroup : Notice → Bool
  | .wall _ _ _ _ => true
  | .regroupDone _ _ => true
  | .scene .applied _ _ => true
  | _ => false

/-- Every notice posted up to here stands in the queue, or the overflow flag was set before. -/
def PortRec.Room (r : PortRec) : Prop := r.overflow = false ∨ r.queue.length < 32

/-- From `r` to `r'` a port's queue took notices; as far as there was room for them they stand at its end, those of a regroup
being `l`. -/
def PortRec.Took (l : List Notice) (r r' : PortRec) : Prop :=
  r'.Room → r.Room ∧ ∃ ns, r'.queue = r.queue ++ ns ∧ ns.filter Notice.ofRegroup = l

theorem PortRec.Took.of_eq {r r' : PortRec} (hq : r'.queue = r.queue) (ho : r'.overflow = r.overflow) : r.Took [] r' := by
  intro h
  rw [PortRec.Room, hq, ho] at h
  exact ⟨h, [], by rw [hq, List.append_nil], rfl⟩

theorem PortRec.Took.trans {l l' : List Notice} {r r' r'' : PortRec} (h : r.Took l r') (k : r'.Took l' r'') :
    r.Took (l ++ l') r'' := fun room => by
  obtain ⟨room', ms, hm, hms⟩ := k room
  obtain ⟨room'', ns, hn, hns⟩ := h room'
  exact ⟨room'', ns ++ ms, by rw [hm, hn, List.append_assoc], by rw [List.filter_append, hns, hms]⟩

theorem postAll_took (r : PortRec) (ns : List Notice) : r.Took (ns.filter Notice.ofRegroup) (r.postAll ns) := by
  intro room
  obtain ⟨hq, ho⟩ := postAll_spec r ns
  have hcap : Config.queueCap = 32 := rfl
  have hfit : ns.length ≤ Config.queueCap - r.queue.length := by
    rcases room with room | room
    · rw [ho, Bool.or_eq_false_iff, decide_eq_false_iff_not, Nat.not_lt] at room
      exact room.2
    · rw [hq, List.length_append, List.length_take] at room
      omega
  rw [List.take_of_length_le hfit] at hq
  refine ⟨?_, ns, hq, rfl⟩
  rcases room with room | room
  · rw [ho, Bool.or_eq_false_iff] at room
    exact .inl room.1
  · rw [hq, List.length_append] at room
    exact .inr (by omega)

/-- Both queues took notices, those of a regroup being `l`. -/
def Told (l : List Notice) (s t : State) : Prop := ∀ p : Port, (s.port p).Took l (t.port p)

theorem Told.trans {l l' : List Notice} {s t u : State} (h : Told l s t) (k : Told l' t u) : Told (l ++ l') s u :=
  fun p => (h p).trans (k p)

theorem Told.of_ports {s t : State} (h : ∀ p, t.port p = s.port p) : Told [] s t :=
  fun p => .of_eq (by rw [h]) (by rw [h])

theorem Told.postAll {s t : State} {ns l : List Notice} (h : ∀ p, t.port p = (s.port p).postAll ns)
    (hl : ns.filter Notice.ofRegroup = l) : Told l s t := fun p => by
  rw [h, ← hl]
  exact postAll_took _ _

/-! ## What the work outside the partition unit leaves -/

/-- From `s` to `t` the partition unit, the mix engine's records, the scenes and the quiet and group flags stand as they were, and no
notice of a regroup was posted. -/
structure UnitStill (s t : State) : Prop where
  held : t.held = s.held
  mix : t.mix = s.mix
  scene : t.scene = s.scene
  walls : t.walls = s.walls
  rg : t.rg = s.rg
  quiet : t.mute.quiet = s.mute.quiet
  groups : t.mute.groupMuted = s.mute.groupMuted
  told : Told [] s t

theorem UnitStill.refl (s : State) : UnitStill s s := ⟨rfl, rfl, rfl, rfl, rfl, rfl, rfl, .of_ports fun _ => rfl⟩

theorem UnitStill.trans {s t u : State} (h : UnitStill s t) (k : UnitStill t u) : UnitStill s u :=
  ⟨k.held.trans h.held, k.mix.trans h.mix, k.scene.trans h.scene, k.walls.trans h.walls, k.rg.trans h.rg,
    k.quiet.trans h.quiet, k.groups.trans h.groups, h.told.trans k.told⟩

theorem UnitStill.foldl {α : Type} {f : State → α → State} (h : ∀ s x, UnitStill s (f s x)) (l : List α) (s : State) :
    UnitStill s (l.foldl f s) := by
  induction l generalizing s with
  | nil => exact .refl s
  | cons x l ih => exact (h s x).trans (ih (f s x))

theorem UnitStill.ite {s t u : State} {c : Prop} [Decidable c] (h : UnitStill s t) (k : UnitStill s u) :
    UnitStill s (if c then t else u) := by split <;> assumption

theorem post_still (s : State) {ns : List Notice} (h : ns.filter Notice.ofRegroup = []) : UnitStill s (s.post ns) :=
  ⟨rfl, rfl, rfl, rfl, rfl, rfl, rfl, .postAll (fun p => post_port s ns p) h⟩

/-- Notices made by a constructor of another unit. -/
theorem filter_ofRegroup_map {α : Type} (l : List α) (g : α → Notice) (h : ∀ x, (g x).ofRegroup = false) :
    (l.map g).filter Notice.ofRegroup = [] := by
  simp [List.filter_eq_nil_iff, h]

/-- A port's record replaced by one that took notices of other units. -/
theorem setPort_still {s : State} {p : Port} {r : PortRec} (h : (s.port p).Took [] r) : UnitStill s (s.setPort p r) := by
  refine ⟨by simp, by simp, by simp, by simp, by simp, by simp, by simp, fun q => ?_⟩
  by_cases hq : q = p
  · subst hq
    rw [setPort_port]
    exact h
  · rw [setPort_other s p q r hq]
    exact .of_eq rfl rfl

theorem postTo_still (s : State) (p : Port) {n : Notice} (h : n.ofRegroup = false) : UnitStill s (s.postTo p n) := by
  have took := postAll_took (s.port p) [n]
  rw [List.filter_singleton, h] at took
  exact setPort_still took

/-! ## Floor records and hold sets -/

theorem removeMic_others (p : Fin 4) (r : FloorRec) (m : Fin 16) : (FloorRec.removeMic p r m).2.filter Notice.ofRegroup = [] := by
  rw [FloorRec.removeMic, List.filter_append, filter_ofRegroup_map _ _ fun _ => rfl, filter_ofRegroup_map _ _ fun _ => rfl]
  rfl

theorem holdsNotices_others (before s : State) : (holdsNotices before s).filter Notice.ofRegroup = [] :=
  filter_ofRegroup_map _ _ fun _ => rfl

theorem askNotices_others (l : List (Fin 16)) (cause : AskCause) :
    (l.map fun m => Notice.unmute m false cause).filter Notice.ofRegroup = [] := filter_ofRegroup_map _ _ fun _ => rfl

theorem settleHolds_still (before s : State) : UnitStill s (settleHolds before s) := by
  obtain ⟨-, -, hgroups, hquiet, -⟩ := settleHolds_spec before s
  refine ⟨by simp, by simp, by simp, by simp, by simp, hquiet, hgroups, .postAll (fun p => ?_)
    (?_ : (holdsNotices before s ++ (mics.filter (askEnds before s)).map fun m => Notice.unmute m false .cleared).filter _ = [])⟩
  · rw [settleHolds, retarget_port, followHolds, clearAsks_port, post_port, closeHeld_port, postAll_append]
  · rw [List.filter_append, holdsNotices_others, askNotices_others]
    rfl

theorem setFloor_still (p : Fin 4) {c : FloorChange} (s : State) (h : c.2.filter Notice.ofRegroup = []) :
    UnitStill s (setFloor p c s) :=
  ⟨by simp, by simp, by simp, by simp, by simp, by simp, by simp, .postAll (fun q => setFloor_port ..) h⟩

/-! ## The links' events (R127 to R137) -/

/-- What each of a link's single events keeps, all of them at a boundary keep. -/
theorem linkBoundary_induction {P : State → State → Prop} (refl : ∀ s, P s s) (trans : ∀ {s t u}, P s t → P t u → P s u)
    (hset : ∀ i l s, P s (State.setLink s i l)) (hpost : ∀ s i cause, P s (s.post [.dozeRefused i cause]))
    (hmove : ∀ i l cause code f clears removes s, P s (moveLink i l cause code f clears removes s)) (s : State) (i : Fin 16) :
    P s (linkBoundary s i) := by
  have hauto (s : State) : P s (autoUpBoundary i s) := by
    simp only [autoUpBoundary]
    split_ifs
    · exact hset ..
    · exact hmove ..
    · exact hset ..
    · exact refl s
  have hjudge (s : State) : P s (judgeFrame i s) := by
    simp only [judgeFrame]
    split_ifs
    · exact refl s
    · exact hset ..
    · exact hset ..
    · exact trans (hset ..) (hmove ..)
    · exact hset ..
    · exact refl s
  have hdoze (s : State) : P s (dozeExpiry i s) := by
    unfold dozeExpiry
    split_ifs
    · exact trans (hset ..) (hpost ..)
    · exact refl s
  have hdetach (s : State) : P s (detachExpiry i s) := by
    unfold detachExpiry
    split_ifs
    · exact hmove ..
    · exact refl s
  have hattempt (s : State) : P s (attemptExpiry i s) := by
    simp only [attemptExpiry, failAttempt]
    split_ifs
    · exact trans (hset ..) (hmove ..)
    · exact hset ..
    · exact refl s
  have hend (before : LinkRec) (s : State) : P s (residencyBoundary before i s) := by
    simp only [residencyBoundary]
    split_ifs
    · exact hmove ..
    · exact refl s
  rw [linkBoundary, linkTimeouts_eq]
  exact trans (hset ..) (trans (hauto _) (trans (hjudge _) (trans (hdoze _) (trans (hdetach _) (trans (hattempt _) (hend _ _))))))

theorem moveNotices_others (i : Fin 16) (l : LinkRec) (cause : LinkCause) (code : Option Byte) (f : MuteRec → MuteRec)
    (clears removes : Bool) (s : State) : (moveNotices i l cause code f clears removes s).filter Notice.ofRegroup = [] := by
  simp only [moveNotices, List.filter_append, holdsNotices_others, askNotices_others, List.append_nil]
  cases removes
  · rfl
  · exact removeMic_others ..

theorem moveLink_still (i : Fin 16) (l : LinkRec) (cause : LinkCause) (code : Option Byte) (f : MuteRec → MuteRec)
    (clears removes : Bool) (s : State) : UnitStill s (moveLink i l cause code f clears removes s) := by
  refine ⟨?_, ?_, ?_, ?_, (moveLink_only ..).2.2.2, ?_, ?_, .postAll (fun p => moveLink_port ..) (moveNotices_others ..)⟩ <;>
    cases clears <;> cases removes <;> simp [moveLink, afterLinkChange, clearAsks_quiet, clearAsks_groupMuted, State.withRecs]

theorem moveLink_ahead (i : Fin 16) (l : LinkRec) (cause : LinkCause) (code : Option Byte) (f : MuteRec → MuteRec)
    (clears removes : Bool) (s : State) : (moveLink i l cause code f clears removes s).ahead = s.ahead := by
  cases clears <;> cases removes <;> simp [moveLink, afterLinkChange]

theorem linkBoundary_unit (s : State) (i : Fin 16) : UnitStill s (linkBoundary s i) :=
  linkBoundary_induction .refl .trans (fun _ _ _ => ⟨rfl, rfl, rfl, rfl, rfl, rfl, rfl, .of_ports fun _ => setLink_port ..⟩)
    (fun s _ _ => post_still s rfl) moveLink_still s i

theorem linkBoundary_ahead (s : State) (i : Fin 16) : (linkBoundary s i).ahead = s.ahead :=
  linkBoundary_induction (P := fun s t => t.ahead = s.ahead) (fun _ => rfl) (fun h k => k.trans h) (fun _ _ _ => rfl)
    (fun _ _ _ => rfl) moveLink_ahead s i

/-! ## Gates, floor, idle batches, committed batches (R92, R115, R152, R153) -/

theorem floorPiece_others (p : Fin 4) (cfg : SectionRec) (r : FloorRec) :
    (floorPiece p cfg r).2.filter Notice.ofRegroup = [] := by
  have hqueue (r : FloorRec) : (queueStage p cfg r).2.filter Notice.ofRegroup = [] := filter_ofRegroup_map _ _ fun _ => rfl
  have hexp (g : GrantEntry) : (expiryNotices p cfg g).filter Notice.ofRegroup = [] := by
    unfold expiryNotices; split_ifs <;> rfl
  have hgrant (r : FloorRec) : (grantStage p cfg r).2.filter Notice.ofRegroup = [] := by
    have hwarn (l : List GrantEntry) :
        (l.map fun g => Notice.speechWarn p g.mic cfg.speechLimit).filter Notice.ofRegroup = [] :=
      filter_ofRegroup_map _ _ fun _ => rfl
    simp only [grantStage, List.filter_append, hwarn, List.filter_flatMap, hexp, List.nil_append]
    simp
  have hfill (r : FloorRec) : (fillStage p cfg r).2.filter Notice.ofRegroup = [] := by
    unfold fillStage
    split
    · exact filter_ofRegroup_map _ _ fun _ => rfl
    · rfl
  simp only [floorPiece, List.filter_append, hqueue, hgrant, hfill, List.append_nil]

theorem floorWork_still (s : State) (p : Fin 4) : UnitStill s (floorWork s p) :=
  .ite (setFloor_still p s (floorPiece_others ..)) (.refl s)

theorem takePieces_still (s : State) : UnitStill s (takePieces s) := by
  have hwork (u : State) (v : Vector Bool 4) : UnitStill u (u.withWorked v) :=
    ⟨rfl, rfl, rfl, rfl, rfl, rfl, rfl, .of_ports fun _ => withWorked_port ..⟩
  exact (UnitStill.foldl floorWork_still slots s).trans (hwork _ _)

theorem gateEvaluation_port (s : State) (p : Fin 4) (q : Port) : (gateEvaluation s p).port q = s.port q := by
  cases q
  · exact gateEvaluation_portA s p
  · exact gateEvaluation_portB s p

theorem gateEvaluation_still (s : State) (p : Fin 4) : UnitStill s (gateEvaluation s p) where
  held := gateEvaluation_held ..
  mix := gateEvaluation_mix ..
  scene := gateEvaluation_scene ..
  walls := gateEvaluation_walls ..
  rg := gateEvaluation_rg ..
  quiet := by rw [gateEvaluation_mute]
  groups := by rw [gateEvaluation_mute]
  told := .of_ports fun _ => gateEvaluation_port ..

theorem boundaryDecisions_unit (s : State) : UnitStill s (boundaryDecisions s) :=
  (UnitStill.foldl gateEvaluation_still slots s).trans (takePieces_still _)

/-- The decisions of a boundary leave the counts that evaluations taken ahead handed over, and every slot's floor work taken. -/
theorem boundaryDecisions_ahead (s : State) :
    (boundaryDecisions s).ahead.counts = s.ahead.counts ∧ (boundaryDecisions s).ahead.floors = same 4 true := by
  have hcounts (s : State) (p : Fin 4) : (floorWork s p).ahead.counts = s.ahead.counts := by
    unfold floorWork
    split <;> simp
  refine ⟨?_, rfl⟩
  simp only [boundaryDecisions, takePieces, State.withWorked, slots_eq, List.foldl_cons, List.foldl_nil, hcounts,
    gateEvaluation_ahead]

theorem idleBoundary_still (p : Port) (s : State) : UnitStill s (idleBoundary p s) ∧ (idleBoundary p s).ahead = s.ahead := by
  have htook (s : State) (b : Option OpenBatch) : UnitStill s (s.setPort p { s.port p with batch := b }) :=
    setPort_still (.of_eq rfl rfl)
  unfold idleBoundary
  split
  · split
    · exact ⟨(htook s _).trans (postTo_still _ p rfl), by simp [abandonBatch]⟩
    · exact ⟨htook s _, by simp⟩
  · exact ⟨.refl s, rfl⟩

theorem clearAll_others (p : Fin 4) (r : FloorRec) : (FloorRec.clearAll p r).2.filter Notice.ofRegroup = [] := by
  rw [FloorRec.clearAll, List.filter_append, filter_ofRegroup_map _ _ fun _ => rfl, filter_ofRegroup_map _ _ fun _ => rfl]
  rfl

theorem removeMics_others (p : Fin 4) (l : List (Fin 16)) (r : FloorRec) :
    (removeMics p l r).2.filter Notice.ofRegroup = [] := by
  have general (c : FloorChange) (hc : c.2.filter Notice.ofRegroup = []) :
      (l.foldl (fun c m => let d := FloorRec.removeMic p c.1 m; (d.1, c.2 ++ d.2)) c).2.filter Notice.ofRegroup = [] := by
    induction l generalizing c with
    | nil => exact hc
    | cons m l ih => exact ih _ (by rw [List.filter_append, hc, removeMic_others]; rfl)
  exact general _ rfl

theorem floorAfterWrite_others (before s : State) (p : Fin 4) :
    (floorAfterWrite before s p).2.filter Notice.ofRegroup = [] := by
  simp only [floorAfterWrite, List.filter_append, removeMics_others, List.nil_append]
  split
  · exact clearAll_others ..
  · exact filter_ofRegroup_map _ _ fun _ => rfl

theorem floorsAfterWrite_still (before : State) (test : Fin 4 → Bool) (s : State) :
    UnitStill s (floorsAfterWrite before test s) := by
  unfold floorsAfterWrite
  refine UnitStill.foldl (fun t p => ?_) slots s
  split
  · have hset : UnitStill t { t with floors := put t.floors p (floorAfterWrite before s p).1 } :=
      ⟨rfl, rfl, rfl, rfl, rfl, rfl, rfl, .of_ports fun q => by cases q <;> rfl⟩
    exact hset.trans (post_still _ (floorAfterWrite_others before s p))
  · exact .refl t

theorem floorsAfterWrite_live (before : State) (test : Fin 4 → Bool) (s : State) :
    (floorsAfterWrite before test s).live = s.live ∧ (floorsAfterWrite before test s).ahead = s.ahead
    ∧ ∀ p, ((floorsAfterWrite before test s).port p).committed = (s.port p).committed := by
  have general (l : List (Fin 4)) (t : State) (f : State → Fin 4 → State)
      (h : ∀ t p, (f t p).live = t.live ∧ (f t p).ahead = t.ahead ∧ ∀ q, ((f t p).port q).committed = (t.port q).committed) :
      (l.foldl f t).live = t.live ∧ (l.foldl f t).ahead = t.ahead
      ∧ ∀ q, ((l.foldl f t).port q).committed = (t.port q).committed := by
    induction l generalizing t with
    | nil => exact ⟨rfl, rfl, fun _ => rfl⟩
    | cons p l ih =>
      obtain ⟨h1, h2, h3⟩ := h t p
      obtain ⟨k1, k2, k3⟩ := ih (f t p)
      exact ⟨k1.trans h1, k2.trans h2, fun q => (k3 q).trans (h3 q)⟩
  refine general slots s _ fun t p => ?_
  split
  · refine ⟨rfl, rfl, fun q => ?_⟩
    rw [post_port, postAll_committed]
    cases q <;> rfl
  · exact ⟨rfl, rfl, fun _ => rfl⟩

theorem settleHolds_committed (before s : State) (p : Port) : ((settleHolds before s).port p).committed = (s.port p).committed := by
  rw [settleHolds, retarget_port, followHolds, clearAsks_port, post_port, closeHeld_port, postAll_append, postAll_committed]

theorem placeLive_still (img : Image) (s : State) : UnitStill s (placeLive img s) := by
  simp only [placeLive]
  refine .trans ?_ (settleHolds_still s _)
  refine .trans ?_ (floorsAfterWrite_still ..)
  exact ⟨rfl, rfl, rfl, rfl, rfl, rfl, rfl, .of_ports fun q => by cases q <;> rfl⟩

theorem placeLive_live (img : Image) (s : State) : (placeLive img s).live = img
    ∧ (placeLive img s).ahead.floors = s.ahead.floors ∧ ∀ p, ((placeLive img s).port p).committed = (s.port p).committed := by
  simp only [placeLive]
  obtain ⟨hl, ha, hc⟩ := floorsAfterWrite_live s (isLead s.rg.map) (gatesAfterWrite s { s with live := img })
  refine ⟨by rw [settleHolds_live, hl]; rfl, by rw [settleHolds_ahead, ha]; rfl, fun p => ?_⟩
  rw [settleHolds_committed, hc]
  cases p <;> rfl

theorem applyBatch_still (p : Port) (b : Batch) (s : State) : UnitStill s (applyBatch p b s) := by
  simp only [applyBatch]
  split
  · exact (placeLive_still ..).trans (postTo_still _ p rfl)
  · exact placeLive_still ..

theorem applyBatch_live (p : Port) (b : Batch) (s : State) : (applyBatch p b s).live = s.live.writeAll b.entries
    ∧ (applyBatch p b s).ahead.floors = s.ahead.floors ∧ ∀ q, ((applyBatch p b s).port q).committed = (s.port q).committed := by
  obtain ⟨hl, ha, hc⟩ := placeLive_live (s.live.writeAll b.entries) s
  simp only [applyBatch]
  split
  · refine ⟨by rw [postTo_live, hl], by rw [postTo_ahead, ha], fun q => ?_⟩
    rw [(postTo_holds _ p _).committed, hc]
  · exact ⟨hl, ha, hc⟩

theorem applyCommitted_still (p : Port) (s : State) : UnitStill s (applyCommitted p s) := by
  simp only [applyCommitted]
  have hset : UnitStill s (s.setPort p { s.port p with committed := [] }) := setPort_still (.of_eq rfl rfl)
  exact hset.trans (UnitStill.foldl (fun t b => applyBatch_still p b t) _ _)

/-- A port's committed list, applied: its entries written in order, and its list empty (R152). -/
theorem applyCommitted_live (p : Port) (s : State) :
    (applyCommitted p s).live = s.live.writeAll ((s.port p).committed.flatMap (·.entries))
    ∧ (applyCommitted p s).ahead.floors = s.ahead.floors ∧ ((applyCommitted p s).port p).committed = []
    ∧ ∀ q, q ≠ p → ((applyCommitted p s).port q).committed = (s.port q).committed := by
  have general (l : List Batch) (t : State) : (l.foldl (fun t b => applyBatch p b t) t).live
        = t.live.writeAll (l.flatMap (·.entries))
      ∧ (l.foldl (fun t b => applyBatch p b t) t).ahead.floors = t.ahead.floors
      ∧ ∀ q, ((l.foldl (fun t b => applyBatch p b t) t).port q).committed = (t.port q).committed := by
    induction l generalizing t with
    | nil => exact ⟨rfl, rfl, fun _ => rfl⟩
    | cons b l ih =>
      obtain ⟨hl, ha, hc⟩ := applyBatch_live p b t
      obtain ⟨kl, ka, kc⟩ := ih (applyBatch p b t)
      refine ⟨?_, ka.trans ha, fun q => (kc q).trans (hc q)⟩
      rw [List.foldl_cons, kl, hl, List.flatMap_cons, Image.writeAll, Image.writeAll, Image.writeAll, List.foldl_append]
  obtain ⟨hl, ha, hc⟩ := general (s.port p).committed (s.setPort p { s.port p with committed := [] })
  simp only [applyCommitted]
  refine ⟨by rw [hl, setPort_live], by rw [ha, setPort_ahead], by rw [hc, setPort_port], fun q hq => ?_⟩
  rw [hc, setPort_other s p q _ hq]

end Sys2Proof.Machine
end

section
/-! SUPPORT. The wall samples of a boundary (R18, R19). -/

namespace Sys2Proof.Machine
open Host

/-- A wall's record replaced. -/
def State.setWall (s : State) (w : Fin 3) (r : WallRec) : State := { s with walls := put s.walls w r }

theorem setWall_same (s : State) (w : Fin 3) (r : WallRec) : (s.setWall w r).walls[w] = r := put_same ..

theorem setWall_other (s : State) {w x : Fin 3} (r : WallRec) (h : x ≠ w) : (s.setWall w r).walls[x] = s.walls[x] :=
  put_other _ _ _ _ h

theorem setWall_port (s : State) (w : Fin 3) (r : WallRec) (p : Port) : (s.setWall w r).port p = s.port p := by cases p <;> rfl

/-- The sample of wall `w` changes its sensed state (R18). -/
abbrev WallFlips (sense : Sense) (s : State) (w : Fin 3) : Prop :=
  levelWall sense[w] ≠ (s.walls[w]).sensed ∧ 49 ≤ (s.walls[w]).count

/-- The effective state that the sample then gives it (R19). -/
def sampledEffective (sense : Sense) (s : State) (w : Fin 3) : WallState := effectiveOf s.live.wall[w] (levelWall sense[w])

/-- Its record then. -/
def flipRec (sense : Sense) (s : State) (w : Fin 3) : WallRec :=
  { sensed := levelWall sense[w], count := 0, effective := sampledEffective sense s w }

/-- Its WALL notice then. -/
def flipNotice (sense : Sense) (s : State) (w : Fin 3) : Notice :=
  .wall w (levelWall sense[w]) s.live.wall[w] (sampledEffective sense s w)

/-! ## One sample -/

section
variable {sense : Sense} {w : Fin 3} {u : State}

theorem sampleWall_steady (h : levelWall sense[w] = (u.walls[w]).sensed) :
    sampleWall sense u w = u.setWall w { u.walls[w] with count := 0 } := if_pos h

theorem sampleWall_counts (h : levelWall sense[w] ≠ (u.walls[w]).sensed) (hc : (u.walls[w]).count < 49) :
    sampleWall sense u w = u.setWall w { u.walls[w] with count := (u.walls[w]).count + 1 } := (if_neg h).trans (if_pos hc)

theorem sampleWall_flips (h : WallFlips sense u w) : sampleWall sense u w =
    if sampledEffective sense u w = (u.walls[w]).effective then (u.setWall w (flipRec sense u w)).post [flipNotice sense u w]
    else regroupCause true ((u.setWall w (flipRec sense u w)).post [flipNotice sense u w]) := by
  refine ((if_neg h.1).trans (if_neg (Nat.not_lt.2 h.2))).trans ?_
  have hnotice : (u.setWall w (flipRec sense u w)).wallNotice w = flipNotice sense u w := by
    rw [State.wallNotice, setWall_same]
    rfl
  rw [← hnotice]
  rfl

/-- The three outcomes of a sample. -/
theorem wallSample_cases (sense : Sense) (u : State) (w : Fin 3) :
    levelWall sense[w] = (u.walls[w]).sensed ∨ (levelWall sense[w] ≠ (u.walls[w]).sensed ∧ (u.walls[w]).count < 49)
    ∨ WallFlips sense u w := by
  by_cases h : levelWall sense[w] = (u.walls[w]).sensed
  · exact .inl h
  · exact .inr ((Nat.lt_or_ge (u.walls[w]).count 49).imp (⟨h, ·⟩) (⟨h, ·⟩))

/-- What a wall's sample leaves of the other walls and units (R18). -/
theorem sampleWall_only (sense : Sense) (u : State) (w : Fin 3) :
    (∀ x, x ≠ w → (sampleWall sense u w).walls[x] = u.walls[x])
    ∧ ((sampleWall sense u w).held = u.held ∧ (sampleWall sense u w).mix = u.mix ∧ (sampleWall sense u w).scene = u.scene
      ∧ (sampleWall sense u w).ahead = u.ahead) := by
  rcases wallSample_cases sense u w with h | h | h
  · rw [sampleWall_steady h]
    exact ⟨fun x hx => setWall_other _ _ hx, rfl, rfl, rfl, rfl⟩
  · rw [sampleWall_counts h.1 h.2]
    exact ⟨fun x hx => setWall_other _ _ hx, rfl, rfl, rfl, rfl⟩
  · rw [sampleWall_flips h]
    split
    · exact ⟨fun x hx => setWall_other _ _ hx, rfl, rfl, rfl, rfl⟩
    · refine ⟨fun x hx => ?_, by simp [State.setWall], by simp [State.setWall], by simp [State.setWall], by simp [State.setWall]⟩
      exact (congrArg (·[x]) (regroupCause_walls ..)).trans (setWall_other _ _ hx)

/-- The notice of a wall's sample (R18). -/
theorem sampleWall_told (sense : Sense) (u : State) (w : Fin 3) :
    Told (if WallFlips sense u w then [flipNotice sense u w] else []) u (sampleWall sense u w) := by
  rcases wallSample_cases sense u w with h | h | h
  · rw [if_neg fun hf => hf.1 h, sampleWall_steady h]
    exact .of_ports fun p => setWall_port ..
  · rw [if_neg fun hf => Nat.not_lt.2 hf.2 h.2, sampleWall_counts h.1 h.2]
    exact .of_ports fun p => setWall_port ..
  · have hport (p : Port) : (sampleWall sense u w).port p = (u.port p).postAll [flipNotice sense u w] := by
      have hcause (t : State) : (regroupCause true t).port p = t.port p := by
        cases p
        · exact regroupCause_portA true t
        · exact regroupCause_portB true t
      rw [sampleWall_flips h]
      split
      · rw [post_port, setWall_port]
      · rw [hcause, post_port, setWall_port]
    rw [if_pos h]
    exact .postAll hport rfl

end

/-! ## The samples as `wallsSampled` takes them -/

/-- One sample of `wallsSampled`. -/
def wallStep (sense : Sense) (s v : State) (w : Fin 3) : State :=
  if levelWall sense[w] = (s.walls[w]).sensed then v.setWall w { s.walls[w] with count := 0 }
  else if (s.walls[w]).count < 49 then v.setWall w { s.walls[w] with count := (s.walls[w]).count + 1 }
  else if sampledEffective sense s w = (s.walls[w]).effective then v.setWall w (flipRec sense s w)
  else regroupCause true (v.setWall w (flipRec sense s w))

section
variable {sense : Sense} {s : State} {w : Fin 3}

theorem wallStep_steady (h : levelWall sense[w] = (s.walls[w]).sensed) (v : State) :
    wallStep sense s v w = v.setWall w { s.walls[w] with count := 0 } := if_pos h

theorem wallStep_counts (h : levelWall sense[w] ≠ (s.walls[w]).sensed) (hc : (s.walls[w]).count < 49) (v : State) :
    wallStep sense s v w = v.setWall w { s.walls[w] with count := (s.walls[w]).count + 1 } := (if_neg h).trans (if_pos hc)

theorem wallStep_flips (h : WallFlips sense s w) (v : State) : wallStep sense s v w =
    if sampledEffective sense s w = (s.walls[w]).effective then v.setWall w (flipRec sense s w)
    else regroupCause true (v.setWall w (flipRec sense s w)) := (if_neg h.1).trans (if_neg (Nat.not_lt.2 h.2))

end

theorem wallsSampled_eq (sense : Sense) (s : State) : wallsSampled sense s =
    (List.finRange 3).foldl (wallStep sense s) { s with rg := { s.rg with fresh := s.rg.fresh && s.rg.pre } } := rfl

/-- All that the wall samples read stands alike in `u` and `v`. -/
structure WallsAlike (s u v : State) : Prop where
  rg : u.rg = v.rg
  walls : u.walls = v.walls
  live : u.live = s.live
  live' : v.live = s.live
  scene : u.scene = v.scene

/-- What a cause depends on (R25, R27). -/
theorem regroupCause_rg_congr {u v : State} (timed : Bool) (hr : u.rg = v.rg) (hw : u.walls = v.walls) (hl : u.live = v.live)
    (hs : u.scene = v.scene) : (regroupCause timed u).rg = (regroupCause timed v).rg := by
  have hd : derivePending u = derivePending v := by
    simp only [derivePending, State.pendingImage, State.effectiveWith, hr, hw, hl, hs]
  rw [regroupCause_eq, regroupCause_eq, hd, hr]

section
variable {s u v : State}

theorem WallsAlike.setWall (h : WallsAlike s u v) (w : Fin 3) (r : WallRec) : WallsAlike s (u.setWall w r) (v.setWall w r) :=
  ⟨h.rg, congrArg (put · w r) h.walls, h.live, h.live', h.scene⟩

theorem WallsAlike.post (h : WallsAlike s u v) (ns : List Notice) : WallsAlike s (u.post ns) v :=
  ⟨h.rg, h.walls, h.live, h.live', h.scene⟩

theorem WallsAlike.cause (h : WallsAlike s u v) : WallsAlike s (regroupCause true u) (regroupCause true v) where
  rg := regroupCause_rg_congr true h.rg h.walls (h.live.trans h.live'.symm) h.scene
  walls := by rw [regroupCause_walls, regroupCause_walls, h.walls]
  live := by rw [regroupCause_live, h.live]
  live' := by rw [regroupCause_live, h.live']
  scene := by rw [regroupCause_scene, regroupCause_scene, h.scene]

theorem sampleWall_alike {sense : Sense} {w : Fin 3} (h : WallsAlike s u v) (hw : u.walls[w] = s.walls[w]) :
    WallsAlike s (sampleWall sense u w) (wallStep sense s v w) := by
  have heff : sampledEffective sense u w = sampledEffective sense s w := by rw [sampledEffective, h.live, sampledEffective]
  have hrec : flipRec sense u w = flipRec sense s w := by rw [flipRec, heff, flipRec]
  rcases wallSample_cases sense u w with hs | hs | hs
  · rw [sampleWall_steady hs, wallStep_steady (hw ▸ hs), hw]
    exact h.setWall ..
  · rw [sampleWall_counts hs.1 hs.2, wallStep_counts (hw ▸ hs.1) (hw ▸ hs.2), hw]
    exact h.setWall ..
  · have hs' : WallFlips sense s w := by rwa [WallFlips, ← hw]
    rw [sampleWall_flips hs, wallStep_flips hs', hrec, heff, hw]
    split
    · exact (h.setWall ..).post _
    · exact ((h.setWall ..).post _).cause

end

/-- What the samples of a boundary leave, those of a list of walls still to be taken. -/
theorem sampleWalls_spec (sense : Sense) (s : State) (l : List (Fin 3)) (hl : l.Nodup) {u v : State} (h : WallsAlike s u v)
    (hw : ∀ w ∈ l, u.walls[w] = s.walls[w]) :
    WallsAlike s (l.foldl (sampleWall sense) u) (l.foldl (wallStep sense s) v)
    ∧ Told ((l.filter fun w => decide (WallFlips sense s w)).map (flipNotice sense s)) u (l.foldl (sampleWall sense) u)
    ∧ (l.foldl (sampleWall sense) u).held = u.held ∧ (l.foldl (sampleWall sense) u).mix = u.mix
    ∧ (l.foldl (sampleWall sense) u).scene = u.scene ∧ (l.foldl (sampleWall sense) u).ahead = u.ahead := by
  induction l generalizing u v with
  | nil => exact ⟨h, .of_ports fun _ => rfl, rfl, rfl, rfl, rfl⟩
  | cons w l ih =>
    obtain ⟨hnew, hl⟩ := List.nodup_cons.1 hl
    have hww := hw w (List.mem_cons_self ..)
    have halike := sampleWall_alike (sense := sense) h hww
    obtain ⟨hothers, h1, h2, h3, h4⟩ := sampleWall_only sense u w
    have htold := sampleWall_told sense u w
    obtain ⟨k, ktold, k1, k2, k3, k4⟩ := ih hl halike fun x hx =>
      (hothers x fun hxw => hnew (hxw ▸ hx)).trans (hw x (List.mem_cons_of_mem _ hx))
    refine ⟨k, ?_, k1.trans h1, k2.trans h2, k3.trans h3, k4.trans h4⟩
    have hnotice : flipNotice sense u w = flipNotice sense s w := by
      simp only [flipNotice, sampledEffective, h.live]
    have hflips : WallFlips sense u w ↔ WallFlips sense s w := by simp only [WallFlips, hww]
    have htold := htold.trans ktold
    rw [List.filter_cons]
    by_cases hf : WallFlips sense s w
    · rw [if_pos (hflips.2 hf), hnotice] at htold
      rw [if_pos (decide_eq_true hf)]
      exact htold
    · rw [if_neg (mt hflips.1 hf)] at htold
      rw [if_neg (mt of_decide_eq_true hf)]
      exact htold

/-! ## The walls and the regroup machine after the samples -/

/-- A wall's record after its sample (R18, R19). -/
def sampledRec (sense : Sense) (s : State) (w : Fin 3) : WallRec :=
  if levelWall sense[w] = (s.walls[w]).sensed then { s.walls[w] with count := 0 }
  else if (s.walls[w]).count < 49 then { s.walls[w] with count := (s.walls[w]).count + 1 }
  else flipRec sense s w

/-- The sample of wall `w` is a regroup cause (R24). -/
abbrev WallCauses (sense : Sense) (s : State) (w : Fin 3) : Prop :=
  WallFlips sense s w ∧ sampledEffective sense s w ≠ (s.walls[w]).effective

theorem sampledRec_flips {sense : Sense} {s : State} {w : Fin 3} (h : WallFlips sense s w) :
    sampledRec sense s w = flipRec sense s w := (if_neg h.1).trans (if_neg (Nat.not_lt.2 h.2))

/-- One sample of `wallsSampled`: its wall, and the regroup machine where it is a cause. -/
theorem wallStep_spec (sense : Sense) (s v : State) (w : Fin 3) :
    (∀ x, (wallStep sense s v w).walls[x] = if x = w then sampledRec sense s w else v.walls[x])
    ∧ (¬WallCauses sense s w → (wallStep sense s v w).rg = v.rg)
    ∧ (WallCauses sense s w → ∃ u : State, u.rg = v.rg ∧ (wallStep sense s v w).rg = (regroupCause true u).rg) := by
  have hset (r : WallRec) (x : Fin 3) : (v.setWall w r).walls[x] = if x = w then r else v.walls[x] := put_get ..
  rcases wallSample_cases sense s w with h | h | h
  · rw [wallStep_steady h, sampledRec, if_pos h]
    exact ⟨hset _, fun _ => rfl, fun hc => absurd h hc.1.1⟩
  · rw [wallStep_counts h.1 h.2, sampledRec, if_neg h.1, if_pos h.2]
    exact ⟨hset _, fun _ => rfl, fun hc => absurd h.2 (Nat.not_lt.2 hc.1.2)⟩
  · rw [wallStep_flips h, sampledRec_flips h]
    split
    · rename_i he
      exact ⟨hset _, fun _ => rfl, fun hc => absurd he hc.2⟩
    · rename_i he
      exact ⟨fun x => (congrArg (·[x]) (regroupCause_walls ..)).trans (hset _ x), fun hn => absurd ⟨h, he⟩ hn,
        fun _ => ⟨v.setWall w (flipRec sense s w), rfl, rfl⟩⟩

theorem wallSteps_spec (sense : Sense) (s : State) (l : List (Fin 3)) (hl : l.Nodup) (v : State) :
    (∀ x, (l.foldl (wallStep sense s) v).walls[x] = if x ∈ l then sampledRec sense s x else v.walls[x])
    ∧ ((∀ w ∈ l, ¬WallCauses sense s w) → (l.foldl (wallStep sense s) v).rg = v.rg)
    ∧ (∀ w ∈ l, WallCauses sense s w → (∀ x ∈ l, WallCauses sense s x → x = w) →
        ∃ u : State, u.rg = v.rg ∧ (l.foldl (wallStep sense s) v).rg = (regroupCause true u).rg) := by
  induction l generalizing v with
  | nil => exact ⟨fun x => (if_neg List.not_mem_nil).symm, fun _ => rfl, fun w hw => absurd hw List.not_mem_nil⟩
  | cons w l ih =>
    obtain ⟨hnew, hl⟩ := List.nodup_cons.1 hl
    obtain ⟨hw, hstill, hcause⟩ := wallStep_spec sense s v w
    obtain ⟨kw, kstill, kcause⟩ := ih hl (wallStep sense s v w)
    refine ⟨fun x => ?_, fun h => ?_, fun x hx hc hone => ?_⟩
    · refine (kw x).trans ?_
      rw [hw x]
      by_cases hx : x = w
      · subst hx
        simp [hnew]
      · simp [hx]
    · exact (kstill fun x hx => h x (List.mem_cons_of_mem _ hx)).trans (hstill (h w (List.mem_cons_self ..)))
    · by_cases hxw : x = w
      · subst hxw
        obtain ⟨u, hu, he⟩ := hcause hc
        refine ⟨u, hu, (kstill fun y hy hcy => ?_).trans he⟩
        exact hnew (hone y (List.mem_cons_of_mem _ hy) hcy ▸ hy)
      · have hw : ¬WallCauses sense s w := fun hcw => hxw (hone w (List.mem_cons_self ..) hcw).symm
        obtain ⟨u, hu, he⟩ := kcause x (List.mem_of_ne_of_mem hxw hx) hc fun y hy => hone y (List.mem_cons_of_mem _ hy)
        exact ⟨u, hu.trans (hstill hw), he⟩

/-- The walls and the regroup machine after the samples of a boundary. -/
theorem wallsSampled_spec (sense : Sense) (s : State) :
    let g : Regroup := { s.rg with fresh := s.rg.fresh && s.rg.pre }
    (∀ x, (wallsSampled sense s).walls[x] = sampledRec sense s x)
    ∧ ((∀ w, ¬WallCauses sense s w) → (wallsSampled sense s).rg = g)
    ∧ (∀ w, WallCauses sense s w → (∀ x, WallCauses sense s x → x = w) →
        ∃ u : State, u.rg = g ∧ (wallsSampled sense s).rg = (regroupCause true u).rg) := by
  obtain ⟨h1, h2, h3⟩ := wallSteps_spec sense s (List.finRange 3) (List.nodup_finRange 3)
    { s with rg := { s.rg with fresh := s.rg.fresh && s.rg.pre } }
  rw [wallsSampled_eq]
  exact ⟨fun x => (h1 x).trans (if_pos (List.mem_finRange x)), fun h => h2 fun w _ => h w,
    fun w hc hone => h3 w (List.mem_finRange w) hc fun x _ => hone x⟩

end Sys2Proof.Machine
end

section
/-! SUPPORT. The switch (R29, R30): the state that it places, and what the owners' rebuilding of their records makes of it. -/

namespace Sys2Proof.Machine
open Host

/-! ## What follows a change of hold sets -/

theorem settleHolds_recs (before s : State) (m : Fin 16) : (settleHolds before s).mute.recs[micSource m] =
    if askEnds before s m then { s.mute.recs[micSource m] with ask := false } else s.mute.recs[micSource m] := by
  rw [settleHolds, retarget_mute, followHolds, clearAsks_rec]
  simp only [post_mute, closeHeld_mute]

theorem ask_cleared (r : MuteRec) (b : Bool) : (if r.ask && b then { r with ask := false } else r).ask = (r.ask && !b) := by
  cases h : r.ask <;> cases b <;> simp [h]

/-- Every target derived again after an event that has moved no envelope (R59 to R61). -/
theorem retarget_follows {before s : State} (he : s.env = before.env) : EnvelopesFollow before (retarget before s) := by
  intro i
  have hold : (retarget before s).holdSet i = s.holdSet i := holdSet_congr (by simp) (by simp) (by simp) i
  have htarget : (retarget before s).targetOf i = s.targetOf i :=
    targetOf_congr (by simp) (by simp) (by simp) (by simp) (by simp) (by simp) i
  have hpart (m : Fin 16) : (retarget before s).micPart m = s.micPart m := micPart_congr (by simp) (by simp) m
  have henv : (retarget before s).env[i] = retargetOne before s i := tab_get ..
  rw [henv, htarget, hold]
  simp only [hpart, retarget_live, State.lead, retargetOne, rampCodeFor, he]
  cases sourceMic i <;> rfl

/-- What goes with a change of hold sets from `before` to `s`, as seen from the state that it leaves (R59, R71, R85, R99). -/
theorem settleHolds_follow {before s : State} (hm : s.mute.recs = before.mute.recs) (he : s.env = before.env) :
    let t := settleHolds before s
    (∀ p : Port, t.port p = (s.port p).postAll (holdsPosted before t ++ asksCleared before t))
    ∧ (∀ m : Fin 16, (t.mute.recs[micSource m]).ask = ((before.mute.recs[micSource m]).ask && !losesHolds before t m))
    ∧ (∀ m : Fin 16, t.gates[m] = if takesHold before t m = true ∧ (s.gates[m]).isOpen = true then shutGate else s.gates[m])
    ∧ EnvelopesFollow before t := by
  intro t
  obtain ⟨-, -, -, -, hold, hgate⟩ := settleHolds_spec before s
  have hheld (i : Fin 26) : t.heldSource i = s.heldSource i := heldSource_congr hold i
  have hends (m : Fin 16) : askEnds before s m = ((before.mute.recs[micSource m]).ask && losesHolds before t m) := by
    simp only [askEnds, hm, losesHolds, hheld, Bool.and_assoc]
  refine ⟨fun p => ?_, fun m => ?_, fun m => ?_, fun i => ?_⟩
  · have hholds : holdsPosted before t = holdsNotices before s := by
      simp only [holdsPosted, t, hold]
      rfl
    have hasks : asksCleared before t = (mics.filter (askEnds before s)).map fun m => Notice.unmute m false .cleared := by
      simp only [asksCleared, ← hends]
      rfl
    rw [hholds, hasks]
    simp only [t]
    rw [settleHolds, retarget_port, followHolds, clearAsks_port, post_port, closeHeld_port, postAll_append]
  · rw [settleHolds_recs, hends, hm]
    exact ask_cleared _ _
  · rw [hgate m]
    simp only [takesHold, hheld, Bool.and_eq_true, Bool.not_eq_true', and_assoc]
  · exact retarget_follows (by rw [followHolds_env, he]) i

/-! ## The state that the switch places -/

/-- The tables and walls of the switch, before the map is made that in force (R29). -/
def switchWritten (s : State) : State := switchWalls (batchNotices s.rg.changes { s with live := s.pendingImage })

/-- The slots whose partition a switch changes (R30). -/
def switchedSlots (s : State) : Vector Bool 4 :=
  tab (partitionChanged s { switchWritten s with rg := (switchWritten s).rg.afterSwitch (same 4 false) })

/-- The state whose records the owners rebuild (R29, R30). -/
def switchPlaced (s : State) : State :=
  freeApplied s.rg.applyFrom { switchWritten s with rg := (switchWritten s).rg.afterSwitch (switchedSlots s) }

theorem switchNow_eq (s : State) : switchNow s = rebuildRecords s s.rg.applyFrom.isSome (switchPlaced s) := rfl

/-- The BATCH notices of a switch for one port. -/
def batchesApplied (l : List PendingBatch) (p : Port) : List Notice :=
  (l.filter fun c => decide (c.port = p)).map fun c => .batchApplied c.batch.entries.length true

theorem postTo_port (s : State) (p q : Port) (n : Notice) :
    (s.postTo p n).port q = (s.port q).postAll (if p = q then [n] else []) := by
  by_cases h : p = q
  · subst h
    rw [State.postTo, setPort_port, if_pos rfl, portPost_eq]
  · rw [State.postTo, setPort_other s p q _ (Ne.symm h), if_neg h]
    rfl

theorem batchNotices_cons (c : PendingBatch) (l : List PendingBatch) (s : State) :
    batchNotices (c :: l) s = batchNotices l (s.postTo c.port (.batchApplied c.batch.entries.length true)) := rfl

theorem batchNotices_port (l : List PendingBatch) (s : State) (p : Port) :
    (batchNotices l s).port p = (s.port p).postAll (batchesApplied l p) := by
  induction l generalizing s with
  | nil => rfl
  | cons c l ih =>
    rw [batchNotices_cons, ih, postTo_port, postAll_append]
    by_cases hc : c.port = p <;> simp [batchesApplied, hc]

/-- The BATCH notices of a switch move the queues alone. -/
theorem batchNotices_frame (l : List PendingBatch) (s : State) :
    batchNotices l s = { s with portA := (batchNotices l s).portA, portB := (batchNotices l s).portB } := by
  induction l generalizing s with
  | nil => rfl
  | cons c l ih =>
    have hpost (n : Notice) : s.postTo c.port n = { s with portA := (s.postTo c.port n).portA, portB := (s.postTo c.port n).portB } := by
      cases c.port <;> rfl
    rw [batchNotices_cons, ih, hpost]

/-- The WALL notices of a switch from `s` to `t` (R29). -/
def wallsSwitched (s t : State) : List Notice :=
  ((List.finRange 3).filter fun w => decide ((s.walls[w]).effective ≠ (t.walls[w]).effective)).map fun w =>
    .wall w (t.walls[w]).sensed t.live.wall[w] (t.walls[w]).effective

/-- The walls of a state as overrides take effect (R19). -/
def State.settledWalls (s : State) (img : Image) : Vector WallRec 3 :=
  tab fun w => { s.walls[w] with effective := effectiveOf img.wall[w] (s.walls[w]).sensed }

theorem switchWritten_frame (s : State) : switchWritten s = { s with
    live := s.pendingImage, walls := s.settledWalls s.pendingImage
    portA := (switchWritten s).portA, portB := (switchWritten s).portB } := by
  rw [switchWritten, batchNotices_frame]
  rfl

theorem switchWritten_port (s : State) (p : Port) : (switchWritten s).port p =
    (s.port p).postAll (batchesApplied s.rg.changes p ++ wallsSwitched s (switchWritten s)) := by
  have hwalls (u : State) : (switchWalls u).port p = (u.port p).postAll (wallsSwitched u (switchWalls u)) := by
    rw [switchWalls, post_port]
    cases p <;> rfl
  have hsame : wallsSwitched (batchNotices s.rg.changes { s with live := s.pendingImage }) (switchWritten s)
      = wallsSwitched s (switchWritten s) := by
    rw [batchNotices_frame]
    rfl
  rw [switchWritten, hwalls, ← switchWritten, hsame, batchNotices_port, postAll_append]
  cases p <;> rfl

/-- The scenes as the switch leaves them: the buffer of an APPLY is free (R169). -/
def switchScene (s : State) : Scene :=
  match s.rg.applyFrom with
  | some b => { s.scene with bufs := put s.scene.bufs b { s.scene.bufs[b] with lock := .free } }
  | none => s.scene

theorem switchPlaced_frame (s : State) : switchPlaced s = { s with
    live := s.pendingImage, walls := s.settledWalls s.pendingImage, rg := s.rg.afterSwitch (switchedSlots s)
    scene := switchScene s, portA := (switchWritten s).portA, portB := (switchWritten s).portB } := by
  have hrg : (switchWritten s).rg = s.rg := by rw [switchWritten_frame]
  rw [switchPlaced, switchScene, hrg, switchWritten_frame]
  cases s.rg.applyFrom <;> rfl

theorem switchedSlots_get (s : State) (q : Fin 4) : (switchedSlots s)[q] = partitionChanged s (switchPlaced s) q := by
  rw [switchedSlots, tab_get, switchPlaced_frame, switchWritten_frame]
  rfl

theorem switchPlaced_port (s : State) (p : Port) : (switchPlaced s).port p =
    (s.port p).postAll (batchesApplied s.rg.changes p ++ wallsSwitched s (switchWritten s)) := by
  rw [switchPlaced_frame, ← switchWritten_port]
  cases p <;> rfl

/-! ## The records rebuilt (R30) -/

/-- The floor record of a slot after a switch, and its notices (R120). -/
def switchedFloor (s : State) (q : Fin 4) : FloorChange := switchFloor s (switchPlaced s) s.rg.applyFrom.isSome q

/-- The records of the owners rebuilt, before the changes of hold sets are followed (R30). -/
def switchRebuilt (s : State) : State :=
  State.post { switchPlaced s with
    gates := switchGates s (switchPlaced s)
    ahead := { s.ahead with counts := switchCounts s (switchPlaced s) }
    floors := tab fun q => (switchedFloor s q).1
    mute := { s.mute with quiet := switchQuiet s (switchPlaced s) } } (slots.flatMap fun q => (switchedFloor s q).2)

theorem switchNow_settled (s : State) : switchNow s = settleHolds s (switchRebuilt s) := by
  have hahead : (switchPlaced s).ahead = s.ahead := by rw [switchPlaced_frame]
  have hmute : (switchPlaced s).mute = s.mute := by rw [switchPlaced_frame]
  rw [switchNow_eq, switchRebuilt, ← hahead, ← hmute, ← List.flatMap_map]
  rfl

theorem settleHolds_frame (before s : State) : settleHolds before s = { s with
    mute := (settleHolds before s).mute, gates := (settleHolds before s).gates, env := (settleHolds before s).env
    portA := (settleHolds before s).portA, portB := (settleHolds before s).portB } := by
  simp only [settleHolds, retarget, followHolds, clearAsks, State.withRecs, State.post, closeHeld]

/-- What a switch moves, and what it sets outside the records of the owners (R29). -/
theorem switchNow_frame (s : State) : switchNow s = { s with
    live := s.pendingImage, walls := s.settledWalls s.pendingImage, rg := s.rg.afterSwitch (switchedSlots s)
    scene := switchScene s, ahead := { s.ahead with counts := switchCounts s (switchPlaced s) }
    floors := tab fun q => (switchedFloor s q).1
    mute := (switchNow s).mute, gates := (switchNow s).gates, env := (switchNow s).env
    portA := (switchNow s).portA, portB := (switchNow s).portB } := by
  have h := settleHolds_frame s (switchRebuilt s)
  rw [← switchNow_settled] at h
  generalize switchNow s = t at h ⊢
  rw [h, switchRebuilt]
  simp only [State.post]
  rw [switchPlaced_frame]

theorem switchRebuilt_env (s : State) : (switchRebuilt s).env = s.env := by
  simp only [switchRebuilt, post_env]
  rw [switchPlaced_frame]

theorem withUnits_port (s : State) (g : Vector Gate 16) (a : Ahead) (f : Vector FloorRec 4) (m : Mute) (p : Port) :
    ({ s with gates := g, ahead := a, floors := f, mute := m } : State).port p = s.port p := by cases p <;> rfl

theorem wallsSwitched_congr {s t u : State} (hw : t.walls = u.walls) (hl : t.live = u.live) :
    wallsSwitched s t = wallsSwitched s u := by simp only [wallsSwitched, hw, hl]

theorem switchRebuilt_port (s : State) (p : Port) : (switchRebuilt s).port p =
    (s.port p).postAll (batchesApplied s.rg.changes p ++ wallsSwitched s (switchNow s) ++ slots.flatMap fun q => (switchedFloor s q).2) := by
  have hwalls : (switchWritten s).walls = (switchNow s).walls :=
    (congrArg State.walls (switchWritten_frame s)).trans (congrArg State.walls (switchNow_frame s)).symm
  have hlive : (switchWritten s).live = (switchNow s).live :=
    (congrArg State.live (switchWritten_frame s)).trans (congrArg State.live (switchNow_frame s)).symm
  rw [← wallsSwitched_congr hwalls hlive, ← postAll_append, ← switchPlaced_port, switchRebuilt, post_port, withUnits_port]

/-- What the change of hold sets at a switch brings (R59, R71, R85, R99). -/
theorem switchNow_follow (s : State) :
    (∀ p : Port, (switchNow s).port p = (s.port p).postAll (batchesApplied s.rg.changes p ++ wallsSwitched s (switchNow s)
      ++ (slots.flatMap fun q => (switchedFloor s q).2) ++ holdsPosted s (switchNow s) ++ asksCleared s (switchNow s)))
    ∧ (∀ m : Fin 16, ((switchNow s).mute.recs[micSource m]).ask
        = ((s.mute.recs[micSource m]).ask && !losesHolds s (switchNow s) m))
    ∧ (∀ m : Fin 16, (switchNow s).gates[m] =
        if takesHold s (switchNow s) m = true ∧ ((switchGates s (switchPlaced s))[m]).isOpen = true then shutGate
        else (switchGates s (switchPlaced s))[m])
    ∧ EnvelopesFollow s (switchNow s) := by
  obtain ⟨hport, hask, hgate, henv⟩ := settleHolds_follow (before := s) (s := switchRebuilt s) rfl (switchRebuilt_env s)
  rw [← switchNow_settled] at hport hask hgate henv
  refine ⟨fun p => ?_, hask, hgate, henv⟩
  rw [hport, switchRebuilt_port, postAll_append]
  simp only [List.append_assoc]

/-- The stored holds, the group flags and the quiet flags after a switch (R66, R84). -/
theorem switchNow_mute (s : State) :
    (∀ i : Fin 26, ((switchNow s).mute.recs[i]).priv = (s.mute.recs[i]).priv
        ∧ ((switchNow s).mute.recs[i]).chair = (s.mute.recs[i]).chair
        ∧ ((switchNow s).mute.recs[i]).far = (s.mute.recs[i]).far)
    ∧ (switchNow s).mute.groupMuted = s.mute.groupMuted ∧ (switchNow s).mute.quiet = switchQuiet s (switchPlaced s) := by
  obtain ⟨-, hrecs, hgroups, hquiet, -, -⟩ := settleHolds_spec s (switchRebuilt s)
  rw [← switchNow_settled] at hrecs hgroups hquiet
  exact ⟨hrecs, hgroups, hquiet⟩

/-! ## Notices of a switch -/

theorem rebuildFloor_others (old s : State) (discards : Bool) (p : Fin 4) :
    (rebuildFloor old s discards p).2.filter Notice.ofRegroup = [] := by
  have hmap {α : Type} (l : List α) (f : α → Fin 16) (e : FloorEvent) :
      (l.map fun x => Notice.floor p (f x) e).filter Notice.ofRegroup = [] := filter_ofRegroup_map _ _ fun _ => rfl
  have hmics (l : List (Fin 16)) (e : FloorEvent) : (l.map fun m => Notice.floor p m e).filter Notice.ofRegroup = [] := hmap l id e
  unfold rebuildFloor
  dsimp only
  split <;> simp only [List.filter_append, hmics, hmap, List.append_nil]

theorem switchFloor_others (old s : State) (placed : Bool) (p : Fin 4) :
    (switchFloor old s placed p).2.filter Notice.ofRegroup = [] := by
  unfold switchFloor
  split_ifs
  · exact rebuildFloor_others ..
  · exact floorAfterWrite_others ..
  · rfl

theorem wallsSwitched_ofRegroup (s t : State) : (wallsSwitched s t).filter Notice.ofRegroup = wallsSwitched s t := by
  rw [List.filter_eq_self]
  intro n hn
  obtain ⟨w, -, rfl⟩ := List.mem_map.1 hn
  rfl

/-- Of the notices of a regroup a switch posts those of its walls (R29). -/
theorem switchNow_told (s : State) : Told (wallsSwitched s (switchNow s)) s (switchNow s) := by
  obtain ⟨hport, -⟩ := switchNow_follow s
  refine fun p => ?_
  have hbatches : (batchesApplied s.rg.changes p).filter Notice.ofRegroup = [] := filter_ofRegroup_map _ _ fun _ => rfl
  have hfloors : (slots.flatMap fun q => (switchedFloor s q).2).filter Notice.ofRegroup = [] := by
    rw [List.filter_flatMap, List.flatMap_eq_nil_iff]
    exact fun q _ => switchFloor_others ..
  have hholds : (holdsPosted s (switchNow s)).filter Notice.ofRegroup = [] := filter_ofRegroup_map _ _ fun _ => rfl
  have hasks : (asksCleared s (switchNow s)).filter Notice.ofRegroup = [] := filter_ofRegroup_map _ _ fun _ => rfl
  have took := postAll_took (s.port p) (batchesApplied s.rg.changes p ++ wallsSwitched s (switchNow s)
      ++ (slots.flatMap fun q => (switchedFloor s q).2) ++ holdsPosted s (switchNow s) ++ asksCleared s (switchNow s))
  rw [← hport] at took
  simpa only [List.filter_append, hbatches, wallsSwitched_ofRegroup, hfloors, hholds, hasks, List.nil_append, List.append_nil]
    using took

end Sys2Proof.Machine
end

section
/-! SUPPORT. A boundary up to its switch test and from there to its end (R4, log 3): O18 and O23. -/

namespace Sys2Proof.Machine
open Host

/-! ## Up to the switch test -/

/-- The WALL notices of a boundary's samples (R18). -/
def flipNotices (sense : Sense) (s : State) : List Notice :=
  ((List.finRange 3).filter fun w => decide (WallFlips sense s w)).map (flipNotice sense s)

/-- What stands between the wall samples of a boundary that began in `s` and its switch test: the partition unit as the samples
left it, and what no other work of the boundary moves. -/
structure Sampled (sense : Sense) (s u : State) : Prop where
  held : u.held = s.held
  scene : u.scene = s.scene
  walls : u.walls = (wallsSampled sense s).walls
  rg : u.rg = (wallsSampled sense s).rg
  quiet : u.mute.quiet = s.mute.quiet
  groups : u.mute.groupMuted = s.mute.groupMuted
  told : Told (flipNotices sense s) s u

theorem Sampled.still {sense : Sense} {s t u : State} (h : Sampled sense s t) (k : UnitStill t u) : Sampled sense s u where
  held := k.held.trans h.held
  scene := k.scene.trans h.scene
  walls := k.walls.trans h.walls
  rg := k.rg.trans h.rg
  quiet := k.quiet.trans h.quiet
  groups := k.groups.trans h.groups
  told := List.append_nil (flipNotices sense s) ▸ h.told.trans k.told

theorem boundaryLinks_unit (sense : Sense) (s : State) : UnitStill (boundaryBegun sense s) (boundaryLinks sense s) := by
  unfold boundaryLinks
  exact UnitStill.foldl linkBoundary_unit mics (boundaryBegun sense s)

theorem boundaryBegun_ahead (sense : Sense) (s : State) : (boundaryBegun sense s).ahead = s.ahead := by
  unfold boundaryBegun
  rfl

theorem boundaryLinks_ahead (sense : Sense) (s : State) : (boundaryLinks sense s).ahead = s.ahead := by
  have general (l : List (Fin 16)) (u : State) : (l.foldl linkBoundary u).ahead = u.ahead := by
    induction l generalizing u with
    | nil => rfl
    | cons i l ih => rw [List.foldl_cons, ih, linkBoundary_ahead]
  unfold boundaryLinks
  rw [general, boundaryBegun_ahead]

/-- The links' events, the handover and the frames' end leave the partition unit. -/
theorem boundaryLinks_still (sense : Sense) (s : State) :
    UnitStill (boundaryBegun sense s) (closeFrames (handover (boundaryLinks sense s)))
    ∧ (closeFrames (handover (boundaryLinks sense s))).ahead = s.ahead := by
  have hstill := boundaryLinks_unit sense s
  have hahead := boundaryLinks_ahead sense s
  generalize boundaryLinks sense s = u at hstill hahead
  have hsync : (judgeSync u.audio).2.2.filter Notice.ofRegroup = [] := by
    rw [judgeSync_notices]
    split <;> rfl
  have hhand : UnitStill u (handover u) := by
    refine ⟨?_, ?_, ?_, ?_, ?_, ?_, ?_, .postAll (fun p => handover_port u p) hsync⟩ <;> simp [handover]
  have hclose (u : State) : UnitStill u (closeFrames u) := by
    refine ⟨?_, ?_, ?_, ?_, ?_, ?_, ?_, .of_ports fun p => closeFrames_port u p⟩ <;> simp only [closeFrames]
  have hkept : (closeFrames (handover u)).ahead = u.ahead := by simp [closeFrames, handover]
  exact ⟨hstill.trans (hhand.trans (hclose (handover u))), hkept.trans hahead⟩

/-- The state of a boundary after its wall samples. -/
theorem boundarySampled_spec (sense : Sense) (s : State) :
    Sampled sense s (boundarySampled sense s) ∧ (boundarySampled sense s).mix = s.mix
    ∧ (boundarySampled sense s).ahead = s.ahead ∧ (boundarySampled sense s).live = s.live
    ∧ (boundarySampled sense s).rg.map = s.rg.map
    ∧ ∀ p, ((boundarySampled sense s).port p).committed = (s.port p).committed := by
  obtain ⟨-, hbegunrg, hbegun, -⟩ := boundaryBegun_spec sense s
  have hbegin : (boundaryBegun sense s).held = s.held ∧ (boundaryBegun sense s).mix = s.mix
      ∧ (boundaryBegun sense s).scene = s.scene ∧ (boundaryBegun sense s).walls = s.walls
      ∧ ∀ p, (boundaryBegun sense s).port p = s.port p := by
    unfold boundaryBegun
    exact ⟨rfl, rfl, rfl, rfl, fun p => by cases p <;> rfl⟩
  obtain ⟨bheld, bmix, bscene, bwalls, bport⟩ := hbegin
  obtain ⟨hstill, hahead⟩ := boundaryLinks_still sense s
  obtain ⟨work, -⟩ := boundaryLinks_work sense s
  have kept := (boundarySampled_kept sense s).holds
  have hlive : (closeFrames (handover (boundaryLinks sense s))).live = s.live := by
    have h : (closeFrames (handover (boundaryLinks sense s))).live = (boundaryLinks sense s).live := by
      simp [closeFrames, handover]
    exact h.trans (work.live.trans hbegun.live)
  have hcommitted (p : Port) :
      ((closeFrames (handover (boundaryLinks sense s))).port p).committed = (s.port p).committed := by
    rw [closeFrames_port, handover_port, postAll_committed]
    exact (work.committed p).trans (hbegun.committed p)
  have hmap : (closeFrames (handover (boundaryLinks sense s))).rg.map = s.rg.map := by rw [hstill.rg, hbegunrg]
  have halike : WallsAlike s (closeFrames (handover (boundaryLinks sense s)))
      { s with rg := { s.rg with fresh := s.rg.fresh && s.rg.pre } } :=
    ⟨hstill.rg.trans hbegunrg, hstill.walls.trans bwalls, hlive, rfl, hstill.scene.trans bscene⟩
  obtain ⟨walls, wtold, wheld, wmix, wscene, wahead⟩ := sampleWalls_spec sense s (List.finRange 3) (List.nodup_finRange 3) halike
    fun w _ => by rw [hstill.walls, bwalls]
  have hbegan : Told [] s (boundaryBegun sense s) := .of_ports bport
  have htold := (hbegan.trans hstill.told).trans wtold
  have hsampled : boundarySampled sense s =
      (List.finRange 3).foldl (sampleWall sense) (closeFrames (handover (boundaryLinks sense s))) := by unfold boundarySampled; rfl
  rw [← hsampled] at walls htold wheld wmix wscene wahead
  rw [← wallsSampled_eq] at walls
  refine ⟨⟨wheld.trans (hstill.held.trans bheld), wscene.trans (hstill.scene.trans bscene), walls.walls, walls.rg, ?_, ?_, htold⟩,
    wmix.trans (hstill.mix.trans bmix), wahead.trans hahead, kept.live.trans hlive, kept.map.trans hmap,
    fun p => (kept.committed p).trans (hcommitted p)⟩
  · rw [kept.still.mute, hstill.quiet, hbegun.still.mute]
  · rw [kept.still.mute, hstill.groups, hbegun.still.mute]

theorem boundaryDecided_spec (sense : Sense) (s : State) :
    Sampled sense s (boundaryDecided sense s)
    ∧ (boundaryDecided sense s).mix = { s.mix with snap := some (boundaryDecisions (boundarySampled sense s)).snapshot }
    ∧ (boundaryDecided sense s).ahead.floors = same 4 true ∧ (boundaryDecided sense s).live = s.live
    ∧ ∀ p, ((boundaryDecided sense s).port p).committed = (s.port p).committed := by
  obtain ⟨hs, hmix, -, hlive, -, hcom⟩ := boundarySampled_spec sense s
  obtain ⟨-, klive, -, kcom⟩ := boundaryDecisions_kept (boundarySampled sense s)
  obtain ⟨-, kfloors⟩ := boundaryDecisions_ahead (boundarySampled sense s)
  have kstill := boundaryDecisions_unit (boundarySampled sense s)
  have hdec := hs.still kstill
  unfold boundaryDecided
  generalize boundaryDecisions (boundarySampled sense s) = d at kfloors kstill klive kcom hdec
  obtain ⟨h1, h2, h3, h4, h5, h6, h7⟩ := hdec
  refine ⟨⟨h1, h2, h3, h4, h5, h6, fun p => ?_⟩, ?_, kfloors, klive.trans hlive, fun p => ?_⟩
  · rw [takeSnapshot_port]
    exact h7 p
  · rw [takeSnapshot, kstill.mix, hmix]
  · rw [takeSnapshot_port, kcom, hcom]

/-- The state of a boundary before its committed batches are applied. -/
@[irreducible] def boundaryIdled (sense : Sense) (early : Bool) (s : State) : State :=
  idleBoundary .b (idleBoundary .a (startDownstream
    (if early then (boundarySampled sense s).indicators else (boundaryDecided sense s).indicators) (boundaryDecided sense s)))

/-- The state of a boundary at its switch test (log 3). -/
@[irreducible] def boundaryApplied (sense : Sense) (early : Bool) (s : State) : State :=
  readBusStep (applyCommitted .b (applyCommitted .a (boundaryIdled sense early s)))

/-- The state of a boundary after its switch and completion tests. -/
@[irreducible] def boundaryTested (sense : Sense) (early : Bool) (s : State) : State :=
  regroupDone (regroupSwitch (boundaryApplied sense early s))

theorem boundaryWorked_eq (sense : Sense) (early : Bool) (s : State) : boundaryWorked sense early s =
    captureCopy 1 (captureCopy 0 (regroupBoundaryEnd (boundaryTested sense early s))) := by
  unfold boundaryWorked boundaryTables boundaryTested boundaryApplied boundaryIdled
  rfl

theorem startDownstream_still (v : Vector Indicator 16) (s : State) : UnitStill s (startDownstream v s) := by
  refine ⟨?_, ?_, ?_, ?_, ?_, ?_, ?_, .of_ports fun p => startDownstream_port v s p⟩ <;> simp only [startDownstream]

theorem boundaryIdled_spec (sense : Sense) (early : Bool) (s : State) :
    UnitStill (boundaryDecided sense s) (boundaryIdled sense early s)
    ∧ (boundaryIdled sense early s).ahead.floors = same 4 true ∧ (boundaryIdled sense early s).live = s.live
    ∧ ∀ p, ((boundaryIdled sense early s).port p).committed = (s.port p).committed := by
  obtain ⟨-, -, hfloors, hlive, hcom⟩ := boundaryDecided_spec sense s
  have down := startDownstream_still
    (if early then (boundarySampled sense s).indicators else (boundaryDecided sense s).indicators) (boundaryDecided sense s)
  have downHolds := startDownstream_holds
    (if early then (boundarySampled sense s).indicators else (boundaryDecided sense s).indicators) (boundaryDecided sense s)
  have downAhead : (startDownstream (if early then (boundarySampled sense s).indicators else (boundaryDecided sense s).indicators)
      (boundaryDecided sense s)).ahead = (boundaryDecided sense s).ahead := by simp only [startDownstream]
  unfold boundaryIdled
  generalize startDownstream (if early then (boundarySampled sense s).indicators else (boundaryDecided sense s).indicators)
    (boundaryDecided sense s) = u at down downHolds downAhead ⊢
  obtain ⟨ha, haheadA⟩ := idleBoundary_still .a u
  obtain ⟨-, haHolds, -⟩ := idleBoundary_kept .a u
  generalize idleBoundary .a u = ua at ha haheadA haHolds ⊢
  obtain ⟨hb, haheadB⟩ := idleBoundary_still .b ua
  obtain ⟨-, hbHolds, -⟩ := idleBoundary_kept .b ua
  have hk := (downHolds.trans haHolds).trans hbHolds
  refine ⟨(down.trans ha).trans hb, ?_, hk.live.trans hlive, fun p => (hk.committed p).trans (hcom p)⟩
  rw [haheadB, haheadA, downAhead, hfloors]

/-- The state of a boundary at its switch test: the batches due are applied, and the bus ramp code is read (R26, R152). -/
theorem boundaryApplied_spec (sense : Sense) (early : Bool) (s : State) :
    let m := boundaryApplied sense early s
    (m.held = s.held ∧ m.scene = s.scene ∧ m.walls = (wallsSampled sense s).walls ∧ m.mute.quiet = s.mute.quiet
      ∧ m.mute.groupMuted = s.mute.groupMuted ∧ Told (flipNotices sense s) s m)
    ∧ m.rg = { (wallsSampled sense s).rg with step := rampStep m.live.busCode }
    ∧ m.mix = { s.mix with snap := some (boundaryDecisions (boundarySampled sense s)).snapshot }
    ∧ m.live = s.live.writeAll ((s.portA.committed ++ s.portB.committed).flatMap (·.entries))
    ∧ (∀ p, (m.port p).committed = []) ∧ m.ahead.floors = same 4 true := by
  obtain ⟨hs, hmix, -⟩ := boundaryDecided_spec sense s
  obtain ⟨still, hfloors, hlive, hcom⟩ := boundaryIdled_spec sense early s
  unfold boundaryApplied
  generalize boundaryIdled sense early s = u at still hfloors hlive hcom ⊢
  have stillA := applyCommitted_still .a u
  obtain ⟨liveA, floorsA, emptyA, otherA⟩ := applyCommitted_live .a u
  generalize applyCommitted .a u = ua at stillA liveA floorsA emptyA otherA ⊢
  have stillB := applyCommitted_still .b ua
  obtain ⟨liveB, floorsB, emptyB, otherB⟩ := applyCommitted_live .b ua
  generalize applyCommitted .b ua = ub at stillB liveB floorsB emptyB otherB ⊢
  have hall := (still.trans stillA).trans stillB
  obtain ⟨h1, h2, h3, h4, h5, h6, h7⟩ := hs.still hall
  have hread (p : Port) : (readBusStep ub).port p = ub.port p := by cases p <;> rfl
  have hwritten : ub.live = s.live.writeAll ((s.portA.committed ++ s.portB.committed).flatMap (·.entries)) := by
    have ha : (u.port .a).committed = s.portA.committed := hcom .a
    have hb : (ua.port .b).committed = s.portB.committed := (otherA .b Port.noConfusion).trans (hcom .b)
    rw [liveB, hb, liveA, ha, hlive, List.flatMap_append]
    exact (List.foldl_append ..).symm
  refine ⟨⟨h1, h2, h3, h5, h6, fun p => by rw [hread]; exact h7 p⟩, ?_, hall.mix.trans hmix, hwritten, fun p => ?_,
    floorsB.trans (floorsA.trans hfloors)⟩
  · rw [← h4]
    rfl
  · rw [hread]
    cases p
    · exact (otherB .a Port.noConfusion).trans emptyA
    · exact emptyB

end Sys2Proof.Machine
end

section
/-! SUPPORT. A boundary from its switch test to its end (R28 to R31, R166; log 3): O18 and O23. -/

namespace Sys2Proof.Machine
open Host

/-! ## The tests of a boundary -/

theorem regroupDone_of_not {s : State} (h : ¬EndStands s.rg) : regroupDone s = s := if_neg fun hd => h ((endDue_iff s.rg).1 hd)

theorem regroupDone_of_stands {s : State} (h : EndStands s.rg) :
    regroupDone s = State.post { s with rg := s.rg.settle } s.rg.doneNotices := if_pos ((endDue_iff s.rg).2 h)

/-- A switch that stands to be made with no batch committed: the floor work of the slots is brought level first (R120). -/
theorem regroupSwitch_of_stands {s : State} (h : SwitchStands s.rg) (hc : ∀ p, (s.port p).committed = []) :
    ∃ u, UnitStill s u ∧ u.live = s.live ∧ regroupSwitch s = switchNow u := by
  have hlevel : UnitStill s (levelPieces s) ∧ (levelPieces s).live = s.live
      ∧ ∀ p, ((levelPieces s).port p).committed = (s.port p).committed := by
    have hfloor (u : State) (p : Fin 4) (q : Port) : ((floorWork u p).port q).committed = (u.port q).committed := by
      unfold floorWork
      split
      · rw [setFloor_port, postAll_committed]
      · rfl
    unfold levelPieces
    split
    · refine ⟨takePieces_still s, takePieces_live s, fun p => ?_⟩
      simp only [takePieces, withWorked_port, slots_eq, List.foldl_cons, List.foldl_nil, hfloor]
    · exact ⟨.refl s, rfl, fun _ => rfl⟩
  obtain ⟨still, live, com⟩ := hlevel
  refine ⟨applyCommitted .b (applyCommitted .a (levelPieces s)), ?_, ?_, if_pos ((switchDue_iff s.rg).2 h)⟩
  · exact (still.trans (applyCommitted_still .a _)).trans (applyCommitted_still .b _)
  · generalize levelPieces s = u at live com ⊢
    obtain ⟨liveA, -, -, otherA⟩ := applyCommitted_live .a u
    obtain ⟨liveB, -⟩ := applyCommitted_live .b (applyCommitted .a u)
    rw [liveB, otherA .b Port.noConfusion, liveA, com, com, hc, hc, live]
    rfl

theorem not_endStands_of_fadingOut {g : Regroup} (h : g.state = .fadingOut) : ¬EndStands g := fun he => by
  exact RegroupState.noConfusion (h.symm.trans he.1)

section
variable {sense : Sense} {s : State} (early : Bool)

/-- A boundary at which a switch is made: after it no completion test holds. -/
theorem boundaryTested_switch (h : SwitchStands (wallsSampled sense s).rg) :
    ∃ u, UnitStill (boundaryApplied sense early s) u ∧ u.live = (boundaryApplied sense early s).live
      ∧ regroupSwitch (boundaryApplied sense early s) = switchNow u ∧ boundaryTested sense early s = switchNow u := by
  obtain ⟨-, hrg, -, -, hc, -⟩ := boundaryApplied_spec sense early s
  unfold boundaryTested
  generalize boundaryApplied sense early s = m at hrg hc ⊢
  have hm : SwitchStands m.rg := by rw [hrg]; exact h
  obtain ⟨u, still, live, he⟩ := regroupSwitch_of_stands hm hc
  refine ⟨u, still, live, he, ?_⟩
  have hno : ¬EndStands (switchNow u).rg := by
    obtain ⟨changed, hafter⟩ := switchNow_rg u
    rw [hafter]
    rintro ⟨-, hlate | hlate, -⟩ <;> exact Bool.noConfusion hlate
  rw [he, regroupDone_of_not hno]

/-- A boundary at which the regroup ends (R31). -/
theorem boundaryTested_end (h : EndStands (wallsSampled sense s).rg) : boundaryTested sense early s =
    State.post { boundaryApplied sense early s with rg := (boundaryApplied sense early s).rg.settle }
      (wallsSampled sense s).rg.doneNotices := by
  obtain ⟨-, hrg, -⟩ := boundaryApplied_spec sense early s
  unfold boundaryTested
  generalize boundaryApplied sense early s = m at hrg ⊢
  have hm : EndStands m.rg := by rw [hrg]; exact h
  have hno : ¬SwitchStands m.rg := fun hs => not_endStands_of_fadingOut hs.1 hm
  have hnotices : m.rg.doneNotices = (wallsSampled sense s).rg.doneNotices := by rw [hrg]; rfl
  rw [regroupSwitch_of_not hno, regroupDone_of_stands hm, hnotices]

/-- A boundary at which neither happens. -/
theorem boundaryTested_neither (hs : ¬SwitchStands (wallsSampled sense s).rg) (he : ¬EndStands (wallsSampled sense s).rg) :
    boundaryTested sense early s = boundaryApplied sense early s := by
  obtain ⟨-, hrg, -⟩ := boundaryApplied_spec sense early s
  unfold boundaryTested
  generalize boundaryApplied sense early s = m at hrg ⊢
  have hms : ¬SwitchStands m.rg := by rw [hrg]; exact hs
  have hme : ¬EndStands m.rg := by rw [hrg]; exact he
  rw [regroupSwitch_of_not hms, regroupDone_of_not hme]

end

/-! ## The captures and the end of a boundary -/

/-- The notices of the captures due at a boundary (R166). -/
def capturesPosted (s : State) : List Notice :=
  ((List.finRange 2).filter fun b => decide ((s.scene.bufs[b]).lock = .capture)).map fun b => .scene .captured (some b) none

theorem captureCopy_frame (b : Fin 2) (s : State) : captureCopy b s = { s with
    scene := (captureCopy b s).scene, portA := (captureCopy b s).portA, portB := (captureCopy b s).portB } := by
  unfold captureCopy
  split <;> rfl

theorem captureCopy_port (b : Fin 2) (s : State) (p : Port) : (captureCopy b s).port p =
    (s.port p).postAll (if (s.scene.bufs[b]).lock = .capture then [.scene .captured (some b) none] else []) := by
  unfold captureCopy
  split
  · rw [post_port, setBuf_port]
  · rfl

theorem captureCopy_other {b c : Fin 2} (h : c ≠ b) (s : State) : (captureCopy b s).scene.bufs[c] = s.scene.bufs[c] := by
  unfold captureCopy
  split
  · exact put_other _ _ _ _ h
  · rfl

theorem filter_map_two {α : Type} (f : Fin 2 → Bool) (g : Fin 2 → α) :
    ((List.finRange 2).filter f).map g = (if f 0 then [g 0] else []) ++ if f 1 then [g 1] else [] := by
  cases h0 : f 0 <;> cases h1 : f 1 <;> simp [List.finRange_succ, h0, h1]

theorem captureCopies_port (s : State) (p : Port) :
    (captureCopy 1 (captureCopy 0 s)).port p = (s.port p).postAll (capturesPosted s) := by
  rw [captureCopy_port, captureCopy_port, postAll_append, captureCopy_other (by decide), capturesPosted, filter_map_two]
  simp only [decide_eq_true_eq]

section
variable {sense : Sense} {early : Bool} {s t : State} (ht : t = settleLine (frameBoundary sense early s))
include ht

/-- What a boundary leaves after its tests: the marks that concern it alone are gone, and the captures due are taken. -/
theorem frameBoundary_end :
    t = { boundaryTested sense early s with
      rg := { (boundaryTested sense early s).rg with pre := false, tested := false, noEval := same 4 false }
      ahead := { counts := same 4 none, floors := same 4 false }
      scene := t.scene, portA := t.portA, portB := t.portB, lineA := t.lineA }
    ∧ ∀ p, t.port p = ((boundaryTested sense early s).port p).postAll (capturesPosted (boundaryTested sense early s)) := by
  obtain ⟨line, hline⟩ := settled_frame (boundaryWorked sense early s)
  rw [frameBoundary_eq, hline, boundaryWorked_eq] at ht
  generalize boundaryTested sense early s = u at ht ⊢
  have hport (v : State) (l : LineA) (p : Port) : ({ v with lineA := l } : State).port p = v.port p := by cases p <;> rfl
  subst ht
  refine ⟨?_, fun p => ?_⟩
  · rw [captureCopy_frame, captureCopy_frame]
    rfl
  · rw [hport, captureCopies_port]
    cases p <;> rfl

theorem frameBoundary_captured : Told [] (boundaryTested sense early s) t := by
  obtain ⟨-, hport⟩ := frameBoundary_end ht
  exact .postAll hport (filter_ofRegroup_map _ _ fun _ => rfl)

omit ht in
theorem withRg_port (s : State) (g : Regroup) (p : Port) : ({ s with rg := g } : State).port p = s.port p := by cases p <;> rfl

theorem frameBoundary_fields : t.walls = (boundaryTested sense early s).walls ∧ t.live = (boundaryTested sense early s).live
    ∧ t.mix = (boundaryTested sense early s).mix
    ∧ t.rg = { (boundaryTested sense early s).rg with pre := false, tested := false, noEval := same 4 false } := by
  obtain ⟨hend, -⟩ := frameBoundary_end ht
  exact ⟨(congrArg State.walls hend :), (congrArg State.live hend :), (congrArg State.mix hend :), (congrArg State.rg hend :)⟩

/-- The walls after a boundary: those of the samples, but for the effective states that a switch there sets (R18, R19). -/
theorem frameBoundary_walls :
    (∀ w : Fin 3, (t.walls[w]).sensed = ((wallsSampled sense s).walls[w]).sensed
      ∧ (t.walls[w]).count = ((wallsSampled sense s).walls[w]).count)
    ∧ (¬SwitchStands (wallsSampled sense s).rg → t.walls = (wallsSampled sense s).walls) := by
  obtain ⟨hwalls, -⟩ := frameBoundary_fields ht
  obtain ⟨⟨-, -, happlied, -⟩, -⟩ := boundaryApplied_spec sense early s
  have hno (h : ¬SwitchStands (wallsSampled sense s).rg) : t.walls = (wallsSampled sense s).walls := by
    rw [hwalls, ← happlied]
    by_cases he : EndStands (wallsSampled sense s).rg
    · rw [boundaryTested_end early he, post_walls]
    · rw [boundaryTested_neither early h he]
  refine ⟨fun w => ?_, hno⟩
  by_cases h : SwitchStands (wallsSampled sense s).rg
  · obtain ⟨u, still, -, -, htested⟩ := boundaryTested_switch early h
    have hplaced : (switchNow u).walls = u.settledWalls u.pendingImage := congrArg State.walls (switchNow_frame u)
    rw [hwalls, htested, hplaced, ← happlied, ← still.walls, State.settledWalls, tab_get]
    exact ⟨rfl, rfl⟩
  · rw [hno h]
    exact ⟨rfl, rfl⟩

/-- The regroup machine after a boundary at which no switch is made (R28, R31). -/
theorem frameBoundary_rg (hs : ¬SwitchStands (wallsSampled sense s).rg) :
    (¬EndStands (wallsSampled sense s).rg →
      t.rg = { (wallsSampled sense s).rg with step := t.rg.step, pre := false, tested := false, noEval := same 4 false })
    ∧ (EndStands (wallsSampled sense s).rg → t.rg = { (wallsSampled sense s).rg.settle with
        tested := false, noEval := same 4 false, step := t.rg.step }) := by
  obtain ⟨-, -, -, hrg⟩ := frameBoundary_fields ht
  obtain ⟨-, happlied, -⟩ := boundaryApplied_spec sense early s
  refine ⟨fun he => ?_, fun he => ?_⟩
  · rw [boundaryTested_neither early hs he, happlied] at hrg
    rw [hrg]
  · rw [boundaryTested_end early he, post_rg, happlied] at hrg
    rw [hrg]
    rfl

/-- The notices of a regroup that a boundary posts: those of the samples first, then those of a switch or of the end (log 3). -/
theorem frameBoundary_told :
    (SwitchStands (wallsSampled sense s).rg → Told (flipNotices sense s ++ wallsSwitched (wallsSampled sense s) t) s t)
    ∧ (EndStands (wallsSampled sense s).rg → Told (flipNotices sense s ++ (wallsSampled sense s).rg.doneNotices) s t)
    ∧ (¬SwitchStands (wallsSampled sense s).rg → ¬EndStands (wallsSampled sense s).rg → Told (flipNotices sense s) s t) := by
  obtain ⟨hwalls, hlive, -⟩ := frameBoundary_fields ht
  have captured := frameBoundary_captured ht
  obtain ⟨⟨-, -, happlied, -, -, told⟩, -⟩ := boundaryApplied_spec sense early s
  refine ⟨fun h => ?_, fun h => ?_, fun hs he => ?_⟩
  · obtain ⟨u, still, -, -, htested⟩ := boundaryTested_switch early h
    have hsame : wallsSwitched u (switchNow u) = wallsSwitched (wallsSampled sense s) t := by
      simp only [wallsSwitched, hwalls, hlive, htested, still.walls, happlied]
    rw [htested] at captured
    simpa only [List.append_nil, hsame] using ((told.trans still.told).trans (switchNow_told u)).trans captured
  · have hdone : (wallsSampled sense s).rg.doneNotices.filter Notice.ofRegroup = (wallsSampled sense s).rg.doneNotices := by
      unfold Regroup.doneNotices
      cases (wallsSampled sense s).rg.applyMark <;> rfl
    have hpost : Told (wallsSampled sense s).rg.doneNotices (boundaryApplied sense early s) (boundaryTested sense early s) := by
      rw [boundaryTested_end early h]
      exact .postAll (fun p => by rw [post_port, withRg_port]) hdone
    simpa only [List.append_nil] using (told.trans hpost).trans captured
  · rw [boundaryTested_neither early hs he] at captured
    simpa only [List.append_nil] using told.trans captured

end

/-- Of a list some of whose members were picked, those that a narrower test picks. -/
theorem filter_of_filter {α : Type} {p q : α → Bool} (h : ∀ x, q x = true → p x = true) {l m : List α} (hl : l.filter p = m) :
    l.filter q = m.filter q := by
  rw [← hl, List.filter_filter]
  exact List.filter_congr fun x _ => by cases hq : q x <;> simp [h, hq]

/-- A notice of the end of a regroup (R31, R33). -/
def Notice.ofEnd : Notice → Bool
  | .regroupDone _ _ | .scene .applied _ _ => true
  | _ => false

theorem ofEnd_ofRegroup (n : Notice) (h : n.ofEnd = true) : n.ofRegroup = true := by
  unfold Notice.ofEnd at h
  split at h
  · rfl
  · rfl
  · exact absurd h Bool.false_ne_true

theorem filter_ofEnd_walls {α : Type} (l : List α) (g : α → Notice) (h : ∀ x, (g x).ofEnd = false) :
    (l.map g).filter Notice.ofEnd = [] := by
  simp [List.filter_eq_nil_iff, h]

/-- Settles O23: the row by `endDue_iff`, the boundary by `frameBoundary_rg` and `frameBoundary_told`. -/
theorem regroupDoneReturnsToSteady : Obligations.RegroupDoneReturnsToSteady := by
  refine ⟨fun s hh hno => ?_, fun s hh he => ?_, fun sense early s t hh ht => ?_⟩
  · refine (running_next regroupDone s hh).trans ?_
    rw [regroupDone_of_not hno]
  · refine ⟨settleLine (regroupDone s), regroupDone s, running_next regroupDone s hh, rfl, ?_, ?_⟩
    · rw [regroupDone_of_stands he, post_rg, Regroup.doneNotices]
      cases s.rg.applyMark <;> rfl
    · rw [regroupDone_of_stands he, post_rg]
      rfl
  · intro v
    have ht' := eq_of_running (f := frameBoundary sense early) hh ht
    obtain ⟨hswitch, hended, hneither⟩ := frameBoundary_told ht'
    refine ⟨fun he => ?_, fun p room => ?_⟩
    · have hno : ¬SwitchStands v.rg := fun hs => not_endStands_of_fadingOut hs.1 he
      exact (frameBoundary_rg ht' hno).2 he
    · have hflips : (flipNotices sense s).filter Notice.ofEnd = [] := filter_ofEnd_walls _ _ fun _ => rfl
      have hswitched : (wallsSwitched v t).filter Notice.ofEnd = [] := filter_ofEnd_walls _ _ fun _ => rfl
      have hdone : v.rg.doneNotices.filter Notice.ofEnd = .regroupDone v.rg.map v.rg.switched
          :: (match v.rg.applyMark with | none => [] | some b => [.scene .applied (some b) none]) := by
        unfold Regroup.doneNotices
        cases v.rg.applyMark <;> rfl
      have hends {ns l : List Notice} (h : ns.filter Notice.ofRegroup = l) : ns.filter Notice.ofEnd = l.filter Notice.ofEnd :=
        filter_of_filter ofEnd_ofRegroup h
      by_cases hs : SwitchStands v.rg
      · obtain ⟨-, ns, hq, hns⟩ := hswitch hs p room
        refine ⟨ns, hq, fun he => absurd he (not_endStands_of_fadingOut hs.1), fun _ => (hends hns).trans ?_⟩
        rw [List.filter_append, hflips, hswitched, List.nil_append]
      · by_cases he : EndStands v.rg
        · obtain ⟨-, ns, hq, hns⟩ := hended he p room
          refine ⟨ns, hq, fun _ => (hends hns).trans ?_, fun hno => absurd he hno⟩
          rw [List.filter_append, hflips, List.nil_append]
          exact hdone
        · obtain ⟨-, ns, hq, hns⟩ := hneither hs he p room
          exact ⟨ns, hq, fun h => absurd h he, fun _ => (hends hns).trans hflips⟩

end Sys2Proof.Machine
end

section
/-! SUPPORT. The walls of a boundary (R18, R19, R24 to R29): O18. -/

namespace Sys2Proof.Machine
open Host

/-- A WALL notice (R18, R29). -/
def Notice.isWall : Notice → Bool
  | .wall _ _ _ _ => true
  | _ => false

theorem isWall_ofRegroup (n : Notice) (h : n.isWall = true) : n.ofRegroup = true := by
  unfold Notice.isWall at h
  split at h
  · rfl
  · exact absurd h Bool.false_ne_true

theorem filter_isWall_map {α : Type} (l : List α) (g : α → Notice) (h : ∀ x, (g x).isWall = true) :
    (l.map g).filter Notice.isWall = l.map g := by
  simp [List.filter_eq_self, h]

theorem doneNotices_noWall (g : Regroup) : g.doneNotices.filter Notice.isWall = [] := by
  unfold Regroup.doneNotices
  cases g.applyMark <;> rfl

/-- The WALL notices of a boundary: those of its samples, then those of the effective states that a switch there changes. -/
theorem frameBoundary_wallNotices {sense : Sense} {early : Bool} {s t : State} (ht : t = settleLine (frameBoundary sense early s))
    {p : Port} (room : (t.port p).Room) : ∃ news, (t.port p).queue = (s.port p).queue ++ news
      ∧ news.filter Notice.isWall = flipNotices sense s ++ wallsSwitched (wallsSampled sense s) t := by
  obtain ⟨hswitch, hended, hneither⟩ := frameBoundary_told ht
  have hflips : (flipNotices sense s).filter Notice.isWall = flipNotices sense s := filter_isWall_map _ _ fun _ => rfl
  have hswitched : (wallsSwitched (wallsSampled sense s) t).filter Notice.isWall = wallsSwitched (wallsSampled sense s) t :=
    filter_isWall_map _ _ fun _ => rfl
  have hnone (h : ¬SwitchStands (wallsSampled sense s).rg) : wallsSwitched (wallsSampled sense s) t = [] := by
    rw [wallsSwitched, (frameBoundary_walls ht).2 h]
    simp
  by_cases hs : SwitchStands (wallsSampled sense s).rg
  · obtain ⟨-, ns, hq, hns⟩ := hswitch hs p room
    refine ⟨ns, hq, ?_⟩
    rw [filter_of_filter isWall_ofRegroup hns, List.filter_append, hflips, hswitched]
  · rw [hnone hs, List.append_nil]
    by_cases he : EndStands (wallsSampled sense s).rg
    · obtain ⟨-, ns, hq, hns⟩ := hended he p room
      refine ⟨ns, hq, ?_⟩
      rw [filter_of_filter isWall_ofRegroup hns, List.filter_append, hflips, doneNotices_noWall, List.append_nil]
    · obtain ⟨-, ns, hq, hns⟩ := hneither hs he p room
      exact ⟨ns, hq, (filter_of_filter isWall_ofRegroup hns).trans hflips⟩

/-- The change of a wall's sensed state (R18, R19). -/
theorem senseChange_eq (w : Fin 3) (level : WallState) (s : State) :
    let eff := effectiveOf s.live.wall[w] level
    let u := (s.setWall w { sensed := level, count := 0, effective := eff }).post [.wall w level s.live.wall[w] eff]
    senseChange w level s = if eff = (s.walls[w]).effective then u else regroupCause true u := by
  intro eff u
  have hnotice : (s.setWall w { sensed := level, count := 0, effective := eff }).wallNotice w
      = .wall w level s.live.wall[w] eff := by
    rw [State.wallNotice, setWall_same]
    rfl
  simp only [u, ← hnotice]
  rfl

/-- Where one wall alone is a cause, outside FADING_OUT, the boundary ends in FADING_OUT with its switch still to come (R27; log 39). -/
theorem frameBoundary_oneCause {sense : Sense} {early : Bool} {s t : State} (ht : t = settleLine (frameBoundary sense early s))
    {w : Fin 3} (hc : WallCauses sense s w) (hone : ∀ x, WallCauses sense s x → x = w) (hst : s.rg.state ≠ .fadingOut) :
    t.rg.state = .fadingOut ∧ t.rg.map = s.rg.map ∧ t.rg.changes = s.rg.changes
    ∧ ∀ b : Fin 26, t.rg.target b = if t.rg.affected[b] = true then 0 else 32768 := by
  obtain ⟨-, -, hcause⟩ := wallsSampled_spec sense s
  obtain ⟨u, hu, hrg⟩ := hcause w hc hone
  have hust : u.rg.state ≠ .fadingOut := by rw [hu]; exact hst
  have hv : (wallsSampled sense s).rg = (derivePending u).fadeOut true := by
    rw [hrg, regroupCause_eq, Regroup.caused, if_neg hust]
  have hno : ¬SwitchStands (wallsSampled sense s).rg := by
    rw [hv]
    rintro ⟨-, htested, -⟩
    simp [Regroup.fadeOut] at htested
  have hnoend : ¬EndStands (wallsSampled sense s).rg := not_endStands_of_fadingOut (by rw [hv]; rfl)
  have ht' := (frameBoundary_rg ht hno).1 hnoend
  rw [hv] at ht'
  have hstate : t.rg.state = .fadingOut := by rw [ht']; rfl
  refine ⟨hstate, ?_, ?_, target_fadingOut hstate⟩
  · rw [ht']
    exact (congrArg Regroup.map hu :)
  · rw [ht']
    exact (congrArg Regroup.changes hu :)

/-- Settles O18: the walls by `wallsSampled_spec` and `frameBoundary_walls`, the regroup machine by `frameBoundary_rg`, the notices by
`frameBoundary_wallNotices`, and the row by `senseChange_eq`. -/
theorem wallSensesAreDebounced : Obligations.WallSensesAreDebounced := by
  refine ⟨fun sense early s t hh ht => ?_, fun w s hh hcount => ?_⟩
  · intro v sampled eff flips causes
    have ht' := eq_of_running (f := frameBoundary sense early) hh ht
    obtain ⟨hsampled, hstill, -⟩ := wallsSampled_spec sense s
    obtain ⟨hwalls, hkept⟩ := frameBoundary_walls ht'
    refine ⟨fun w => ?_, hstill, fun hs => (frameBoundary_rg ht' hs).1, fun p room => ?_⟩
    · have hrec : v.walls[w] = sampledRec sense s w := hsampled w
      obtain ⟨hsensed, hcount⟩ := hwalls w
      have hnew (h : ¬SwitchStands v.rg) : t.walls[w] = sampledRec sense s w := by rw [hkept h]; exact hrec
      rw [hsampled w] at hsensed hcount
      dsimp only
      refine ⟨fun h => ?_, fun h hc => ?_, fun h hc => ?_, fun hs => ⟨fun hf => ?_, fun hf => ?_⟩, fun hc hone hst =>
        frameBoundary_oneCause ht' hc hone hst⟩
      · rw [hsensed, hcount, sampledRec, if_pos h]
        exact ⟨rfl, rfl⟩
      · rw [hsensed, hcount, sampledRec, if_neg h, if_pos hc]
        exact ⟨rfl, rfl⟩
      · rw [hsensed, hcount, sampledRec_flips ⟨h, hc⟩]
        exact ⟨rfl, rfl⟩
      · rw [hnew hs, sampledRec_flips hf]
        rfl
      · rw [hnew hs, sampledRec]
        split
        · rfl
        · rename_i h
          rw [if_pos (Nat.not_le.1 fun hc => hf ⟨h, hc⟩)]
    · exact frameBoundary_wallNotices ht' room
  · intro level eff u
    refine (running_next (wallSenseChange w) s hh).trans ?_
    have hdue : (s.walls[w]).count = Config.debounceTop := hcount
    rw [wallSenseChange, if_pos hdue, senseChange_eq]
    rfl

end Sys2Proof.Machine
end

section
/-! SUPPORT. The snapshot of a boundary (R22, R37, R38, R48): O16. -/

namespace Sys2Proof.Machine
open Host

/-! ## Factors (R38) -/

theorem factorOf_eq (n : Nat) :
    factorOf n = [32768, 32768, 23170, 18918, 16384, 14654, 13377, 12385, 11585].getD (min n 8) 0 := by
  by_cases h : n < 8
  · interval_cases n <;> rfl
  · obtain ⟨k, rfl⟩ : ∃ k, n = k + 8 := ⟨n - 8, by omega⟩
    rw [Nat.min_eq_right (Nat.le_add_left 8 k)]
    rfl

theorem factorOf_mem (n : Nat) : factorOf n ∈ [32768, 23170, 18918, 16384, 14654, 13377, 12385, 11585] := by
  unfold factorOf
  split <;> decide

theorem factor_mem (s : State) (i : Fin 26) :
    s.factor i ∈ [32768, 23170, 18918, 16384, 14654, 13377, 12385, 11585] := by
  have hunity : Config.unity ∈ [32768, 23170, 18918, 16384, 14654, 13377, 12385, 11585] := by decide
  unfold State.factor
  split
  · split
    · exact factorOf_mem _
    · exact hunity
  · exact hunity

/-- A far-end or line source, and a microphone outside GATED partitions, has the factor 1 (R37). -/
theorem factor_unity (s : State) (i : Fin 26) (h : 16 ≤ i.val ∨ s.mode (s.partOf (s.live.src[i]).sect) ≠ .gated) :
    s.factor i = 32768 := by
  unfold State.factor
  split
  · rename_i m hm
    obtain rfl : i = micSource m := by
      unfold sourceMic at hm
      split at hm
      · obtain rfl := Option.some.inj hm
        rfl
      · exact nomatch hm
    exact if_neg (h.resolve_left (Nat.not_le.2 m.isLt))
  · rfl

theorem factor_gated {s : State} {m : Fin 16} (h : s.mode (s.micPart m) = .gated) :
    s.factor (micSource m) = factorOf (s.handedCount (s.micPart m)) := by
  rw [State.factor, sourceMic_micSource]
  exact if_pos h

/-! ## The mix engine and the ramp step after a boundary -/

section
variable {sense : Sense} {early : Bool} {s t : State} (ht : t = settleLine (frameBoundary sense early s))
include ht

/-- The tests and captures of a boundary leave the snapshot and the bus ramp step. -/
theorem frameBoundary_mix : t.mix = { s.mix with snap := some (boundaryDecisions (boundarySampled sense s)).snapshot }
    ∧ t.rg.step = rampStep (s.live.writeAll ((s.portA.committed ++ s.portB.committed).flatMap (·.entries))).busCode := by
  obtain ⟨-, -, hmix, hrg⟩ := frameBoundary_fields ht
  obtain ⟨-, mrg, mmix, mlive, -⟩ := boundaryApplied_spec sense early s
  have hstep : t.rg.step = (boundaryTested sense early s).rg.step := by rw [hrg]
  have hmstep : (boundaryApplied sense early s).rg.step = rampStep (boundaryApplied sense early s).live.busCode := by rw [mrg]
  rw [hmix, hstep, ← mmix, ← mlive, ← hmstep]
  by_cases hs : SwitchStands (wallsSampled sense s).rg
  · obtain ⟨u, still, -, -, htested⟩ := boundaryTested_switch early hs
    obtain ⟨changed, hafter⟩ := switchNow_rg u
    have humix : (switchNow u).mix = u.mix := (congrArg State.mix (switchNow_frame u) :)
    rw [htested, humix, still.mix, hafter, still.rg]
    exact ⟨rfl, rfl⟩
  · by_cases he : EndStands (wallsSampled sense s).rg
    · rw [boundaryTested_end early he, post_mix, post_rg]
      exact ⟨rfl, rfl⟩
    · rw [boundaryTested_neither early hs he]
      exact ⟨rfl, rfl⟩

end

theorem takeSnapshot_gates (s : State) : (takeSnapshot s).gates = s.gates := rfl

theorem boundaryDecided_units (sense : Sense) (s : State) :
    (boundaryDecided sense s).gates = (boundaryDecisions (boundarySampled sense s)).gates
    ∧ (boundaryDecided sense s).rg = (boundaryDecisions (boundarySampled sense s)).rg := by
  unfold boundaryDecided
  exact ⟨takeSnapshot_gates _, takeSnapshot_rg _⟩

theorem mode_congr {s t : State} (hl : t.live = s.live) (hr : t.rg.map = s.rg.map) (q : Fin 4) : t.mode q = s.mode q := by
  simp only [State.mode, hl, hr]

/-- Settles O16: `frameBoundary_mix` brings the snapshot down to the decisions of the boundary, which leave the tables and the map. -/
theorem boundaryTakesSnapshot : Obligations.BoundaryTakesSnapshot := by
  intro sense early s t hh ht
  have ht' := eq_of_running (f := frameBoundary sense early) hh ht
  obtain ⟨hmix, hstep⟩ := frameBoundary_mix ht'
  obtain ⟨-, -, sahead, slive, smap, -⟩ := boundarySampled_spec sense s
  obtain ⟨-, dlive, drg, -⟩ := boundaryDecisions_kept (boundarySampled sense s)
  obtain ⟨dcounts, -⟩ := boundaryDecisions_ahead (boundarySampled sense s)
  have hholds (hno : NoSwitchDue s) : t.gates = (boundaryDecisions (boundarySampled sense s)).gates
      ∧ t.live = s.live ∧ t.rg.map = s.rg.map := by
    obtain ⟨hk, -⟩ := frameBoundary_holds ht' hno
    obtain ⟨-, -, -, hdlive, -⟩ := boundaryDecided_spec sense s
    obtain ⟨ugates, urg⟩ := boundaryDecided_units sense s
    exact ⟨by rw [hk.still.gates, ugates], by rw [hk.live, hdlive], by rw [hk.map, urg, drg, smap]⟩
  generalize boundaryDecisions (boundarySampled sense s) = d at hmix dlive drg dcounts hholds
  have hlive : d.live = s.live := dlive.trans slive
  have hmap : d.rg.map = s.rg.map := (congrArg Regroup.map drg).trans smap
  have hmode (q : Fin 4) : d.mode q = s.mode q := mode_congr hlive hmap q
  have hsnap : t.mix.snap = some d.snapshot := by rw [hmix]
  refine ⟨d.snapshot, hsnap, ?_, hmap, fun i => ?_, fun b => ?_, fun i => ?_, fun q => ?_, fun i hi => ?_, fun hno m hg => ?_, ?_⟩
  · exact congrArg Image.xpt hlive
  · simp only [State.snapshot, tab_get, hlive, and_self]
  · simp only [State.snapshot, tab_get, hlive, and_self]
  · rw [State.snapshot, tab_get]
    exact factor_mem d i
  · rw [State.snapshot, tab_get]
    exact hmode q
  · rw [State.snapshot, tab_get]
    refine factor_unity d i (hi.imp id fun h => ?_)
    rwa [hmode, State.partOf, hmap, hlive]
  · obtain ⟨hgates, htlive, htmap⟩ := hholds hno
    have htpart (x : Fin 16) : t.micPart x = d.micPart x :=
      micPart_congr (htlive.trans hlive.symm) (htmap.trans hmap.symm) x
    have htmode (q : Fin 4) : t.mode q = d.mode q := mode_congr (htlive.trans hlive.symm) (htmap.trans hmap.symm) q
    simp only [htpart, htmode, hgates] at hg ⊢
    rw [State.snapshot, tab_get, factor_gated hg, factorOf_eq, State.handedCount, openCount_eq, dcounts, sahead]
  · rw [hstep]
    intro code
    refine ⟨fun h => ?_, fun h => ?_, fun h => ?_, fun h => ?_⟩ <;> exact congrArg rampStep h

end Sys2Proof.Machine
end

section
/-! SUPPORT. The floor records at a switch (R116, R120, R121). -/

namespace Sys2Proof.Machine
open Host

/-! ## Lists -/

/-- Entries that contribute nothing need not be dropped first. -/
theorem flatMap_filter_of_nil {α β : Type} {f : α → List β} {p : α → Bool} {l : List α} (h : ∀ x ∈ l, p x = false → f x = []) :
    (l.filter p).flatMap f = l.flatMap f := by
  induction l with
  | nil => rfl
  | cons x l ih =>
    have ih := ih fun y hy => h y (List.mem_cons_of_mem _ hy)
    cases hx : p x
    · rw [List.filter_cons_of_neg (by simp [hx]), List.flatMap_cons, h x (List.mem_cons_self ..) hx, List.nil_append, ih]
    · rw [List.filter_cons_of_pos hx, List.flatMap_cons, List.flatMap_cons, ih]

/-- Of finitely many indices at most one passes a test, or some one index is the only one that can. -/
theorem exists_only_of_filter {n : Nat} [NeZero n] {p : Fin n → Bool} (h : ((List.finRange n).filter p).length ≤ 1) :
    ∃ o, ∀ o', o' ≠ o → p o' = false := by
  have hmem (o : Fin n) (ho : p o = true) : o ∈ (List.finRange n).filter p := List.mem_filter.2 ⟨List.mem_finRange o, ho⟩
  rcases hl : (List.finRange n).filter p with _ | ⟨o, _ | ⟨o', l⟩⟩
  · refine ⟨0, fun o' _ => Bool.eq_false_iff.2 fun ho => ?_⟩
    have := hmem o' ho
    rw [hl] at this
    exact absurd this List.not_mem_nil
  · refine ⟨o, fun o' hne => Bool.eq_false_iff.2 fun ho => ?_⟩
    have := hmem o' ho
    rw [hl] at this
    exact hne (List.mem_singleton.1 this)
  · rw [hl] at h
    exact absurd h (by simp)

/-- With one index the only one that can pass a test, at most one passes it. -/
theorem filter_length_of_only {n : Nat} {p : Fin n → Bool} {o : Fin n} (h : ∀ o', o' ≠ o → p o' = false) :
    ((List.finRange n).filter p).length ≤ 1 := by
  have hsub : ∀ x ∈ (List.finRange n).filter p, x = o := fun x hx => by
    by_contra hne
    exact Bool.false_ne_true ((h x hne).symm.trans (List.mem_filter.1 hx).2)
  have hnodup := (List.nodup_finRange n).filter p
  rcases hl : (List.finRange n).filter p with _ | ⟨x, _ | ⟨y, l⟩⟩
  · exact Nat.zero_le 1
  · exact Nat.le_refl 1
  · rw [hl] at hsub hnodup
    have hxy : x = y := (hsub x (by simp)).trans (hsub y (by simp)).symm
    exact absurd hxy (by simp at hnodup; exact hnodup.1.1)

/-- A list over all indices of which all but one contribute nothing. -/
theorem flatMap_of_only {n : Nat} {α : Type} {f : Fin n → List α} {o : Fin n} (h : ∀ o', o' ≠ o → f o' = []) :
    (List.finRange n).flatMap f = f o := by
  have hfilter : (List.finRange n).filter (fun x => decide (x = o)) = [o] := by
    have h : (List.finRange n).filter (· == o) = [o] := by
      rw [List.filter_beq, List.count_eq_one_of_mem (List.nodup_finRange n) (List.mem_finRange o)]
      rfl
    rw [← h]
    exact List.filter_congr fun x _ => (beq_eq_decide x o).symm
  rw [← flatMap_filter_of_nil (p := fun x => decide (x = o)) fun x _ hx => h x (of_decide_eq_false hx), hfilter]
  simp

/-! ## Chair microphones removed (R116) -/

theorem removeMics_concat (p : Fin 4) (l : List (Fin 16)) (m : Fin 16) (r : FloorRec) : removeMics p (l ++ [m]) r =
    ((FloorRec.removeMic p (removeMics p l r).1 m).1, (removeMics p l r).2 ++ (FloorRec.removeMic p (removeMics p l r).1 m).2) := by
  simp only [removeMics, List.foldl_append, List.foldl_cons, List.foldl_nil]

/-- The entries of several microphones removed one after another. -/
theorem removeMics_eq (p : Fin 4) (l : List (Fin 16)) (hl : l.Nodup) (r : FloorRec) : removeMics p l r =
    ({ queue := r.queue.filter fun e => decide (e.mic ∉ l), grants := r.grants.filter fun g => decide (g.mic ∉ l) },
      l.flatMap fun m => (FloorRec.removeMic p r m).2) := by
  induction l using List.reverseRecOn with
  | nil => simp [removeMics]
  | append_singleton l m ih =>
    obtain ⟨hl, -, hm⟩ := List.nodup_append.1 hl
    have hnew : m ∉ l := fun h => hm m h m (List.mem_singleton_self m) rfl
    have hsame {α : Type} (f : α → Fin 16) (es : List α) :
        (es.filter fun e => decide (f e ∉ l)).filter (fun e => decide (f e = m)) = es.filter fun e => decide (f e = m) := by
      rw [List.filter_filter]
      refine List.filter_congr fun e _ => ?_
      by_cases he : f e = m
      · simp [he, hnew]
      · simp [he]
    have hboth {α : Type} (f : α → Fin 16) (es : List α) :
        (es.filter fun e => decide (f e ∉ l)).filter (fun e => decide (f e ≠ m)) = es.filter fun e => decide (f e ∉ l ++ [m]) := by
      rw [List.filter_filter]
      refine List.filter_congr fun e _ => ?_
      simp [and_comm]
    rw [removeMics_concat, ih hl]
    simp only [FloorRec.removeMic, FloorRec.unqueue, FloorRec.ungrant, hsame, hboth, List.flatMap_append, List.flatMap_singleton]

/-! ## A record kept (R116) -/

/-- The microphone is one of partition `q`, and carries the chair flag. -/
def chairLeaves (s : State) (q : Fin 4) (m : Fin 16) : Bool := s.isChair m && decide (s.micPart m = q)

theorem mem_chairEntries (s : State) (q : Fin 4) (m : Fin 16) :
    m ∈ chairEntries s q ↔ chairLeaves s q m = true ∧ ((s.floors[q]).granted m || (s.floors[q]).queued m) = true := by
  simp only [chairEntries, chairLeaves, List.mem_filter, mem_members, Bool.and_eq_true, decide_eq_true_eq]
  constructor
  · rintro ⟨hp, hc, hin⟩
    exact ⟨⟨hc, hp⟩, hin⟩
  · rintro ⟨⟨hc, hp⟩, hin⟩
    exact ⟨hp, hc, hin⟩

theorem chairEntries_nodup (s : State) (q : Fin 4) : (chairEntries s q).Nodup :=
  ((List.nodup_finRange 16).filter _).filter _

theorem chairEntries_eq (s : State) (q : Fin 4) : chairEntries s q = ((List.finRange 16).filter (chairLeaves s q)).filter
    fun m => (s.floors[q]).granted m || (s.floors[q]).queued m := by
  rw [chairEntries, State.members, List.filter_filter, List.filter_filter]
  refine List.filter_congr fun m _ => ?_
  simp only [chairLeaves]
  cases s.isChair m <;> cases decide (s.micPart m = q) <;> simp

/-- The microphone has no entry in the record. -/
theorem removeMic_absent {p : Fin 4} {r : FloorRec} {m : Fin 16} (h : (r.granted m || r.queued m) = false) :
    (FloorRec.removeMic p r m).2 = [] := by
  obtain ⟨hg, hq⟩ := Bool.or_eq_false_iff.1 h
  have hnone {α : Type} {f : α → Fin 16} {es : List α} (he : (es.any fun e => decide (f e = m)) = false) :
      (es.filter fun e => decide (f e = m)) = [] := by
    rw [List.filter_eq_nil_iff]
    exact List.any_eq_false.1 he
  rw [FloorRec.removeMic, hnone hg, hnone hq]
  rfl

/-- The record of an unchanged partition after a switch (R116, R120). -/
theorem floorAfterWrite_self (s : State) (q : Fin 4) :
    let r := s.floors[q]
    let stay := r.grants.filter fun g => !chairLeaves s q g.mic
    floorAfterWrite s s q =
      ({ queue := r.queue.filter fun e => !chairLeaves s q e.mic, grants := stay.take (s.lead q).speakerLimit },
        (((List.finRange 16).filter (chairLeaves s q)).flatMap fun m => (FloorRec.removeMic q r m).2)
          ++ (stay.drop (s.lead q).speakerLimit).reverse.map fun g => .floor q g.mic .revoked) := by
  intro r stay
  have hgrants : (r.grants.filter fun g => decide (g.mic ∉ chairEntries s q)) = stay := by
    refine List.filter_congr fun g hg => ?_
    have hin : r.granted g.mic = true := List.any_eq_true.2 ⟨g, hg, decide_eq_true rfl⟩
    have hiff := mem_chairEntries s q g.mic
    rw [hin] at hiff
    simp [hiff]
  have hqueue : (r.queue.filter fun e => decide (e.mic ∉ chairEntries s q)) = r.queue.filter fun e => !chairLeaves s q e.mic := by
    refine List.filter_congr fun e he => ?_
    have hin : r.queued e.mic = true := List.any_eq_true.2 ⟨e, he, decide_eq_true rfl⟩
    have hiff := mem_chairEntries s q e.mic
    rw [hin] at hiff
    simp [hiff]
  have hmode : ¬(s.mode q = .chaired ∧ s.mode q ≠ .chaired) := fun h => h.2 h.1
  have hnotices : ((chairEntries s q).flatMap fun m => (FloorRec.removeMic q r m).2)
      = ((List.finRange 16).filter (chairLeaves s q)).flatMap fun m => (FloorRec.removeMic q r m).2 := by
    rw [chairEntries_eq]
    exact flatMap_filter_of_nil fun m _ hm => removeMic_absent hm
  simp only [floorAfterWrite, if_neg hmode, removeMics_eq q _ (chairEntries_nodup s q)]
  rw [hgrants, hqueue, hnotices]
  rfl

/-! ## Records merged (R121) -/

theorem olderEntry_iff (x y : QueueEntry) : olderEntry x y = true ↔ y.age < x.age ∨ (x.age = y.age ∧ x.mic ≤ y.mic) := by
  unfold olderEntry
  split
  · rename_i h
    simp [h]
  · rename_i h
    have h : x.age = y.age := not_ne_iff.1 h
    simp [h]

theorem olderGrant_iff (x y : GrantEntry) :
    olderGrant x y = true ↔ y.elapsed < x.elapsed ∨ (x.elapsed = y.elapsed ∧ x.mic ≤ y.mic) := by
  unfold olderGrant
  split
  · rename_i h
    simp [h]
  · rename_i h
    have h : x.elapsed = y.elapsed := not_ne_iff.1 h
    simp [h]

theorem sorted_queue (l : List QueueEntry) : (l.insertionSort fun x y => olderEntry x y = true).Pairwise
    fun x y => y.age < x.age ∨ (x.age = y.age ∧ x.mic ≤ y.mic) := by
  have total : Std.Total fun x y => olderEntry x y = true := ⟨fun x y => by simp only [olderEntry_iff]; omega⟩
  have trans : IsTrans QueueEntry fun x y => olderEntry x y = true := ⟨fun x y z => by simp only [olderEntry_iff]; omega⟩
  exact (List.pairwise_insertionSort (fun x y => olderEntry x y = true) l).imp fun h => (olderEntry_iff _ _).1 h

theorem sorted_grants (l : List GrantEntry) : (l.insertionSort fun x y => olderGrant x y = true).Pairwise
    fun x y => y.elapsed < x.elapsed ∨ (x.elapsed = y.elapsed ∧ x.mic ≤ y.mic) := by
  have total : Std.Total fun x y => olderGrant x y = true := ⟨fun x y => by simp only [olderGrant_iff]; omega⟩
  have trans : IsTrans GrantEntry fun x y => olderGrant x y = true := ⟨fun x y z => by simp only [olderGrant_iff]; omega⟩
  exact (List.pairwise_insertionSort (fun x y => olderGrant x y = true) l).imp fun h => (olderGrant_iff _ _).1 h

theorem holdsAny_eq_false (r : FloorRec) : r.holdsAny = false ↔ r.queue = [] ∧ r.grants = [] := by
  simp [FloorRec.holdsAny]

/-- The merge of gathered records: their entries, in the order of the one record that has any, or by count (R121). -/
theorem mergeRecords_spec (f : Fin 4 → FloorRec) :
    let g := mergeRecords (slots.map f)
    let only : Fin 4 → Prop := fun o => ∀ o' : Fin 4, o' ≠ o → (f o').queue = [] ∧ (f o').grants = []
    g.queue.Perm ((List.finRange 4).flatMap fun o => (f o).queue) ∧ g.grants.Perm ((List.finRange 4).flatMap fun o => (f o).grants)
    ∧ (∀ o, only o → g.queue = (f o).queue ∧ g.grants = (f o).grants)
    ∧ ((∀ o, ¬only o) → g.queue.Pairwise (fun x y => y.age < x.age ∨ (x.age = y.age ∧ x.mic ≤ y.mic))
        ∧ g.grants.Pairwise fun x y => y.elapsed < x.elapsed ∨ (x.elapsed = y.elapsed ∧ x.mic ≤ y.mic)) := by
  intro g only
  have hjoin : joinRecords (slots.map f) = { queue := (List.finRange 4).flatMap fun o => (f o).queue
                                             grants := (List.finRange 4).flatMap fun o => (f o).grants } := by
    simp only [joinRecords, List.flatMap_map]
    rfl
  have hcount : ((slots.map f).filter FloorRec.holdsAny).length = ((List.finRange 4).filter fun o => (f o).holdsAny).length := by
    rw [List.filter_map, List.length_map]
    rfl
  have honly (o : Fin 4) : only o ↔ ∀ o', o' ≠ o → (f o').holdsAny = false := by
    simp only [only, holdsAny_eq_false]
  have hg : g = if ((List.finRange 4).filter fun o => (f o).holdsAny).length ≤ 1 then joinRecords (slots.map f)
      else { queue := (joinRecords (slots.map f)).queue.insertionSort fun x y => olderEntry x y = true
             grants := (joinRecords (slots.map f)).grants.insertionSort fun x y => olderGrant x y = true } := by
    rw [← hcount]
    rfl
  rw [hg, hjoin]
  split
  · rename_i hle
    refine ⟨.refl _, .refl _, fun o ho => ⟨?_, ?_⟩, fun hno => ?_⟩
    · exact flatMap_of_only fun o' hne => (ho o' hne).1
    · exact flatMap_of_only fun o' hne => (ho o' hne).2
    · obtain ⟨o, ho⟩ := exists_only_of_filter hle
      exact absurd ((honly o).2 ho) (hno o)
  · rename_i hle
    refine ⟨List.perm_insertionSort .., List.perm_insertionSort .., fun o ho => ?_, fun _ => ⟨sorted_queue _, sorted_grants _⟩⟩
    exact absurd (filter_length_of_only ((honly o).1 ho)) hle

/-! ## A record rebuilt (R120) -/

section
variable (old s : State) (q : Fin 4)

/-- The queue entries of old slot `o` whose microphones lie in slot `q` now. -/
def movedQueue (o : Fin 4) : List QueueEntry := (old.floors[o]).queue.filter fun e => decide (s.micPart e.mic = q)

/-- The grants of old slot `o` whose microphones lie in slot `q` now. -/
def movedGrants (o : Fin 4) : List GrantEntry := (old.floors[o]).grants.filter fun g => decide (s.micPart g.mic = q)

/-- Those of microphones that are no chair microphones. -/
def keptQueue (o : Fin 4) : List QueueEntry := (movedQueue old s q o).filter fun e => !s.isChair e.mic

/-- Those of microphones that are no chair microphones. -/
def keptGrants (o : Fin 4) : List GrantEntry := (movedGrants old s q o).filter fun g => !s.isChair g.mic

/-- A microphone has an entry in one of several lists. -/
def inLists {α : Type} (f : α → Fin 16) (l : Fin 4 → List α) (m : Fin 16) : Bool :=
  (List.finRange 4).any fun o => (l o).any fun e => decide (f e = m)

theorem mem_flatMap_map_iff {α : Type} (f : α → Fin 16) (l : Fin 4 → List α) (m : Fin 16) :
    m ∈ ((List.finRange 4).flatMap l).map f ↔ inLists f l m = true := by
  simp only [inLists, List.mem_map, List.mem_flatMap, List.any_eq_true, decide_eq_true_eq]
  constructor
  · rintro ⟨e, ⟨o, ho, he⟩, rfl⟩
    exact ⟨o, ho, e, he, rfl⟩
  · rintro ⟨o, ho, e, he, rfl⟩
    exact ⟨e, ⟨o, ho, he⟩, rfl⟩

theorem ascending_lists {α : Type} (f : α → Fin 16) (l : Fin 4 → List α) :
    ascending (((List.finRange 4).flatMap l).map f) = (List.finRange 16).filter (inLists f l) := by
  refine List.filter_congr fun m _ => ?_
  rw [Bool.decide_congr (mem_flatMap_map_iff f l m), Bool.decide_eq_true]

/-- The REMOVED notices of the chair microphones among the gathered entries. -/
def chairsRemoved : List Notice :=
  ((List.finRange 16).filter fun m => s.isChair m
    && (inLists QueueEntry.mic (movedQueue old s q) m || inLists GrantEntry.mic (movedGrants old s q) m)).map fun m =>
      .floor q m .removed

/-- The gathered records without chair microphones, merged. -/
def mergedFloor : FloorRec := mergeRecords (slots.map fun o => { queue := keptQueue old s q o, grants := keptGrants old s q o })

/-- The record of a changed partition after a switch, and its notices (R120, R121). -/
theorem rebuildFloor_eq (discards : Bool) : rebuildFloor old s discards q =
    if s.mode q ≠ .chaired ∨ discards = true then
      (emptyFloor, chairsRemoved old s q
        ++ ((List.finRange 16).filter (inLists GrantEntry.mic (keptGrants old s q))).map (fun m => .floor q m .cleared)
        ++ ((List.finRange 16).filter (inLists QueueEntry.mic (keptQueue old s q))).map fun m => .floor q m .cleared)
    else ({ mergedFloor old s q with grants := (mergedFloor old s q).grants.take (s.lead q).speakerLimit },
      chairsRemoved old s q ++ ((mergedFloor old s q).grants.drop (s.lead q).speakerLimit).map fun g => .floor q g.mic .revoked) := by
  have hall : joinRecords (slots.map (gatherFrom old s q)) = { queue := (List.finRange 4).flatMap (movedQueue old s q)
                                                               grants := (List.finRange 4).flatMap (movedGrants old s q) } := by
    simp only [joinRecords, List.flatMap_map]
    rfl
  have hkept : (slots.map (gatherFrom old s q)).map (withoutChairs s)
      = slots.map fun o => { queue := keptQueue old s q o, grants := keptGrants old s q o } := by
    rw [List.map_map]
    rfl
  have hrest : joinRecords (slots.map fun o => { queue := keptQueue old s q o, grants := keptGrants old s q o })
      = { queue := (List.finRange 4).flatMap (keptQueue old s q), grants := (List.finRange 4).flatMap (keptGrants old s q) } := by
    simp only [joinRecords, List.flatMap_map]
    rfl
  have hchairs : (ascending ((((List.finRange 4).flatMap (movedGrants old s q)).map (·.mic)
        ++ ((List.finRange 4).flatMap (movedQueue old s q)).map (·.mic)).filter s.isChair)).map (fun m => Notice.floor q m .removed)
      = chairsRemoved old s q := by
    rw [chairsRemoved, ascending]
    congr 1
    refine List.filter_congr fun m _ => Bool.eq_iff_iff.2 ?_
    rw [decide_eq_true_eq, List.mem_filter, List.mem_append, mem_flatMap_map_iff, mem_flatMap_map_iff, Bool.and_eq_true,
      Bool.or_eq_true, and_comm, or_comm]
  simp only [rebuildFloor, hkept, hall, hrest, hchairs, ascending_lists]
  rfl

end

end Sys2Proof.Machine
end

section
/-! SUPPORT. What a switch leaves, by the state that it reaches (R29, R30, R84, R102, R120, R121). -/

namespace Sys2Proof.Machine
open Host

/-! ## Tables, walls and the regroup machine -/

theorem switchNow_fields (s : State) :
    (switchNow s).live = s.pendingImage ∧ (switchNow s).walls = s.settledWalls s.pendingImage
    ∧ (switchNow s).rg = s.rg.afterSwitch (switchedSlots s) ∧ (switchNow s).scene = switchScene s
    ∧ ((switchNow s).ahead = { s.ahead with counts := switchCounts s (switchPlaced s) })
    ∧ (switchNow s).floors = tab fun q => (switchedFloor s q).1 := by
  have h := switchNow_frame s
  exact ⟨(congrArg State.live h :), (congrArg State.walls h :), (congrArg State.rg h :), (congrArg State.scene h :),
    (congrArg State.ahead h :), (congrArg State.floors h :)⟩

/-- What a switch moves (R29). -/
theorem switchNow_moves (s : State) : switchNow s = { s with
    live := (switchNow s).live, walls := (switchNow s).walls, rg := (switchNow s).rg, mute := (switchNow s).mute
    gates := (switchNow s).gates, floors := (switchNow s).floors, ahead := (switchNow s).ahead, env := (switchNow s).env
    scene := (switchNow s).scene, portA := (switchNow s).portA, portB := (switchNow s).portB } := by
  have h := switchNow_frame s
  obtain ⟨h1, h2, h3, h4, h5, h6⟩ := switchNow_fields s
  rw [← h2, ← h1, ← h3, ← h4, ← h5, ← h6] at h
  exact h

theorem afterSwitch_target (g : Regroup) (changed : Vector Bool 4) (b : Fin 26) :
    (g.afterSwitch changed).target b = if g.touched[b] = true then 0 else 32768 := by
  simp [Regroup.target, Regroup.afterSwitch, Config.unity]

/-- The tables of the switch are the pending ones, or the image of an APPLY, whose buffer is freed (R29, R33, R169). -/
theorem switchNow_tables (s : State) :
    (s.rg.applyFrom = none → (switchNow s).live = (s.rg.changes.flatMap (·.batch.entries)).foldl Image.write s.live
      ∧ (switchNow s).scene = s.scene)
    ∧ ∀ b, s.rg.applyFrom = some b → (switchNow s).live = (s.scene.bufs[b]).image
      ∧ (switchNow s).scene = { s.scene with bufs := s.scene.bufs.set b.val { s.scene.bufs[b] with lock := .free } } := by
  obtain ⟨hlive, -, -, hscene, -⟩ := switchNow_fields s
  refine ⟨fun h => ⟨hlive.trans (pendingImage_of_changes h), ?_⟩, fun b h => ⟨hlive.trans (pendingImage_of_apply h), ?_⟩⟩
  · rw [hscene, switchScene, h]
  · rw [hscene, switchScene, h]
    rfl

theorem switchNow_wall (s : State) (w : Fin 3) : (switchNow s).walls[w]
    = { s.walls[w] with effective := effectiveOf (switchNow s).live.wall[w] (s.walls[w]).sensed } := by
  obtain ⟨hlive, hwalls, -⟩ := switchNow_fields s
  rw [hwalls, hlive, State.settledWalls, tab_get]

/-! ## Partitions that the switch changes (R30) -/

/-- The partitions of the placed state are those of the state reached. -/
theorem switchPlaced_alike (s : State) :
    (switchPlaced s).live = (switchNow s).live ∧ (switchPlaced s).rg.map = (switchNow s).rg.map
    ∧ (switchPlaced s).gates = s.gates ∧ (switchPlaced s).floors = s.floors ∧ (switchPlaced s).mute = s.mute
    ∧ (switchPlaced s).ahead = s.ahead := by
  obtain ⟨hlive, -, hrg, -⟩ := switchNow_fields s
  have h := switchPlaced_frame s
  have hlive' : (switchPlaced s).live = s.pendingImage := (congrArg State.live h :)
  have hrg' : (switchPlaced s).rg = s.rg.afterSwitch (switchedSlots s) := (congrArg State.rg h :)
  exact ⟨hlive'.trans hlive.symm, by rw [hrg', hrg], (congrArg State.gates h :), (congrArg State.floors h :),
    (congrArg State.mute h :), (congrArg State.ahead h :)⟩

theorem switchPlaced_micPart (s : State) (m : Fin 16) : (switchPlaced s).micPart m = (switchNow s).micPart m := by
  obtain ⟨hlive, hmap, -⟩ := switchPlaced_alike s
  exact micPart_congr hlive hmap m

theorem switchPlaced_mode (s : State) (q : Fin 4) : (switchPlaced s).mode q = (switchNow s).mode q := by
  obtain ⟨hlive, hmap, -⟩ := switchPlaced_alike s
  exact mode_congr hlive hmap q

theorem switchPlaced_isChair (s : State) (m : Fin 16) : (switchPlaced s).isChair m = (switchNow s).isChair m := by
  obtain ⟨hlive, -⟩ := switchPlaced_alike s
  simp only [State.isChair, hlive]

theorem switchPlaced_lead (s : State) (q : Fin 4) : (switchPlaced s).lead q = (switchNow s).lead q := by
  obtain ⟨hlive, -⟩ := switchPlaced_alike s
  simp only [State.lead, hlive]

theorem members_eq_iff (s t : State) (q : Fin 4) : s.members q = t.members q ↔ ∀ m : Fin 16, s.micPart m = q ↔ t.micPart m = q := by
  refine ⟨fun h m => ?_, fun h => List.filter_congr fun m _ => decide_eq_decide.2 (h m)⟩
  rw [← mem_members, ← mem_members, h]

/-- A slot is changed where its partition is new, or its microphones or its mode changed (R30). -/
theorem switchedSlots_eq (s : State) (q : Fin 4) : (switchedSlots s)[q] = (isLead (switchNow s).rg.map q
    && !(isLead s.rg.map q && decide ((∀ m : Fin 16, s.micPart m = q ↔ (switchNow s).micPart m = q)
      ∧ s.mode q = (switchNow s).mode q))) := by
  obtain ⟨-, hmap, -⟩ := switchPlaced_alike s
  have hmembers : s.members q = (switchPlaced s).members q
      ↔ ∀ m : Fin 16, s.micPart m = q ↔ (switchNow s).micPart m = q := by
    simp only [members_eq_iff, switchPlaced_micPart]
  rw [switchedSlots_get, partitionChanged, partitionUnchanged, hmap, switchPlaced_mode, Bool.and_assoc, ← Bool.decide_and,
    Bool.decide_congr (and_congr_left' hmembers)]

theorem switchedSlots_lead {s : State} {q : Fin 4} (h : (switchedSlots s)[q] = true) : isLead (switchNow s).rg.map q = true := by
  rw [switchedSlots_eq, Bool.and_eq_true] at h
  exact h.1

/-- Quiet flags, evaluations and gates after a switch (R84, R102). -/
theorem switchNow_units (s : State) :
    (∀ q : Fin 4, (switchNow s).mute.quiet[q]
      = (s.mute.quiet[q] && isLead (switchNow s).rg.map q && !(switchedSlots s)[q]))
    ∧ (∀ q : Fin 4, (switchNow s).ahead.counts[q]
      = if isLead (switchNow s).rg.map q = true ∧ (switchedSlots s)[q] = false then s.ahead.counts[q] else none)
    ∧ (∀ m : Fin 16, (switchNow s).gates[m] =
        if (switchedSlots s)[(switchNow s).micPart m] = true
            ∨ (takesHold s (switchNow s) m = true ∧ (s.gates[m]).state ≠ .closed)
        then { state := .closed, counter := 0 } else s.gates[m]) := by
  obtain ⟨-, hmap, hgates, -, hmute, hahead⟩ := switchPlaced_alike s
  obtain ⟨-, -, hquiet⟩ := switchNow_mute s
  obtain ⟨-, -, -, -, hcounts, -⟩ := switchNow_fields s
  obtain ⟨-, -, hfollow, -⟩ := switchNow_follow s
  refine ⟨fun q => ?_, fun q => ?_, fun m => ?_⟩
  · rw [hquiet, switchQuiet, tab_get, hmute, hmap, switchedSlots_get]
  · rw [hcounts, switchCounts, tab_get, hahead, hmap, ← switchedSlots_get]
    simp only [Bool.and_eq_true, Bool.not_eq_true']
  · have hgate : (switchGates s (switchPlaced s))[m]
        = if (switchedSlots s)[(switchNow s).micPart m] = true then shutGate else s.gates[m] := by
      rw [switchGates, tab_get, hgates, switchPlaced_micPart, ← switchedSlots_get]
    rw [hfollow m, hgate]
    by_cases hc : (switchedSlots s)[(switchNow s).micPart m] = true
    · simp only [hc, true_or, if_true, ite_self]
      rfl
    · simp only [hc, false_or, Bool.false_eq_true, if_false, Gate.isOpen, decide_eq_true_eq]
      rfl

/-! ## Floor records -/

theorem switchNow_floor (s : State) (q : Fin 4) : (switchNow s).floors[q] = (switchedFloor s q).1 := by
  obtain ⟨-, -, -, -, -, hfloors⟩ := switchNow_fields s
  rw [hfloors, tab_get]

/-- A slot that is not in use is empty (R120). -/
theorem switchedFloor_unused {s : State} {q : Fin 4} (h : isLead (switchNow s).rg.map q = false) :
    switchedFloor s q = (emptyFloor, []) := by
  obtain ⟨-, hmap, -⟩ := switchPlaced_alike s
  have hno : ¬(switchedSlots s)[q] = true := fun hc => Bool.false_ne_true (h.symm.trans (switchedSlots_lead hc))
  rw [switchedSlots_get] at hno
  rw [switchedFloor, switchFloor, if_neg hno, hmap, h]
  rfl

/-- The record of an unchanged partition (R116, R120). -/
theorem switchedFloor_kept {s : State} {q : Fin 4} (hl : isLead (switchNow s).rg.map q = true)
    (hc : (switchedSlots s)[q] = false) :
    let leaves : Fin 16 → Bool := fun m => (switchNow s).isChair m && decide ((switchNow s).micPart m = q)
    let stay := (s.floors[q]).grants.filter fun g => !leaves g.mic
    switchedFloor s q =
      ({ queue := (s.floors[q]).queue.filter fun e => !leaves e.mic, grants := stay.take ((switchNow s).lead q).speakerLimit },
        (((List.finRange 16).filter leaves).flatMap fun m => (FloorRec.removeMic q s.floors[q] m).2)
          ++ (stay.drop ((switchNow s).lead q).speakerLimit).reverse.map fun g => .floor q g.mic .revoked) := by
  intro leaves stay
  obtain ⟨-, hmap, -, hfloors, -⟩ := switchPlaced_alike s
  have hno : ¬partitionChanged s (switchPlaced s) q = true := by rw [← switchedSlots_get, hc]; exact Bool.false_ne_true
  have hleaves : chairLeaves (switchPlaced s) q = leaves := by
    funext m
    rw [chairLeaves, switchPlaced_isChair, switchPlaced_micPart]
  have hself := floorAfterWrite_self (switchPlaced s) q
  rw [hleaves, switchPlaced_lead, hfloors] at hself
  rw [switchedFloor, switchFloor, if_neg hno, hmap, if_pos hl]
  exact hself

/-- The record of a changed partition (R120, R121). -/
theorem switchedFloor_changed {s : State} {q : Fin 4} (hc : (switchedSlots s)[q] = true) :
    switchedFloor s q = rebuildFloor s (switchNow s)
      (s.rg.applyFrom.isSome && decide (s.mode s.rg.map[q] ≠ (switchNow s).mode q)) q := by
  have hmoved : movedQueue s (switchPlaced s) q = movedQueue s (switchNow s) q ∧
      movedGrants s (switchPlaced s) q = movedGrants s (switchNow s) q := by
    constructor <;> funext o <;> simp only [movedQueue, movedGrants, switchPlaced_micPart]
  obtain ⟨hmq, hmg⟩ := hmoved
  have hkept : keptQueue s (switchPlaced s) q = keptQueue s (switchNow s) q ∧
      keptGrants s (switchPlaced s) q = keptGrants s (switchNow s) q := by
    constructor <;> funext o <;> simp only [keptQueue, keptGrants, switchPlaced_isChair, hmq, hmg]
  obtain ⟨hkq, hkg⟩ := hkept
  have hchairs : chairsRemoved s (switchPlaced s) q = chairsRemoved s (switchNow s) q := by
    simp only [chairsRemoved, switchPlaced_isChair, hmq, hmg]
  have hmerged : mergedFloor s (switchPlaced s) q = mergedFloor s (switchNow s) q := by
    simp only [mergedFloor, hkq, hkg]
  rw [switchedSlots_get] at hc
  rw [switchedFloor, switchFloor, if_pos hc, rebuildFloor_eq, rebuildFloor_eq, switchPlaced_mode, switchPlaced_lead, hchairs,
    hmerged, hkq, hkg]

end Sys2Proof.Machine
end

section
/-! SUPPORT. The switch by its row and at a boundary (R29, R30, R120; log 3): O22. -/

namespace Sys2Proof.Machine
open Host

/-! ## What comes before the switch proper (R120, R152) -/

theorem same_get {α : Type} {n : Nat} (x : α) (i : Fin n) : (same n x)[i] = x := by simp

/-- With every slot's floor work taken nothing is left to bring level, and with none nothing is to. -/
theorem levelPieces_of_same {s : State} (h : s.ahead.floors = same 4 false ∨ s.ahead.floors = same 4 true) : levelPieces s = s := by
  rcases h with h | h
  · refine if_neg fun hany => ?_
    obtain ⟨q, -, hq⟩ := List.any_eq_true.1 hany
    rw [h, same_get] at hq
    exact Bool.false_ne_true hq
  · have hwork (q : Fin 4) : floorWork s q = s := by
      refine if_neg ?_
      rw [h, same_get]
      simp
    have hall (l : List (Fin 4)) : l.foldl floorWork s = s := by
      induction l with
      | nil => rfl
      | cons q l ih => rw [List.foldl_cons, hwork, ih]
    have hmarked : s.withWorked (same 4 true) = s := by rw [← h]; rfl
    unfold levelPieces
    split
    · rw [takePieces, hall, hmarked]
    · rfl

theorem applyCommitted_of_nil {s : State} {p : Port} (h : (s.port p).committed = []) : applyCommitted p s = s := by
  have hport : s.setPort p { s.port p with committed := [] } = s := by
    rw [← h]
    cases p <;> rfl
  simp only [applyCommitted, h, List.foldl_nil]
  rw [← h] at hport ⊢
  exact hport

theorem regroupSwitch_eq {s : State} (h : SwitchStands s.rg) :
    regroupSwitch s = switchNow (applyCommitted .b (applyCommitted .a (levelPieces s))) := if_pos ((switchDue_iff s.rg).2 h)

/-- One slot's floor work, by the state before all of it. -/
def pieceTaken (s u : State) (q : Fin 4) : State :=
  let piece := floorPiece q (s.lead q) s.floors[q]
  if s.slotIn .chaired q = true ∧ s.ahead.floors[q] = false
  then retarget u (State.post { u with floors := u.floors.set q.val piece.1 } piece.2) else u

/-- The slots' pieces of floor work read each its own record. -/
theorem floorWorks_eq (s : State) (l : List (Fin 4)) (hl : l.Nodup) (u : State) (hlive : u.live = s.live)
    (hmap : u.rg.map = s.rg.map) (hahead : u.ahead = s.ahead) (hfloors : ∀ q ∈ l, u.floors[q] = s.floors[q]) :
    l.foldl floorWork u = l.foldl (pieceTaken s) u := by
  induction l generalizing u with
  | nil => rfl
  | cons q l ih =>
    obtain ⟨hq, hl⟩ := List.nodup_cons.1 hl
    have hlead : u.lead q = s.lead q := by simp only [State.lead, hlive]
    have hin : u.slotIn .chaired q = s.slotIn .chaired q := by
      simp only [State.slotIn, hmap, mode_congr hlive hmap]
    have hstep : floorWork u q = pieceTaken s u q := by
      simp only [floorWork, pieceTaken, hin, hlead, hahead, hfloors q (List.mem_cons_self ..), Bool.and_eq_true,
        Bool.not_eq_true', setFloor]
      rfl
    rw [List.foldl_cons, List.foldl_cons, ← hstep]
    refine ih hl _ (by simp [hlive]) (by simp [hmap]) ?_ fun x hx => ?_
    · rw [← hahead]
      unfold floorWork
      split <;> simp
    · have hother : (floorWork u q).floors[x] = u.floors[x] := by
        unfold floorWork
        split
        · exact (congrArg (·[x]) (setFloor_spec ..).2).trans (put_other _ _ _ _ fun h => hq (h ▸ hx))
        · rfl
      rw [hother, hfloors x (List.mem_cons_of_mem _ hx)]

/-- A switch that finds some slot's floor work taken ahead takes that of the others first (R120). -/
theorem regroupSwitch_levels {s : State} (h : SwitchStands s.rg) (hq : ∃ q : Fin 4, s.ahead.floors[q] = true) :
    let u := (List.finRange 4).foldl (pieceTaken s) s
    regroupSwitch s = regroupSwitch { u with ahead := { u.ahead with floors := same 4 true } } := by
  intro u
  have htaken : takePieces s = { u with ahead := { u.ahead with floors := same 4 true } } := by
    simp only [u]
    rw [← floorWorks_eq s (List.finRange 4) (List.nodup_finRange 4) s rfl rfl rfl fun _ _ => rfl]
    rfl
  have hlevel : levelPieces s = takePieces s := by
    obtain ⟨q, hq⟩ := hq
    exact if_pos (List.any_eq_true.2 ⟨q, List.mem_finRange q, hq⟩)
  have hagain : levelPieces (takePieces s) = takePieces s := levelPieces_of_same (.inr rfl)
  have hstands : SwitchStands (takePieces s).rg := by rwa [takePieces_rg]
  rw [← htaken, regroupSwitch_eq h, regroupSwitch_eq hstands, hlevel, hagain]

/-- A switch applies the committed lists first, Port A's before Port B's (log 3). -/
theorem regroupSwitch_applies {s : State} (h : SwitchStands s.rg)
    (hf : s.ahead.floors = same 4 false ∨ s.ahead.floors = same 4 true) :
    regroupSwitch s = regroupSwitch (applyCommitted .b (applyCommitted .a s)) := by
  obtain ⟨-, floorsA, emptyA, -⟩ := applyCommitted_live .a s
  obtain ⟨-, floorsB, emptyB, otherB⟩ := applyCommitted_live .b (applyCommitted .a s)
  have hrg : (applyCommitted .b (applyCommitted .a s)).rg = s.rg := by rw [applyCommitted_rg, applyCommitted_rg]
  have hlevel := levelPieces_of_same hf
  rw [regroupSwitch_eq h, hlevel]
  generalize applyCommitted .b (applyCommitted .a s) = t at floorsB emptyB otherB hrg ⊢
  have hf' : t.ahead.floors = same 4 false ∨ t.ahead.floors = same 4 true := by rwa [floorsB, floorsA]
  have hstands : SwitchStands t.rg := by rwa [hrg]
  have hemptyA : (t.port .a).committed = [] := (otherB .a Port.noConfusion).trans emptyA
  rw [regroupSwitch_eq hstands, levelPieces_of_same hf', applyCommitted_of_nil hemptyA, applyCommitted_of_nil emptyB]

theorem regroupSwitch_bare {s : State} (h : SwitchStands s.rg)
    (hf : s.ahead.floors = same 4 false ∨ s.ahead.floors = same 4 true) (ha : s.portA.committed = [])
    (hb : s.portB.committed = []) : regroupSwitch s = switchNow s := by
  have ha' : (s.port .a).committed = [] := ha
  have hb' : (s.port .b).committed = [] := hb
  rw [regroupSwitch_eq h, levelPieces_of_same hf, applyCommitted_of_nil ha', applyCommitted_of_nil hb']

end Sys2Proof.Machine
end

section
/-! SUPPORT. O22: the switch by its row, and at a boundary (log 3). -/

namespace Sys2Proof.Machine
open Host

/-! ## The row -/

/-- The floor change of a slot that stays in use unchanged, from `s` to `t` (R116, R120). -/
def KeptFloor (s t : State) (q : Fin 4) (c : FloorChange) : Prop :=
  let leaves : Fin 16 → Bool := fun m => t.isChair m && decide (t.micPart m = q)
  let stay := (s.floors[q]).grants.filter fun g => !leaves g.mic
  c.1 = { queue := (s.floors[q]).queue.filter fun e => !leaves e.mic, grants := stay.take (t.lead q).speakerLimit }
  ∧ c.2 = (((List.finRange 16).filter leaves).flatMap fun m => (FloorRec.removeMic q s.floors[q] m).2)
      ++ (stay.drop (t.lead q).speakerLimit).reverse.map fun g => .floor q g.mic .revoked

/-- The floor change of a changed slot, from `s` to `t` (R120, R121). -/
def RebuiltFloor (s t : State) (q : Fin 4) (c : FloorChange) : Prop :=
  let queue' := keptQueue s t q
  let grants' := keptGrants s t q
  let only : Fin 4 → Prop := fun o => ∀ o' : Fin 4, o' ≠ o → queue' o' = [] ∧ grants' o' = []
  let discard : Prop := t.mode q ≠ .chaired ∨ (s.rg.applyFrom.isSome = true ∧ s.mode s.rg.map[q] ≠ t.mode q)
  (discard → c.1 = emptyFloor ∧ c.2 = chairsRemoved s t q
    ++ ((List.finRange 16).filter (inLists GrantEntry.mic grants')).map (fun m => Notice.floor q m .cleared)
    ++ ((List.finRange 16).filter (inLists QueueEntry.mic queue')).map fun m => .floor q m .cleared)
  ∧ (¬discard → ∃ (qs : List QueueEntry) (gs : List GrantEntry),
      qs.Perm ((List.finRange 4).flatMap queue') ∧ gs.Perm ((List.finRange 4).flatMap grants')
      ∧ c.1 = { queue := qs, grants := gs.take (t.lead q).speakerLimit }
      ∧ c.2 = chairsRemoved s t q ++ ((gs.drop (t.lead q).speakerLimit).map fun g => Notice.floor q g.mic .revoked)
      ∧ (∀ o, only o → qs = queue' o ∧ gs = grants' o)
      ∧ ((∀ o, ¬only o) →
          qs.Pairwise (fun x y => y.age < x.age ∨ (x.age = y.age ∧ x.mic ≤ y.mic))
          ∧ gs.Pairwise fun x y => y.elapsed < x.elapsed ∨ (x.elapsed = y.elapsed ∧ x.mic ≤ y.mic)))

theorem switchedFloor_keeps {s : State} {q : Fin 4} (hl : isLead (switchNow s).rg.map q = true)
    (hc : (switchedSlots s)[q] = false) : KeptFloor s (switchNow s) q (switchedFloor s q) := by
  have h := switchedFloor_kept hl hc
  exact ⟨congrArg Prod.fst h, congrArg Prod.snd h⟩

theorem switchedFloor_rebuilt {s : State} {q : Fin 4} (hc : (switchedSlots s)[q] = true) :
    RebuiltFloor s (switchNow s) q (switchedFloor s q) := by
  unfold RebuiltFloor
  intro queue' grants' only discard
  have hd : ((switchNow s).mode q ≠ .chaired
      ∨ (s.rg.applyFrom.isSome && decide (s.mode s.rg.map[q] ≠ (switchNow s).mode q)) = true) ↔ discard := by
    simp only [discard, Bool.and_eq_true, decide_eq_true_eq]
  rw [switchedFloor_changed hc, rebuildFloor_eq]
  refine ⟨fun h => ?_, fun h => ?_⟩
  · rw [if_pos (hd.2 h)]
    exact ⟨rfl, rfl⟩
  · rw [if_neg (mt hd.1 h)]
    obtain ⟨hqs, hgs, honly, hsorted⟩ := mergeRecords_spec fun o => { queue := queue' o, grants := grants' o }
    exact ⟨_, _, hqs, hgs, rfl, rfl, honly, hsorted⟩

/-- What a switch from `s` to `t` leaves, `changed` being the slots that it changes and `floor` what it does to each floor record. -/
structure Switched (s t : State) (changed : Vector Bool 4) (floor : Fin 4 → FloorChange) : Prop where
  moves : t = { s with
    live := t.live, walls := t.walls, rg := t.rg, mute := t.mute, gates := t.gates, floors := t.floors, ahead := t.ahead
    env := t.env, scene := t.scene, portA := t.portA, portB := t.portB }
  rg : t.rg = s.rg.afterSwitch changed
  changes : s.rg.applyFrom = none → t.live = (s.rg.changes.flatMap (·.batch.entries)).foldl Image.write s.live ∧ t.scene = s.scene
  applied : ∀ b, s.rg.applyFrom = some b → t.live = (s.scene.bufs[b]).image
    ∧ t.scene = { s.scene with bufs := s.scene.bufs.set b.val { s.scene.bufs[b] with lock := .free } }
  wall : ∀ w : Fin 3, t.walls[w] = { s.walls[w] with effective := effectiveOf t.live.wall[w] (s.walls[w]).sensed }
  slots : ∀ q : Fin 4, changed[q] = (isLead t.rg.map q
    && !(isLead s.rg.map q && decide ((∀ m : Fin 16, s.micPart m = q ↔ t.micPart m = q) ∧ s.mode q = t.mode q)))
  quiet : ∀ q : Fin 4, t.mute.quiet[q] = (s.mute.quiet[q] && isLead t.rg.map q && !changed[q])
  counts : ∀ q : Fin 4, t.ahead.counts[q] =
    if isLead t.rg.map q = true ∧ changed[q] = false then s.ahead.counts[q] else none
  worked : t.ahead.floors = s.ahead.floors
  gates : ∀ m : Fin 16, t.gates[m] =
    if changed[t.micPart m] = true ∨ (takesHold s t m = true ∧ (s.gates[m]).state ≠ .closed)
    then { state := .closed, counter := 0 } else s.gates[m]
  floors : ∀ q : Fin 4, t.floors[q] = (floor q).1
  unused : ∀ q : Fin 4, isLead t.rg.map q = false → floor q = (emptyFloor, [])
  kept : ∀ q : Fin 4, isLead t.rg.map q = true → changed[q] = false → KeptFloor s t q (floor q)
  rebuilt : ∀ q : Fin 4, changed[q] = true → RebuiltFloor s t q (floor q)
  port : ∀ p : Port, t.port p = (s.port p).postAll (batchesApplied s.rg.changes p ++ wallsSwitched s t
    ++ ((List.finRange 4).flatMap fun q => (floor q).2) ++ holdsPosted s t ++ asksCleared s t)
  env : EnvelopesFollow s t
  recs : ∀ i : Fin 26, (t.mute.recs[i]).priv = (s.mute.recs[i]).priv ∧ (t.mute.recs[i]).chair = (s.mute.recs[i]).chair
    ∧ (t.mute.recs[i]).far = (s.mute.recs[i]).far
  ask : ∀ m : Fin 16, (t.mute.recs[micSource m]).ask = ((s.mute.recs[micSource m]).ask && !losesHolds s t m)
  groups : t.mute.groupMuted = s.mute.groupMuted

theorem switchNow_switched (s : State) : Switched s (switchNow s) (switchedSlots s) (switchedFloor s) := by
  obtain ⟨-, -, hrg, -, hahead, -⟩ := switchNow_fields s
  obtain ⟨hchanges, happlied⟩ := switchNow_tables s
  obtain ⟨hquiet, hcounts, hgates⟩ := switchNow_units s
  obtain ⟨hport, hask, -, henv⟩ := switchNow_follow s
  obtain ⟨hrecs, hgroups, -⟩ := switchNow_mute s
  exact {
    moves := switchNow_moves s, rg := hrg, changes := hchanges, applied := happlied, wall := switchNow_wall s
    slots := switchedSlots_eq s, quiet := hquiet, counts := hcounts, worked := by rw [hahead], gates := hgates
    floors := switchNow_floor s, unused := fun q => switchedFloor_unused, kept := fun q => switchedFloor_keeps
    rebuilt := fun q => switchedFloor_rebuilt, port := hport, env := henv, recs := hrecs, ask := hask, groups := hgroups }

/-- The walls of a boundary's samples keep the waiting changes and the apply mark. -/
theorem wallsSampled_keeps (sense : Sense) (s : State) : (wallsSampled sense s).rg.changes = s.rg.changes
    ∧ (wallsSampled sense s).rg.applyFrom = s.rg.applyFrom := by
  have hcause (u : State) : (regroupCause true u).rg.changes = u.rg.changes
      ∧ (regroupCause true u).rg.applyFrom = u.rg.applyFrom := by
    obtain ⟨⟨-, -, hchanges, hmark, hdue, -⟩, -⟩ := caused_kept true u.rg.state (derivePending u)
    rw [regroupCause_eq]
    refine ⟨hchanges, ?_⟩
    simp only [Regroup.applyFrom, hmark, hdue]
    rfl
  have hstep (v : State) (w : Fin 3) : (wallStep sense s v w).rg.changes = v.rg.changes
      ∧ (wallStep sense s v w).rg.applyFrom = v.rg.applyFrom := by
    obtain ⟨-, hstill, hc⟩ := wallStep_spec sense s v w
    by_cases hw : WallCauses sense s w
    · obtain ⟨u, hu, he⟩ := hc hw
      obtain ⟨h1, h2⟩ := hcause u
      rw [he, h1, h2, hu]
      exact ⟨rfl, rfl⟩
    · rw [hstill hw]
      exact ⟨rfl, rfl⟩
  have general (l : List (Fin 3)) (v : State) : (l.foldl (wallStep sense s) v).rg.changes = v.rg.changes
      ∧ (l.foldl (wallStep sense s) v).rg.applyFrom = v.rg.applyFrom := by
    induction l generalizing v with
    | nil => exact ⟨rfl, rfl⟩
    | cons w l ih =>
      obtain ⟨h1, h2⟩ := hstep v w
      obtain ⟨k1, k2⟩ := ih (wallStep sense s v w)
      exact ⟨k1.trans h1, k2.trans h2⟩
  rw [wallsSampled_eq]
  exact general _ _

theorem exec_regroupSwitch_congr {s t : State} (hs : s.held = false) (ht : t.held = false) (h : regroupSwitch s = regroupSwitch t) :
    exec .regroupSwitch s = exec .regroupSwitch t := by
  have h1 : exec .regroupSwitch s = .next (settleLine (regroupSwitch s)) := running_next regroupSwitch s hs
  have h2 : exec .regroupSwitch t = .next (settleLine (regroupSwitch t)) := running_next regroupSwitch t ht
  rw [h1, h2, h]

theorem foldl_pieceTaken_held (s : State) (l : List (Fin 4)) (u : State) : (l.foldl (pieceTaken s) u).held = u.held := by
  induction l generalizing u with
  | nil => rfl
  | cons q l ih =>
    simp only [List.foldl_cons, ih, pieceTaken]
    split
    · rw [retarget_held, post_held]
    · rfl

/-- A boundary at which a switch is made: that of the row, on the state that its earlier work reaches, then the captures (log 3). -/
theorem frameBoundary_switches {sense : Sense} {early : Bool} {s t : State} (ht : t = settleLine (frameBoundary sense early s))
    (hs : SwitchStands (wallsSampled sense s).rg) :
    let v := wallsSampled sense s
    let m := boundaryApplied sense early s
    ∃ w : State, w = settleLine (regroupSwitch m)
      ∧ m.rg = { v.rg with step := t.rg.step }
      ∧ t = { w with rg := { w.rg with pre := false, tested := false, noEval := same 4 false }
                     ahead := { counts := same 4 none, floors := same 4 false }
                     scene := t.scene, portA := t.portA, portB := t.portB, lineA := t.lineA }
      ∧ (∀ p : Port, t.port p = (w.port p).postAll (capturesPosted w))
      ∧ t.rg.state = .fadingIn ∧ t.rg.map = v.rg.pendMap ∧ t.rg.changes = []
      ∧ (∀ b : Fin 26, t.rg.target b = if v.rg.touched[b] = true then 0 else 32768)
      ∧ (s.rg.applyFrom = none → t.live = (s.rg.changes.flatMap (·.batch.entries)).foldl Image.write m.live)
      ∧ (∀ b, s.rg.applyFrom = some b → t.live = (s.scene.bufs[b]).image)
      ∧ ∀ x : Fin 3, t.walls[x] = { v.walls[x] with effective := effectiveOf t.live.wall[x] (v.walls[x]).sensed } := by
  intro v m
  obtain ⟨⟨-, mscene, mwalls, -⟩, mrg, -⟩ := boundaryApplied_spec sense early s
  obtain ⟨hchanges, hfrom⟩ := wallsSampled_keeps sense s
  obtain ⟨u, still, ulive, hswitch, htested⟩ := boundaryTested_switch early hs
  obtain ⟨hend, hport⟩ := frameBoundary_end ht
  obtain ⟨twalls, tlive, -, trg⟩ := frameBoundary_fields ht
  have hsw := switchNow_switched u
  rw [htested] at hend hport twalls tlive trg
  rw [hswitch]
  generalize switchNow u = x at hsw hend hport twalls tlive trg ⊢
  generalize switchedSlots u = changed at hsw
  generalize switchedFloor u = floor at hsw
  have urg : u.rg = { v.rg with step := rampStep m.live.busCode } := still.rg.trans mrg
  have hstep : t.rg.step = rampStep m.live.busCode := by rw [trg, hsw.rg, urg]; rfl
  have uchanges : u.rg.changes = s.rg.changes := (congrArg Regroup.changes urg).trans hchanges
  have ufrom : u.rg.applyFrom = s.rg.applyFrom := (congrArg Regroup.applyFrom urg).trans hfrom
  refine ⟨settleLine x, rfl, by rw [hstep]; exact mrg, ?_, fun p => ?_, ?_, ?_, ?_, fun b => ?_, fun ha => ?_, fun b ha => ?_, fun y => ?_⟩
  · rw [settleLine_frame]
    exact hend
  · rw [hport, settleLine_port, capturesPosted, capturesPosted, settleLine_scene]
  · rw [trg, hsw.rg]
    rfl
  · rw [trg, hsw.rg, urg]
    rfl
  · rw [trg, hsw.rg]
    rfl
  · have htarget : t.rg.target b = x.rg.target b := by rw [trg]; rfl
    rw [htarget, hsw.rg, afterSwitch_target, urg]
  · obtain ⟨hlive, -⟩ := hsw.changes (ufrom.trans ha)
    rw [tlive, hlive, uchanges, ulive]
  · obtain ⟨hlive, -⟩ := hsw.applied b (ufrom.trans ha)
    rw [tlive, hlive, still.scene, mscene]
  · have hy : (u.walls)[y] = v.walls[y] := by rw [still.walls, mwalls]
    rw [twalls, tlive, hsw.wall, hy]

/-- Settles O22: the row by `switchNow_switched` on the state that `regroupSwitch_levels` and `regroupSwitch_applies` bring it to, the
boundary by `frameBoundary_switches`. -/
theorem regroupSwitchPlacesChanges : Obligations.RegroupSwitchPlacesChanges := by
  refine ⟨fun s hh => ?_, fun sense early s hh => ?_⟩
  · intro due
    refine ⟨fun hno => ?_, fun hd hq => ?_, fun hd hf => ?_, fun hd hf ha hb => ?_⟩
    · refine (running_next regroupSwitch s hh).trans ?_
      rw [regroupSwitch_of_not hno]
    · intro u
      have hu : u = (List.finRange 4).foldl (pieceTaken s) s := rfl
      clear_value u
      subst hu
      exact exec_regroupSwitch_congr hh (foldl_pieceTaken_held s _ s ▸ hh) (regroupSwitch_levels hd hq)
    · have hheld : (applyCommitted .b (applyCommitted .a s)).held = s.held :=
        ((applyCommitted_still .a s).trans (applyCommitted_still .b _)).held
      exact exec_regroupSwitch_congr hh (hheld.trans hh) (regroupSwitch_applies hd hf)
    · refine ⟨settleLine (switchNow s), fun q => (switchedFloor s q).2,
        (running_next regroupSwitch s hh).trans (by rw [regroupSwitch_bare hd hf ha hb]), ?_⟩
      have hsw := switchNow_switched s
      rw [settleLine_frame]
      generalize (settleLine (switchNow s)).lineA = line
      generalize switchNow s = t at hsw ⊢
      generalize switchedSlots s = changed at hsw
      generalize switchedFloor s = floor at hsw ⊢
      refine ⟨?_, ?_, ?_, hsw.changes, hsw.applied, hsw.wall, ?_, ?_, hsw.env, hsw.recs, hsw.ask, hsw.groups⟩
      · exact congrArg (fun x : State => { x with lineA := line }) hsw.moves
      · dsimp only
        rw [hsw.rg]
        rfl
      · dsimp only
        rw [hsw.rg]
        exact afterSwitch_target s.rg changed
      · have hslots : ∀ q : Fin 4, (isLead t.rg.map q
            && !(isLead s.rg.map q && decide ((∀ m : Fin 16, s.micPart m = q ↔ t.micPart m = q) ∧ s.mode q = t.mode q)))
            = changed[q] := fun q => (hsw.slots q).symm
        intro changed'
        have hc (q : Fin 4) : changed' q = changed[q] := hslots q
        clear_value changed'
        refine ⟨fun q => ?_, fun q => ?_, fun q => ?_, hsw.worked, fun m => ?_, fun q hl => ?_, fun q hl hno => ?_, fun q hch => ?_⟩
        · rw [hc]
          exact hsw.quiet q
        · rw [hc]
          exact congrArg (·[q]) (congrArg Regroup.noEval hsw.rg)
        · rw [hc]
          exact hsw.counts q
        · rw [hc]
          exact hsw.gates m
        · have hf := hsw.unused q hl
          exact ⟨(hsw.floors q).trans (congrArg Prod.fst hf), congrArg Prod.snd hf⟩
        · obtain ⟨h1, h2⟩ := hsw.kept q hl ((hc q).symm.trans hno)
          exact ⟨(hsw.floors q).trans h1, h2⟩
        · obtain ⟨h1, h2⟩ := hsw.rebuilt q ((hc q).symm.trans hch)
          refine ⟨fun hd => ?_, fun hd => ?_⟩
          · obtain ⟨k1, k2⟩ := h1 hd
            exact ⟨(hsw.floors q).trans k1, k2⟩
          · obtain ⟨qs, gs, hqs, hgs, k1, k2, honly, hsorted⟩ := h2 hd
            exact ⟨qs, gs, hqs, hgs, (hsw.floors q).trans k1, k2, honly, hsorted⟩
      · intro p
        refine .trans ?_ (hsw.port p)
        cases p <;> rfl
  · intro v hs
    obtain ⟨⟨mheld, mscene, mwalls, mquiet, mgroups, -⟩, -, -, mlive, mempty, mfloors⟩ := boundaryApplied_spec sense early s
    obtain ⟨w, hw, mrg, hrest⟩ := frameBoundary_switches (t := settleLine (frameBoundary sense early s)) rfl hs
    refine ⟨settleLine (frameBoundary sense early s), boundaryApplied sense early s, w,
      running_next (frameBoundary sense early) s hh, mheld.trans hh, mrg, mwalls, mscene, mlive, mempty .a, mempty .b, mfloors,
      mquiet, mgroups, ?_, hrest⟩
    rw [hw]
    exact running_next regroupSwitch _ (mheld.trans hh)

end Sys2Proof.Machine
end

section
/-! SUPPORT. The rounding operator (R34): O8. -/

namespace Sys2Proof.Machine
open Host

/-- A value less its rounded multiple lies from half a step below to under half a step above (R34). -/
theorem roundAt_error {k : Nat} (hk : 0 < k) (v : Int) :
    -(2 ^ (k - 1) : Int) ≤ v - 2 ^ k * roundAt k v ∧ v - 2 ^ k * roundAt k v < 2 ^ (k - 1) := by
  have hstep : (2 ^ k : Int) = 2 * 2 ^ (k - 1) := by rw [← pow_succ', Nat.sub_add_cancel hk]
  have hhalf : (0 : Int) < 2 ^ (k - 1) := by positivity
  have hdiv := Int.mul_ediv_add_emod (v + 2 ^ (k - 1)) (2 ^ k)
  have hlow := Int.emod_nonneg (v + 2 ^ (k - 1)) (b := 2 ^ k) (by omega)
  have hhigh := Int.emod_lt_of_pos (v + 2 ^ (k - 1)) (b := 2 ^ k) (by omega)
  unfold roundAt
  omega

/-- Of two integers one step of `2 * h` apart from a remainder within half a step, the other lies no nearer, and as near only below. -/
theorem nearest_of_error {h r d : Int} (hlow : -h ≤ r) (hhigh : r < h) (hd : d = 0 ∨ 2 * h ≤ d ∨ d ≤ -(2 * h)) :
    |r| ≤ |r + d| ∧ (|r| = |r + d| → 0 ≤ d) := by
  rcases hd with rfl | hd | hd
  · simp
  · rw [abs_of_nonneg (by omega : 0 ≤ r + d)]
    exact ⟨abs_le.2 ⟨by omega, by omega⟩, fun _ => by omega⟩
  · have hr : |r| ≤ h := abs_le.2 ⟨by omega, by omega⟩
    rw [abs_of_neg (by omega : r + d < 0)]
    exact ⟨by omega, fun _ => by omega⟩

/-- The multiples of a positive step that differ lie a whole step apart. -/
theorem step_apart {m : Int} (hm : 0 < m) (q n : Int) : m * (q - n) = 0 ∨ m ≤ m * (q - n) ∨ m * (q - n) ≤ -m := by
  rcases lt_trichotomy q n with h | rfl | h
  · exact .inr (.inr (by nlinarith))
  · exact .inl (by ring)
  · exact .inr (.inl (by nlinarith))

/-- Settles O8: the error of rounding is within half a step, and every other integer lies a whole step away. -/
theorem roundingGoesToNearest : Obligations.RoundingGoesToNearest := by
  refine ⟨fun k v hk => ⟨(Int.fdiv_eq_ediv_of_nonneg _ (by positivity)).symm, ?_⟩, fun x => ?_, by decide⟩
  · have hstep : (2 ^ k : Int) = 2 * 2 ^ (k - 1) := by rw [← pow_succ', Nat.sub_add_cancel hk]
    have hpos : (0 : Int) < 2 ^ k := by positivity
    obtain ⟨hlow, hhigh⟩ := roundAt_error hk v
    have near (n : Int) : |v - 2 ^ k * roundAt k v| ≤ |v - 2 ^ k * n|
        ∧ (|v - 2 ^ k * roundAt k v| = |v - 2 ^ k * n| → 0 ≤ 2 ^ k * (roundAt k v - n)) := by
      have happart := step_apart hpos (roundAt k v) n
      rw [show v - 2 ^ k * n = v - 2 ^ k * roundAt k v + 2 ^ k * (roundAt k v - n) by ring]
      exact nearest_of_error hlow hhigh (by omega)
    refine ⟨fun n => (near n).1, fun n he => ?_⟩
    have hd := (near n).2 he
    exact Int.sub_nonneg.1 (nonneg_of_mul_nonneg_right hd hpos)
  · simp only [roundAt]
    omega

end Sys2Proof.Machine
end

section
/-! SUPPORT. The open limit of one evaluation (R95 to R97), whatever the gates before it. -/

namespace Sys2Proof.Machine
open Host

/-! ## The victim of a list -/

theorem victim_concat_none {gs : Gates} {l : List (Fin 16)} {m : Fin 16} (h : victim gs l = none) : victim gs (l ++ [m]) = some m := by
  unfold victim at h ⊢
  rw [List.foldl_append, h]
  rfl

theorem victim_concat_some {gs : Gates} {l : List (Fin 16)} {m x : Fin 16} (h : victim gs l = some x) :
    victim gs (l ++ [m]) = some (if (gs[m]).counter ≤ (gs[x]).counter then m else x) := by
  unfold victim at h ⊢
  rw [List.foldl_append, h]
  exact (apply_ite some ..).symm

/-- Of two entries with given counters `x` goes first: the lower counter, or the higher index where they are equal (R95, R97). -/
def weakerBy (c : Fin 16 → Nat) (x y : Fin 16) : Bool := decide (c x < c y ∨ (c x = c y ∧ y < x))

theorem weakerBy_iff {c : Fin 16 → Nat} {x y : Fin 16} : weakerBy c x y = true ↔ c x < c y ∨ (c x = c y ∧ y < x) :=
  decide_eq_true_iff

theorem weakerBy_trans {c : Fin 16 → Nat} {x y z : Fin 16} (h : weakerBy c x y = true) (k : weakerBy c y z = true) :
    weakerBy c x z = true := by
  rw [weakerBy_iff] at *
  omega

theorem weakerBy_irrefl (c : Fin 16 → Nat) (x : Fin 16) : weakerBy c x x = false := by
  simp [weakerBy]

theorem weakerBy_asymm {c : Fin 16 → Nat} {x y : Fin 16} (h : weakerBy c x y = true) : weakerBy c y x = false := by
  by_contra hn
  have := weakerBy_trans h (Bool.not_eq_false _ ▸ hn)
  rw [weakerBy_irrefl] at this
  exact Bool.false_ne_true this

/-- The victim of a list with entries is one of them; in an ascending list every other one is stronger. -/
theorem victim_spec (gs : Gates) (l : List (Fin 16)) (hl : l ≠ []) : ∃ y ∈ l, victim gs l = some y
    ∧ (l.Pairwise (· < ·) → ∀ x ∈ l, x ≠ y → weakerBy (fun m => (gs[m]).counter) y x = true) := by
  induction l using List.reverseRecOn with
  | nil => exact absurd rfl hl
  | append_singleton l m ih =>
    have hm : m ∈ l ++ [m] := List.mem_append_right _ (List.mem_singleton_self m)
    by_cases hnil : l = []
    · subst hnil
      exact ⟨m, hm, rfl, fun _ x hx hne => absurd (List.mem_singleton.1 hx) hne⟩
    · obtain ⟨y, hy, hv, hweak⟩ := ih hnil
      rw [victim_concat_some hv]
      split
      · rename_i hle
        refine ⟨m, hm, rfl, fun hs x hx hne => ?_⟩
        obtain ⟨hs, -, hlast⟩ := List.pairwise_append.1 hs
        have hxl : x ∈ l := (List.mem_append.1 hx).resolve_right fun h => hne (List.mem_singleton.1 h)
        have hmy : weakerBy (fun m => (gs[m]).counter) m y = true := by
          have := hlast y hy m (List.mem_singleton_self m)
          rw [weakerBy_iff]
          omega
        by_cases hxy : x = y
        · exact hxy ▸ hmy
        · exact weakerBy_trans hmy (hweak hs x hxl hxy)
      · rename_i hlt
        refine ⟨y, List.mem_append_left _ hy, rfl, fun hs x hx hne => ?_⟩
        rcases List.mem_append.1 hx with hx | hx
        · exact hweak (List.pairwise_append.1 hs).1 x hx hne
        · obtain rfl := List.mem_singleton.1 hx
          rw [weakerBy_iff]
          omega

theorem victim_eq_none {gs : Gates} {l : List (Fin 16)} (h : victim gs l = none) : l = [] := by
  by_contra hl
  obtain ⟨y, -, hy, -⟩ := victim_spec gs l hl
  simp [hy] at h

/-! ## Counting the gates that pass a test -/

/-- The length of a filtered list without one of its entries. -/
theorem length_filter_ne {l : List (Fin 16)} (hl : l.Nodup) {y : Fin 16} (hy : y ∈ l) :
    (l.filter fun x => decide (x ≠ y)).length + 1 = l.length := by
  have herase : (l.filter fun x => decide (x ≠ y)) = l.erase y := by
    rw [hl.erase_eq_filter]
    exact List.filter_congr fun x _ => decide_not
  have hpos := List.length_pos_of_mem hy
  rw [herase, List.length_erase_of_mem hy]
  omega

/-- The members whose gate passes a test, one gate being replaced by one that fails it. -/
theorem filter_put_fails {members : List (Fin 16)} (gs : Gates) (test : Gate → Bool) (y : Fin 16) {g : Gate} (hg : test g = false) :
    (members.filter fun m => test (put gs y g)[m]) = (members.filter fun m => test gs[m]).filter fun x => decide (x ≠ y) := by
  rw [List.filter_filter]
  refine List.filter_congr fun x _ => ?_
  rw [put_get]
  by_cases h : x = y <;> simp [h, hg]

/-- Replacing a gate adds at most one member to those that pass a test. -/
theorem length_filter_put_le {members : List (Fin 16)} (hn : members.Nodup) (gs : Gates) (test : Gate → Bool) (c : Fin 16) (g : Gate) :
    (members.filter fun m => test (put gs c g)[m]).length ≤ (members.filter fun m => test gs[m]).length + 1 := by
  have hsub : (members.filter fun m => test (put gs c g)[m]) ⊆ c :: members.filter fun m => test gs[m] := fun x hx => by
    obtain ⟨hx, ht⟩ := List.mem_filter.1 hx
    by_cases h : x = c
    · exact h ▸ List.mem_cons_self ..
    · rw [put_other _ _ _ _ h] at ht
      exact List.mem_cons_of_mem _ (List.mem_filter.2 ⟨hx, ht⟩)
  exact (List.subperm_of_subset (hn.filter _) hsub).length_le

/-- Each entry closed as excess lowers the count by one (R95). -/
theorem countOpen_closeExcess {members : List (Fin 16)} (hn : members.Nodup) (n : Nat) (gs : Gates) :
    countOpen members (closeExcess members n gs) ≤ countOpen members gs - n := by
  induction n generalizing gs with
  | zero => exact le_rfl
  | succ n ih =>
    rcases hv : victim gs (members.filter fun m => (gs[m]).isOpen) with _ | y
    · have hnone : countOpen members gs = 0 := by
        rw [countOpen, victim_eq_none hv]
        rfl
      rw [closeExcess_none hv, hnone]
      exact Nat.zero_le _
    · rw [closeExcess_some hv]
      have hlen := length_filter_ne (hn.filter _) (victim_mem hv)
      have hput : countOpen members (put gs y shutGate) + 1 = countOpen members gs := by
        rw [countOpen, filter_put_fails gs Gate.isOpen y rfl, hlen, countOpen]
      have := ih (put gs y shutGate)
      omega

theorem countOpen_closingPhase {v : GateView} (hn : v.members.Nodup) (gs : Gates) :
    countOpen v.members (closingPhase v gs) ≤ v.limit := by
  have := countOpen_closeExcess hn (countOpen v.members (tab (closeOne v gs)) - v.limit) (tab (closeOne v gs))
  rw [closingPhase]
  omega

/-! ## The opening phase within the limit (R96, R97) -/

section
variable {v : GateView} {o : Opening} {c : Fin 16}

/-- The non-chair members whose gate is OPEN, which a chair candidate may preempt (R97). -/
def commons (v : GateView) (gs : Gates) : List (Fin 16) :=
  v.members.filter fun x => decide ((gs[x]).state = .opened) && !v.chair x

theorem takeCandidate_free (h : 0 < o.free) : takeCandidate v o c =
    { gates := put o.gates c { state := .opened, counter := v.hold }, free := o.free - 1, opened := true } := if_pos h

theorem takeCandidate_common (h : o.free = 0) (hc : v.chair c = false) : takeCandidate v o c = o := by
  simp [takeCandidate, h, hc]

theorem takeCandidate_none (h : o.free = 0) (hv : victim o.gates (commons v o.gates) = none) : takeCandidate v o c = o := by
  unfold commons at hv
  simp only [takeCandidate, h, hv, lt_irrefl, if_false, ite_self]

theorem takeCandidate_preempts (h : o.free = 0) (hc : v.chair c = true) {y : Fin 16}
    (hv : victim o.gates (commons v o.gates) = some y) : takeCandidate v o c =
      { gates := put (put o.gates y shutGate) c { state := .opened, counter := v.hold }, free := 0, opened := true } := by
  unfold commons at hv
  simp only [takeCandidate, h, hc, hv, lt_irrefl, if_false, if_true]

end

/-- Members whose gate is OPEN. -/
def countOpened (members : List (Fin 16)) (gs : Gates) : Nat := (members.filter fun m => decide ((gs[m]).state = .opened)).length

/-- A candidate taken uses a free slot or another's place. -/
theorem takeCandidate_limit {v : GateView} (hn : v.members.Nodup) {o : Opening} {c : Fin 16}
    (h : countOpened v.members o.gates + o.free ≤ v.limit) :
    countOpened v.members (takeCandidate v o c).gates + (takeCandidate v o c).free ≤ v.limit := by
  have hadd (gs : Gates) (g : Gate) : countOpened v.members (put gs c g) ≤ countOpened v.members gs + 1 :=
    length_filter_put_le hn gs (fun g => decide (g.state = .opened)) c g
  rcases Nat.eq_zero_or_pos o.free with hzero | hfree
  · rcases hv : victim o.gates (commons v o.gates) with _ | y
    · rwa [takeCandidate_none hzero hv]
    · cases hc : v.chair c with
      | false => rwa [takeCandidate_common hzero hc]
      | true =>
        rw [takeCandidate_preempts hzero hc hv]
        obtain ⟨hy, hyo⟩ := List.mem_filter.1 (victim_mem hv)
        have hlen := length_filter_ne (hn.filter fun m => decide ((o.gates[m]).state = .opened))
          (List.mem_filter.2 ⟨hy, (Bool.and_eq_true_iff.1 hyo).1⟩)
        have hshut : countOpened v.members (put o.gates y shutGate) + 1 = countOpened v.members o.gates := by
          rw [countOpened, filter_put_fails o.gates (fun g => decide (g.state = .opened)) y rfl, hlen, countOpened]
        have := hadd (put o.gates y shutGate) { state := .opened, counter := v.hold }
        dsimp only
        omega
  · rw [takeCandidate_free hfree]
    have := hadd o.gates { state := .opened, counter := v.hold }
    dsimp only
    omega

theorem takeCandidates_limit {v : GateView} (hn : v.members.Nodup) (l : List (Fin 16)) {o : Opening}
    (h : countOpened v.members o.gates + o.free ≤ v.limit) :
    countOpened v.members (l.foldl (takeCandidate v) o).gates ≤ v.limit := by
  induction l generalizing o with
  | nil => exact le_trans (Nat.le_add_right ..) h
  | cons c l ih => exact ih (takeCandidate_limit hn h)

/-- One evaluation leaves at most the open limit of members OPEN or LAST_ON (R95 to R97). -/
theorem countOpen_evaluateSlot {v : GateView} (hn : v.members.Nodup) (gs : Gates) :
    countOpen v.members (evaluateSlot v gs) ≤ v.limit := by
  have hclose := countOpen_closingPhase hn gs
  unfold evaluateSlot
  generalize closingPhase v gs = g2 at hclose
  by_cases ho : (openings v g2).opened = true
  · have hstart : countOpened v.members g2 ≤ v.limit := by
      refine le_trans (List.Sublist.length_le ?_) hclose
      refine List.monotone_filter_right _ fun m hm => ?_
      rw [Gate.isOpen, of_decide_eq_true hm]
      rfl
    have hrun : countOpened v.members (openings v g2).gates ≤ v.limit :=
      takeCandidates_limit hn _ (by dsimp only; rw [← countOpened]; omega)
    refine le_trans (le_of_eq ?_) hrun
    rw [openingPhase_eq, if_pos ho, countOpen, countOpened]
    refine congrArg List.length (List.filter_congr fun m hm => ?_)
    rw [tab_get]
    simp only [hm, true_and]
    generalize (openings v g2).gates[m] = g
    obtain ⟨state, -⟩ := g
    cases state <;> rfl
  · rw [openingPhase_none _ _ (Bool.eq_false_iff.2 ho)]
    exact hclose

end Sys2Proof.Machine
end

section
/-! SUPPORT. The closing and the opening phase in full (R93 to R97): which entries the open limit closes, which candidates open, and
which they preempt. -/

namespace Sys2Proof.Machine
open Host

/-! ## Places in the order of closing (R95, R97) -/

/-- How many entries of a list close before an entry. -/
def placeIn (c : Fin 16 → Nat) (l : List (Fin 16)) (m : Fin 16) : Nat := (l.filter fun x => weakerBy c x m).length

/-- An entry of the list that is among the first `n` to close. -/
def amongFirst (c : Fin 16 → Nat) (l : List (Fin 16)) (n : Nat) (m : Fin 16) : Bool := decide (m ∈ l ∧ placeIn c l m < n)

theorem amongFirst_iff {c : Fin 16 → Nat} {l : List (Fin 16)} {n : Nat} {m : Fin 16} :
    amongFirst c l n m = true ↔ m ∈ l ∧ placeIn c l m < n := decide_eq_true_iff

theorem amongFirst_zero (c : Fin 16 → Nat) (l : List (Fin 16)) (m : Fin 16) : amongFirst c l 0 m = false :=
  decide_eq_false fun h => Nat.not_lt_zero _ h.2

theorem amongFirst_nil (c : Fin 16 → Nat) (n : Nat) (m : Fin 16) : amongFirst c [] n m = false :=
  decide_eq_false fun h => List.not_mem_nil h.1

theorem placeIn_congr {c d : Fin 16 → Nat} {l : List (Fin 16)} (h : ∀ x ∈ l, c x = d x) {m : Fin 16} (hm : m ∈ l) :
    placeIn c l m = placeIn d l m := by
  refine congrArg List.length (List.filter_congr fun x hx => ?_)
  rw [weakerBy, weakerBy, h x hx, h m hm]

section
variable {c : Fin 16 → Nat} {l : List (Fin 16)} {y : Fin 16} (hweak : ∀ x ∈ l, x ≠ y → weakerBy c y x = true)
include hweak

/-- The weakest entry stands first. -/
theorem placeIn_weakest : placeIn c l y = 0 := by
  refine List.length_eq_zero_iff.2 (List.filter_eq_nil_iff.2 fun x hx => ?_)
  by_cases h : x = y
  · rw [h, weakerBy_irrefl]
    exact Bool.false_ne_true
  · rw [weakerBy_asymm (hweak x hx h)]
    exact Bool.false_ne_true

/-- Without the weakest entry every other one moves up by one. -/
theorem placeIn_others (hl : l.Nodup) (hy : y ∈ l) {x : Fin 16} (hx : x ∈ l) (hne : x ≠ y) :
    placeIn c l x = placeIn c (l.filter fun z => decide (z ≠ y)) x + 1 := by
  have hmem : y ∈ l.filter fun z => weakerBy c z x := List.mem_filter.2 ⟨hy, hweak x hx hne⟩
  rw [placeIn, placeIn, ← length_filter_ne (hl.filter _) hmem, List.filter_filter, List.filter_filter]
  simp only [Bool.and_comm]

/-- The first `n + 1` to close are the weakest and the first `n` without it. -/
theorem amongFirst_succ (hl : l.Nodup) (hy : y ∈ l) {d : Fin 16 → Nat} (hd : ∀ x, x ≠ y → d x = c x) (n : Nat) (x : Fin 16) :
    amongFirst c l (n + 1) x = true ↔ x = y ∨ amongFirst d (l.filter fun z => decide (z ≠ y)) n x = true := by
  simp only [amongFirst_iff]
  by_cases hxy : x = y
  · rw [hxy, placeIn_weakest hweak]
    simp [hy]
  · have hmem : x ∈ (l.filter fun z => decide (z ≠ y)) ↔ x ∈ l := by simp [hxy]
    rw [hmem]
    simp only [hxy, false_or]
    refine and_congr_right fun hx => ?_
    have hsame : placeIn d (l.filter fun z => decide (z ≠ y)) x = placeIn c (l.filter fun z => decide (z ≠ y)) x :=
      placeIn_congr (fun z hz => hd z (of_decide_eq_true (List.mem_filter.1 hz).2)) (hmem.2 hx)
    rw [placeIn_others hweak hl hy hx hxy, hsame]
    omega

end

/-- The entries closed as excess are the first to close of those OPEN or LAST_ON (R95). -/
theorem closeExcess_eq {members : List (Fin 16)} (hs : members.Pairwise (· < ·)) (n : Nat) (gs : Gates) (x : Fin 16) :
    (closeExcess members n gs)[x] =
      if amongFirst (fun m => (gs[m]).counter) (members.filter fun m => (gs[m]).isOpen) n x = true then shutGate else gs[x] := by
  induction n generalizing gs with
  | zero => rw [amongFirst_zero]; rfl
  | succ n ih =>
    have hn : members.Nodup := hs.imp fun h => ne_of_lt h
    rcases hv : victim gs (members.filter fun m => (gs[m]).isOpen) with _ | y
    · rw [closeExcess_none hv, victim_eq_none hv, amongFirst_nil]; rfl
    · have hy := victim_mem hv
      obtain ⟨z, -, hz, hweak⟩ := victim_spec gs _ (List.ne_nil_of_mem hy)
      obtain rfl : z = y := Option.some.inj (hz.symm.trans hv)
      have hfirst := amongFirst_succ (hweak (hs.filter _)) (hn.filter _) hy
        (d := fun m => ((put gs z shutGate)[m]).counter) (fun x hx => by rw [put_other _ _ _ _ hx]) n x
      rw [closeExcess_some hv, ih, filter_put_fails gs Gate.isOpen z rfl]
      by_cases hxz : x = z
      · rw [if_pos (hfirst.2 (.inl hxz)), hxz, put_same, ite_self]
      · rw [put_other _ _ _ _ hxz]
        simp only [hfirst, hxz, false_or]

/-! ## Ranks (R96) -/

/-- One candidate stands before another in the ranking: chair microphones, then the larger P, then the lower index. -/
def goesBefore (v : GateView) (x y : Fin 16) : Bool :=
  decide (x ≠ y ∧ (if v.chair x ≠ v.chair y then v.chair x = true else v.peak y < v.peak x ∨ (v.peak x = v.peak y ∧ x < y)))

theorem ranksBefore_iff (v : GateView) (x y : Fin 16) : ranksBefore v x y = true ↔
    (v.chair x = true ∧ v.chair y = false) ∨ (v.chair x = v.chair y ∧ (v.peak y < v.peak x ∨ (v.peak x = v.peak y ∧ x ≤ y))) := by
  unfold ranksBefore
  cases v.chair x <;> cases v.chair y <;> by_cases h : v.peak x = v.peak y <;> simp [h]

theorem goesBefore_iff (v : GateView) (x y : Fin 16) : goesBefore v x y = true ↔
    (v.chair x = true ∧ v.chair y = false) ∨ (v.chair x = v.chair y ∧ (v.peak y < v.peak x ∨ (v.peak x = v.peak y ∧ x < y))) := by
  have hne : x = y → ¬(v.peak y < v.peak x ∨ (v.peak x = v.peak y ∧ x < y)) := by rintro rfl; simp
  rw [goesBefore, decide_eq_true_iff]
  by_cases hxy : x = y
  · subst hxy
    simp
  · cases v.chair x <;> cases v.chair y <;> simp [hxy]

theorem goesBefore_irrefl (v : GateView) (x : Fin 16) : goesBefore v x x = false := by simp [goesBefore]

theorem goesBefore_asymm {v : GateView} {x y : Fin 16} (h : goesBefore v x y = true) : goesBefore v y x = false := by
  by_contra hn
  have k := Bool.not_eq_false _ ▸ hn
  rw [goesBefore_iff] at h k
  cases hx : v.chair x <;> cases hy : v.chair y <;> simp [hx, hy] at h k <;> omega

/-- The candidates are taken in strict rank order. -/
theorem ranked_pairwise (v : GateView) (gs : Gates) (hn : v.members.Nodup) :
    (rankedCandidates v gs).Pairwise fun x y => goesBefore v x y = true := by
  have total : Std.Total fun x y => ranksBefore v x y = true := ⟨fun x y => by
    simp only [ranksBefore_iff]
    cases v.chair x <;> cases v.chair y <;> simp <;> omega⟩
  have trans : IsTrans (Fin 16) fun x y => ranksBefore v x y = true := ⟨fun x y z => by
    simp only [ranksBefore_iff]
    cases v.chair x <;> cases v.chair y <;> cases v.chair z <;> simp <;> omega⟩
  have hsorted : (rankedCandidates v gs).Pairwise fun x y => ranksBefore v x y = true :=
    List.pairwise_insertionSort (fun x y => ranksBefore v x y = true) _
  have hnodup : (rankedCandidates v gs).Nodup :=
    (List.perm_insertionSort _ _).nodup_iff.2 (hn.filter _)
  refine hsorted.imp₂ (fun x y h hne => ?_) hnodup
  rw [ranksBefore_iff] at h
  exact (goesBefore_iff v x y).2 (h.imp_right fun ⟨hchair, hpeak⟩ => ⟨hchair, by omega⟩)

end Sys2Proof.Machine
end

section
/-! SUPPORT. The opening phase in full (R96, R97): the run through the candidates, by their ranks. -/

namespace Sys2Proof.Machine
open Host

theorem amongFirst_congr {c d : Fin 16 → Nat} {l : List (Fin 16)} (h : ∀ x ∈ l, c x = d x) (n : Nat) (m : Fin 16) :
    amongFirst c l n m = amongFirst d l n m := by
  rw [Bool.eq_iff_iff, amongFirst_iff, amongFirst_iff]
  exact and_congr_right fun hm => by rw [placeIn_congr h hm]

/-- How many of a list rank before an entry (R96). -/
def rankIn (v : GateView) (l : List (Fin 16)) (m : Fin 16) : Nat := (l.filter fun x => goesBefore v x m).length

/-- The entries of a list that open where `free` slots are free and `n` chair candidates beyond them preempt (R96, R97). -/
def opensFrom (v : GateView) (l : List (Fin 16)) (free n : Nat) (m : Fin 16) : Bool :=
  decide (m ∈ l ∧ (rankIn v l m < free ∨ (v.chair m = true ∧ rankIn v l m < free + n)))

theorem opensFrom_iff {v : GateView} {l : List (Fin 16)} {free n : Nat} {m : Fin 16} : opensFrom v l free n m = true ↔
    m ∈ l ∧ (rankIn v l m < free ∨ (v.chair m = true ∧ rankIn v l m < free + n)) := decide_eq_true_iff

theorem opensFrom_zero (v : GateView) (l : List (Fin 16)) (m : Fin 16) : opensFrom v l 0 0 m = false :=
  decide_eq_false (by omega)

section
variable {v : GateView} {c : Fin 16} {l : List (Fin 16)} (hl : (c :: l).Pairwise fun x y => goesBefore v x y = true)
include hl

theorem rankIn_head : rankIn v (c :: l) c = 0 := by
  refine List.length_eq_zero_iff.2 (List.filter_eq_nil_iff.2 fun x hx => ?_)
  rcases List.mem_cons.1 hx with rfl | hx
  · rw [goesBefore_irrefl]
    exact Bool.false_ne_true
  · rw [goesBefore_asymm ((List.pairwise_cons.1 hl).1 x hx)]
    exact Bool.false_ne_true

theorem rankIn_tail {x : Fin 16} (hx : x ∈ l) : rankIn v (c :: l) x = rankIn v l x + 1 := by
  rw [rankIn, List.filter_cons_of_pos (p := fun z => goesBefore v z x) ((List.pairwise_cons.1 hl).1 x hx), List.length_cons, rankIn]

theorem head_not_mem : c ∉ l := fun h => by
  have := (List.pairwise_cons.1 hl).1 c h
  rw [goesBefore_irrefl] at this
  exact Bool.false_ne_true this

/-- The first candidate opens on a free slot or by preempting; the others follow on what it leaves (R96, R97). -/
theorem opensFrom_cons (free n : Nat) (x : Fin 16) : opensFrom v (c :: l) free n x = true ↔
    (x = c ∧ (0 < free ∨ (v.chair c = true ∧ 0 < n)))
    ∨ (x ∈ l ∧ (rankIn v l x + 1 < free ∨ (v.chair x = true ∧ rankIn v l x + 1 < free + n))) := by
  rw [opensFrom_iff]
  by_cases hxc : x = c
  · rw [hxc, rankIn_head hl]
    simp only [List.mem_cons_self, true_and, head_not_mem hl, false_and, or_false]
    cases v.chair c <;> simp
  · simp only [List.mem_cons, hxc, false_or, false_and]
    exact and_congr_right fun hx => by rw [rankIn_tail hl hx]

/-- Chair candidates come first. -/
theorem chairs_nil_of_common (hc : v.chair c = false) : l.filter v.chair = [] :=
  List.filter_eq_nil_iff.2 fun x hx hchair => by
    have := (goesBefore_iff v c x).1 ((List.pairwise_cons.1 hl).1 x hx)
    simp [hc, hchair] at this

end

/-! ## The run through the candidates -/

theorem commons_put_chair {v : GateView} {c : Fin 16} (hc : v.chair c = true) (gs : Gates) (g : Gate) :
    commons v (put gs c g) = commons v gs := by
  refine List.filter_congr fun x _ => ?_
  by_cases h : x = c
  · rw [h, hc]
    simp only [Bool.not_true, Bool.and_false]
  · rw [put_other _ _ _ _ h]

theorem commons_put_shut (v : GateView) (gs : Gates) (y : Fin 16) :
    commons v (put gs y shutGate) = (commons v gs).filter fun x => decide (x ≠ y) := by
  rw [commons, commons, List.filter_filter]
  refine List.filter_congr fun x _ => ?_
  rw [put_get]
  by_cases h : x = y <;> simp [h, shutGate]

theorem mem_commons {v : GateView} {gs : Gates} {x : Fin 16} :
    x ∈ commons v gs ↔ x ∈ v.members ∧ (gs[x]).state = .opened ∧ v.chair x = false := by
  rw [commons, List.mem_filter, Bool.and_eq_true, decide_eq_true_iff, Bool.not_eq_true']

/-- How many of a list of candidates preempt (R97): the chair candidates beyond the free slots, as far as there are common entries. -/
def preempts (v : GateView) (l : List (Fin 16)) (o : Opening) : Nat :=
  min ((l.filter v.chair).length - o.free) (commons v o.gates).length

/-- A candidate that opens in the run through a list. -/
def opensIn (v : GateView) (l : List (Fin 16)) (o : Opening) : Fin 16 → Bool := opensFrom v l o.free (preempts v l o)

/-- An entry that a candidate of the list preempts. -/
def preemptedIn (v : GateView) (l : List (Fin 16)) (o : Opening) : Fin 16 → Bool :=
  amongFirst (fun m => (o.gates[m]).counter) (commons v o.gates) (preempts v l o)

/-- What the run through a list of candidates leaves of a gate. -/
def runGate (v : GateView) (l : List (Fin 16)) (o : Opening) (x : Fin 16) : Gate :=
  if opensIn v l o x = true then { state := .opened, counter := v.hold }
  else if preemptedIn v l o x = true then shutGate
  else o.gates[x]

theorem opensIn_mem {v : GateView} {l : List (Fin 16)} {o : Opening} {x : Fin 16} (h : opensIn v l o x = true) : x ∈ l :=
  (opensFrom_iff.1 h).1

section
variable {v : GateView} {o : Opening} {c : Fin 16} {l : List (Fin 16)}
  (hl : (c :: l).Pairwise fun x y => goesBefore v x y = true)

theorem chairs_cons (hc : v.chair c = true) : ((c :: l).filter v.chair).length = (l.filter v.chair).length + 1 := by
  rw [List.filter_cons_of_pos hc, List.length_cons]

/-- A first candidate that finds neither a free slot nor one to preempt changes nothing, and no later one does. -/
theorem run_idle (hfree : o.free = 0) (hnone : preempts v (c :: l) o = 0) (hrest : preempts v l o = 0) :
    (∀ x, opensIn v (c :: l) o x = opensIn v l o x) ∧ ∀ x, runGate v (c :: l) o x = runGate v l o x := by
  have hno (k : List (Fin 16)) (hk : preempts v k o = 0) (x : Fin 16) : opensIn v k o x = false := by
    rw [opensIn, hk, hfree, opensFrom_zero]
  have hkeep (k : List (Fin 16)) (hk : preempts v k o = 0) (x : Fin 16) : runGate v k o x = o.gates[x] := by
    rw [runGate, hno k hk, preemptedIn, hk, amongFirst_zero]
    rfl
  exact ⟨fun x => by rw [hno _ hnone, hno _ hrest], fun x => by rw [hkeep _ hnone, hkeep _ hrest]⟩

include hl

/-- A first candidate takes a free slot (R96). -/
theorem run_free (hfree : 0 < o.free) :
    (∀ x, opensIn v (c :: l) o x = (decide (x = c) || opensIn v l (takeCandidate v o c) x))
    ∧ ∀ x, runGate v (c :: l) o x = runGate v l (takeCandidate v o c) x := by
  rw [takeCandidate_free hfree]
  generalize ho : (⟨put o.gates c { state := .opened, counter := v.hold }, o.free - 1, true⟩ : Opening) = o'
  have hgates : o'.gates = put o.gates c { state := .opened, counter := v.hold } := ho ▸ rfl
  have hslots : o'.free = o.free - 1 := ho ▸ rfl
  have hn : preempts v (c :: l) o = preempts v l o' := by
    cases hc : v.chair c with
    | true =>
      rw [preempts, preempts, chairs_cons hc, hgates, hslots, commons_put_chair hc]
      congr 1
      omega
    | false =>
      have hnil := chairs_nil_of_common hl hc
      rw [preempts, preempts, List.filter_cons_of_neg (by simp [hc]), hnil]
      simp
  have hopens (x : Fin 16) : opensIn v (c :: l) o x = (decide (x = c) || opensIn v l o' x) := by
    rw [Bool.eq_iff_iff, Bool.or_eq_true, decide_eq_true_iff, opensIn, opensFrom_cons hl, opensIn, opensFrom_iff, hslots, hn]
    refine or_congr ⟨And.left, fun h => ⟨h, .inl hfree⟩⟩ (and_congr_right fun _ => or_congr (by omega) (and_congr_right fun _ => by omega))
  refine ⟨hopens, fun x => ?_⟩
  have hkeep (hxc : x ≠ c) : preemptedIn v (c :: l) o x = preemptedIn v l o' x := by
    rw [preemptedIn, preemptedIn, ← hn]
    cases hc : v.chair c with
    | true =>
      rw [hgates, commons_put_chair hc]
      refine amongFirst_congr (fun z hz => ?_) _ _
      have hzc : z ≠ c := by
        rintro rfl
        exact Bool.false_ne_true ((mem_commons.1 hz).2.2.symm.trans hc)
      rw [put_other _ _ _ _ hzc]
    | false =>
      have hzero : preempts v (c :: l) o = 0 := by
        rw [hn, preempts, chairs_nil_of_common hl hc]
        simp
      rw [hzero, amongFirst_zero, amongFirst_zero]
  by_cases hxc : x = c
  · have hself : preemptedIn v l o' c = false := by
      rw [preemptedIn]
      cases hc : v.chair c with
      | true => exact decide_eq_false fun h => Bool.false_ne_true ((mem_commons.1 h.1).2.2.symm.trans hc)
      | false =>
        have hzero : preempts v l o' = 0 := by
          rw [preempts, chairs_nil_of_common hl hc]
          simp
        rw [hzero, amongFirst_zero]
    have hlater : opensIn v l o' c = false := Bool.eq_false_iff.2 fun h => head_not_mem hl (opensIn_mem h)
    rw [hxc, runGate, runGate, hopens, hself, hlater, hgates, put_same]
    simp
  · rw [runGate, runGate, hopens, hkeep hxc, hgates, put_other _ _ _ _ hxc]
    simp [hxc]

/-- A first candidate without a free slot preempts the weakest common entry (R97). -/
theorem run_preempts (hs : v.members.Pairwise (· < ·)) (hclosed : ∀ x ∈ c :: l, (o.gates[x]).state = .closed) (hfree : o.free = 0)
    (hc : v.chair c = true) {y : Fin 16} (hv : victim o.gates (commons v o.gates) = some y) :
    (∀ x, opensIn v (c :: l) o x = (decide (x = c) || opensIn v l (takeCandidate v o c) x))
    ∧ ∀ x, runGate v (c :: l) o x = runGate v l (takeCandidate v o c) x := by
  have hy := victim_mem hv
  have hnodup : (commons v o.gates).Nodup := (hs.imp fun h => ne_of_lt h).filter _
  obtain ⟨z, -, hz, hweak⟩ := victim_spec o.gates _ (List.ne_nil_of_mem hy)
  obtain rfl : z = y := Option.some.inj (hz.symm.trans hv)
  have hweak := hweak (hs.filter _)
  have hopen := (mem_commons.1 hy).2.1
  have hnot (x : Fin 16) (hx : x ∈ c :: l) : x ≠ z := fun h => GateState.noConfusion ((hclosed x hx).symm.trans (h ▸ hopen))
  rw [takeCandidate_preempts hfree hc hv]
  generalize ho : (⟨put (put o.gates z shutGate) c { state := .opened, counter := v.hold }, 0, true⟩ : Opening) = o'
  have hgates : o'.gates = put (put o.gates z shutGate) c { state := .opened, counter := v.hold } := ho ▸ rfl
  have hslots : o'.free = 0 := ho ▸ rfl
  have hcommons : commons v o'.gates = (commons v o.gates).filter fun x => decide (x ≠ z) := by
    rw [hgates, commons_put_chair hc, commons_put_shut]
  have hn : preempts v (c :: l) o = preempts v l o' + 1 := by
    have hlen := length_filter_ne hnodup hy
    rw [preempts, preempts, chairs_cons hc, hcommons, hfree, hslots]
    omega
  have hopens (x : Fin 16) : opensIn v (c :: l) o x = (decide (x = c) || opensIn v l o' x) := by
    rw [Bool.eq_iff_iff, Bool.or_eq_true, decide_eq_true_iff, opensIn, opensFrom_cons hl, opensIn, opensFrom_iff, hslots, hn, hfree]
    refine or_congr ⟨And.left, fun h => ⟨h, .inr ⟨hc, by omega⟩⟩⟩
      (and_congr_right fun _ => or_congr (by omega) (and_congr_right fun _ => by omega))
  refine ⟨hopens, fun x => ?_⟩
  by_cases hxc : x = c
  · have hself : preemptedIn v l o' c = false :=
      decide_eq_false fun h => Bool.false_ne_true ((mem_commons.1 h.1).2.2.symm.trans hc)
    have hlater : opensIn v l o' c = false := Bool.eq_false_iff.2 fun h => head_not_mem hl (opensIn_mem h)
    rw [hxc, runGate, runGate, hopens, hself, hlater, hgates, put_same]
    simp
  · have hfirst : preemptedIn v (c :: l) o x = true ↔ x = z ∨ preemptedIn v l o' x = true := by
      have hmem (w : Fin 16) (hw : w ∈ commons v o.gates) : w ≠ c := by
        rintro rfl
        exact Bool.false_ne_true ((mem_commons.1 hw).2.2.symm.trans hc)
      rw [preemptedIn, hn, amongFirst_succ hweak hnodup hy (d := fun m => (o.gates[m]).counter) (fun _ _ => rfl), preemptedIn, hcommons]
      rw [amongFirst_congr (d := fun m => (o'.gates[m]).counter) fun w hw => ?_]
      obtain ⟨hw, hwz⟩ := List.mem_filter.1 hw
      rw [hgates, put_other _ _ _ _ (hmem w hw), put_other _ _ _ _ (of_decide_eq_true hwz)]
    rw [runGate, runGate, hopens, hgates, put_other _ _ _ _ hxc]
    simp only [hxc, decide_false, Bool.false_or, hfirst]
    by_cases hxz : x = z
    · have hlater : opensIn v l o' z = false :=
        Bool.eq_false_iff.2 fun h => hnot z (List.mem_cons_of_mem _ (opensIn_mem h)) rfl
      rw [hxz, hlater, put_same]
      simp
    · rw [put_other _ _ _ _ hxz]
      simp only [hxz, false_or]

end

/-- One candidate of the run: the gates that the rest of the run makes of what it leaves, and whether a gate has opened. -/
theorem run_step {v : GateView} (hs : v.members.Pairwise (· < ·)) {c : Fin 16} {l : List (Fin 16)}
    (hl : (c :: l).Pairwise fun x y => goesBefore v x y = true) {o : Opening} (hclosed : ∀ x ∈ c :: l, (o.gates[x]).state = .closed) :
    (∀ x, runGate v (c :: l) o x = runGate v l (takeCandidate v o c) x)
    ∧ ((takeCandidate v o c).opened || l.any (opensIn v l (takeCandidate v o c)))
        = (o.opened || (c :: l).any (opensIn v (c :: l) o)) := by
  have hopened {o' : Opening} (ho : o'.opened = true)
      (h : ∀ x, opensIn v (c :: l) o x = (decide (x = c) || opensIn v l o' x)) :
      (o'.opened || l.any (opensIn v l o')) = (o.opened || (c :: l).any (opensIn v (c :: l) o)) := by
    rw [ho, List.any_cons, h]
    simp
  rcases Nat.eq_zero_or_pos o.free with hzero | hfree
  · have hidle (hsame : takeCandidate v o c = o) (hnone : preempts v (c :: l) o = 0) (hrest : preempts v l o = 0) :
        (∀ x, runGate v (c :: l) o x = runGate v l (takeCandidate v o c) x)
        ∧ ((takeCandidate v o c).opened || l.any (opensIn v l (takeCandidate v o c)))
            = (o.opened || (c :: l).any (opensIn v (c :: l) o)) := by
      obtain ⟨hopens, hgates⟩ := run_idle hzero hnone hrest
      have hself : opensIn v l o c = false := Bool.eq_false_iff.2 fun h => head_not_mem hl (opensIn_mem h)
      rw [hsame, List.any_cons, hopens, hself, funext hopens]
      exact ⟨hgates, rfl⟩
    cases hc : v.chair c with
    | false =>
      have hnil := chairs_nil_of_common hl hc
      refine hidle (takeCandidate_common hzero hc) ?_ ?_
      · rw [preempts, List.filter_cons_of_neg (by simp [hc]), hnil]
        simp
      · rw [preempts, hnil]
        simp
    | true =>
      rcases hv : victim o.gates (commons v o.gates) with _ | y
      · have hnil := victim_eq_none hv
        exact hidle (takeCandidate_none hzero hv) (by rw [preempts, hnil]; simp) (by rw [preempts, hnil]; simp)
      · obtain ⟨hopens, hgates⟩ := run_preempts hl hs hclosed hzero hc hv
        exact ⟨hgates, hopened (by rw [takeCandidate_preempts hzero hc hv]) hopens⟩
  · obtain ⟨hopens, hgates⟩ := run_free hl hfree
    exact ⟨hgates, hopened (by rw [takeCandidate_free hfree]) hopens⟩

/-- The run through the candidates in rank order (R96, R97): the gates it leaves, and whether one opened. -/
theorem takeCandidates_eq {v : GateView} (hs : v.members.Pairwise (· < ·)) (l : List (Fin 16))
    (hl : l.Pairwise fun x y => goesBefore v x y = true) (o : Opening) (hclosed : ∀ x ∈ l, (o.gates[x]).state = .closed) :
    (∀ x : Fin 16, (l.foldl (takeCandidate v) o).gates[x] = runGate v l o x)
    ∧ (l.foldl (takeCandidate v) o).opened = (o.opened || l.any (opensIn v l o)) := by
  induction l generalizing o with
  | nil =>
    refine ⟨fun x => ?_, (Bool.or_false _).symm⟩
    simp [runGate, opensIn, opensFrom, preemptedIn, preempts, amongFirst_zero]
  | cons c l ih =>
    obtain ⟨hgates, hopened⟩ := run_step hs hl hclosed
    obtain ⟨hkeep, -⟩ := takeCandidate_spec v o c
    have hlater (x : Fin 16) (hx : x ∈ l) : ((takeCandidate v o c).gates[x]).state = .closed := by
      have hxc : x ≠ c := fun h => head_not_mem hl (h ▸ hx)
      have hc := hclosed x (List.mem_cons_of_mem _ hx)
      rw [hkeep x hxc (.inl (by rw [hc]; exact GateState.noConfusion)), hc]
    obtain ⟨ihgates, ihopened⟩ := ih (List.pairwise_cons.1 hl).2 _ hlater
    exact ⟨fun x => (ihgates x).trans (hgates x).symm, ihopened.trans hopened⟩

end Sys2Proof.Machine
end

section
/-! SUPPORT. One evaluation of a slot, member by member (R92 to R97): the first half of O41. -/

namespace Sys2Proof.Machine
open Host

section
variable (v : GateView) (gs : Gates)

/-- The members OPEN after the counters (R93). -/
def heldOpen : List (Fin 16) := v.members.filter fun m =>
  decide (((gs[m]).state = .opened ∧ (v.cand m = true ∨ 1 < (gs[m]).counter)) ∨ ((gs[m]).state = .lastOn ∧ v.cand m = true))

/-- A member's counter after one boundary (R93). -/
def nextCount (m : Fin 16) : Nat := if v.cand m then v.hold else (gs[m]).counter - 1

/-- The members that stay OPEN within the open limit (R95). -/
def staying : List (Fin 16) := (heldOpen v gs).filter fun m =>
  decide ((heldOpen v gs).length - v.limit ≤ placeIn (nextCount v gs) (heldOpen v gs) m)

/-- A LAST_ON member is alone in not being CLOSED (R94). -/
def LastAlone : Prop := ∀ x ∈ v.members, ∀ y ∈ v.members, (gs[x]).state = .lastOn → x = y ∨ (gs[y]).state = .closed

/-- The members whose counter runs out (R93). -/
def expiring : List (Fin 16) := v.members.filter fun m =>
  decide ((gs[m]).state = .opened ∧ v.cand m = false ∧ (gs[m]).counter ≤ 1)

end

section
variable {v : GateView} {gs : Gates} {m : Fin 16}

theorem mem_heldOpen : m ∈ heldOpen v gs ↔ m ∈ v.members
    ∧ (((gs[m]).state = .opened ∧ (v.cand m = true ∨ 1 < (gs[m]).counter)) ∨ ((gs[m]).state = .lastOn ∧ v.cand m = true)) := by
  rw [heldOpen, List.mem_filter, decide_eq_true_iff]

theorem mem_expiring : m ∈ expiring v gs ↔ m ∈ v.members ∧ expires v gs m = true := by
  rw [expiring, List.mem_filter, decide_eq_true_iff, expires_iff]
  tauto

/-! ## After the counters (R93, R94) -/

theorem stepCounter_opened (v : GateView) (m : Fin 16) {g : Gate} (h : g.state = .opened) :
    stepCounter v m g = { state := .opened, counter := if v.cand m then v.hold else g.counter - 1 } := by
  obtain ⟨state, n⟩ := g
  obtain rfl : state = .opened := h
  exact (apply_ite (fun k : Nat => ({ state := .opened, counter := k } : Gate)) ..).symm

theorem stepCounter_lastOn (v : GateView) (m : Fin 16) {g : Gate} (h : g.state = .lastOn) :
    stepCounter v m g = if v.cand m then { state := .opened, counter := v.hold } else { state := .lastOn, counter := 0 } := by
  rw [stepCounter, h]

/-- A member whose counter does not run out takes the step of its counter; LAST_ON closes with the option Off (R94; log 19). -/
theorem closeOne_stays (hm : m ∈ v.members) (he : expires v gs m = false) : closeOne v gs m =
    if (stepCounter v m gs[m]).state = .lastOn ∧ v.lastOn = false then shutGate else stepCounter v m gs[m] := by
  rw [closeOne, if_pos hm, he, if_neg Bool.false_ne_true]

theorem not_expires_of_heldOpen (h : m ∈ heldOpen v gs) : expires v gs m = false := by
  obtain ⟨-, h⟩ := mem_heldOpen.1 h
  refine Bool.eq_false_iff.2 fun he => ?_
  obtain ⟨ho, hc, hn⟩ := expires_iff.1 he
  rcases h with ⟨-, h | h⟩ | ⟨h, -⟩
  · exact Bool.false_ne_true (hn.symm.trans h)
  · omega
  · exact GateState.noConfusion (h.symm.trans ho)

theorem stepCounter_heldOpen (h : m ∈ heldOpen v gs) :
    stepCounter v m gs[m] = { state := .opened, counter := nextCount v gs m } := by
  obtain ⟨-, ⟨ho, -⟩ | ⟨hl, hc⟩⟩ := mem_heldOpen.1 h
  · exact stepCounter_opened v m ho
  · rw [stepCounter_lastOn v m hl, nextCount, if_pos hc, if_pos hc]

theorem closeOne_heldOpen (h : m ∈ heldOpen v gs) : closeOne v gs m = { state := .opened, counter := nextCount v gs m } := by
  rw [closeOne_stays (mem_heldOpen.1 h).1 (not_expires_of_heldOpen h), stepCounter_heldOpen h,
    if_neg fun hl => GateState.noConfusion hl.1]

/-- A CLOSED member's entry stands. -/
theorem closeOne_closed (hm : m ∈ v.members) (hc : (gs[m]).state = .closed) : closeOne v gs m = gs[m] := by
  have hno : expires v gs m = false := Bool.eq_false_iff.2 fun he => GateState.noConfusion (hc.symm.trans (expires_iff.1 he).1)
  rw [closeOne_stays hm hno, stepCounter_closed hc, if_neg fun hl => GateState.noConfusion (hc.symm.trans hl.1)]

/-- A member that is neither CLOSED before nor OPEN after the counters expires, or is LAST_ON and no candidate. -/
theorem leaving_cases (hm : m ∈ v.members) (hc : (gs[m]).state ≠ .closed) (h : m ∉ heldOpen v gs) :
    expires v gs m = true ∨ ((gs[m]).state = .lastOn ∧ v.cand m = false) := by
  rw [mem_heldOpen, not_and] at h
  obtain ⟨hopened, hlast⟩ := not_or.1 (h hm)
  cases hs : (gs[m]).state with
  | closed => exact absurd hs hc
  | opened =>
    obtain ⟨hcand, hcount⟩ := not_or.1 fun k => hopened ⟨hs, k⟩
    exact .inl (expires_iff.2 ⟨hs, by omega, Bool.eq_false_iff.2 hcand⟩)
  | lastOn => exact .inr ⟨rfl, Bool.eq_false_iff.2 fun k => hlast ⟨hs, k⟩⟩

/-- Such a member is LAST_ON or CLOSED after the counters (R94). -/
theorem closeOne_leaving (hm : m ∈ v.members) (hc : (gs[m]).state ≠ .closed) (h : m ∉ heldOpen v gs) : closeOne v gs m =
    if v.lastOn = true ∧ ((gs[m]).state = .lastOn ∨ becomesLast v gs = some m) then { state := .lastOn, counter := 0 } else shutGate := by
  rcases leaving_cases hm hc h with he | ⟨hl, hn⟩
  · have hopened : (gs[m]).state ≠ .lastOn := fun hl => GateState.noConfusion (hl.symm.trans (expires_iff.1 he).1)
    have hbecomes : becomesLast v gs = some m ↔ v.lastOn = true ∧ becomesLast v gs = some m :=
      ⟨fun hb => ⟨(becomesLast_some hb).1, hb⟩, And.right⟩
    simp only [closeOne_expires hm he, hopened, false_or, ← hbecomes]
  · have hno : expires v gs m = false := Bool.eq_false_iff.2 fun he => GateState.noConfusion (hl.symm.trans (expires_iff.1 he).1)
    rw [closeOne_stays hm hno, stepCounter_lastOn v m hl, hn, hl]
    cases v.lastOn <;> rfl

theorem remains_of_heldOpen (h : m ∈ heldOpen v gs) : Remains v gs m :=
  ⟨(mem_heldOpen.1 h).1, by rw [stepCounter_heldOpen h]; exact GateState.noConfusion, not_expires_of_heldOpen h⟩

theorem remains_cases (h : Remains v gs m) : m ∈ heldOpen v gs ∨ (gs[m]).state = .lastOn := by
  obtain ⟨hm, hstep, he⟩ := h
  by_cases hh : m ∈ heldOpen v gs
  · exact .inl hh
  · have hc : (gs[m]).state ≠ .closed := fun hc => hstep (by rw [stepCounter_closed hc, hc])
    rcases leaving_cases hm hc hh with h | ⟨hl, -⟩
    · exact absurd (h.symm.trans he) Bool.noConfusion
    · exact .inr hl

theorem loudest_mem {peak : Fin 16 → Nat} {l : List (Fin 16)} (hl : l.Pairwise (· < ·)) {y : Fin 16} (h : loudest peak l = some y) :
    y ∈ l := by
  rcases l with _ | ⟨b, l⟩
  · exact nomatch (h : none = some y)
  · obtain ⟨z, hz, hloud, -⟩ := loudest_spec peak (b :: l) hl (List.mem_cons_self ..)
    exact Option.some.inj (hloud.symm.trans h) ▸ hz

/-! ## The open limit (R95) -/

section
variable (halone : LastAlone v gs)
include halone

/-- An expiring member becomes LAST_ON where last-on is On, no member is left OPEN, and it is the loudest that expires (R94). -/
theorem becomesLast_iff (hs : v.members.Pairwise (· < ·)) (he : m ∈ expiring v gs) : becomesLast v gs = some m ↔
    v.lastOn = true ∧ heldOpen v gs = [] ∧ ∀ x ∈ expiring v gs, x = m ∨ v.peak x < v.peak m ∨ (v.peak x = v.peak m ∧ m < x) := by
  have hlist : expiring v gs = v.members.filter (expires v gs) := by
    refine List.filter_congr fun x _ => ?_
    rw [Bool.eq_iff_iff, decide_eq_true_iff, expires_iff]
    tauto
  obtain ⟨y, hy, hloud, hmax⟩ := loudest_spec v.peak _ (hs.filter (expires v gs)) (hlist ▸ he)
  rw [← hlist] at hy hmax
  constructor
  · intro hb
    obtain ⟨hon, hremains, hb⟩ := becomesLast_some hb
    obtain rfl : y = m := Option.some.inj (hloud.symm.trans hb)
    refine ⟨hon, List.eq_nil_iff_forall_not_mem.2 fun x hx => hremains x (remains_of_heldOpen hx), fun x hx => ?_⟩
    have := hmax x hx
    omega
  · rintro ⟨hon, hnil, hloudest⟩
    have hremains (x : Fin 16) : ¬Remains v gs x := fun hx => by
      rcases remains_cases hx with h | h
      · rw [hnil] at h
        exact List.not_mem_nil h
      · obtain ⟨hm, hme⟩ := mem_expiring.1 he
        have hopened := (expires_iff.1 hme).1
        rcases halone x hx.1 m hm h with rfl | hc
        · exact GateState.noConfusion (h.symm.trans hopened)
        · exact GateState.noConfusion (hc.symm.trans hopened)
    rw [becomesLast_eq hon hremains, hloud]
    have := hmax m he
    rcases hloudest y hy with h | h | h
    · rw [h]
    · omega
    · omega

/-- Where members are left OPEN by the counters, they alone are not CLOSED. -/
theorem closeOne_isOpen (hne : heldOpen v gs ≠ []) (hm : m ∈ v.members) : (closeOne v gs m).isOpen = decide (m ∈ heldOpen v gs) := by
  by_cases hh : m ∈ heldOpen v gs
  · rw [closeOne_heldOpen hh, decide_eq_true hh]
    rfl
  · rw [decide_eq_false hh]
    by_cases hc : (gs[m]).state = .closed
    · rw [closeOne_closed hm hc, Gate.isOpen, hc]
      rfl
    · obtain ⟨y, hy⟩ := List.exists_mem_of_ne_nil _ hne
      rw [closeOne_leaving hm hc hh, if_neg]
      · rfl
      · rintro ⟨-, hl | hb⟩
        · rcases halone m hm y (mem_heldOpen.1 hy).1 hl with rfl | hyc
          · exact hh hy
          · have hstep := stepCounter_heldOpen hy
            rw [stepCounter_closed hyc] at hstep
            exact GateState.noConfusion (hyc.symm.trans (congrArg Gate.state hstep))
        · exact (becomesLast_some hb).2.1 y (remains_of_heldOpen hy)

/-- Where the counters leave no member OPEN, at most one is LAST_ON. -/
theorem countOpen_of_none (hs : v.members.Pairwise (· < ·)) (hnil : heldOpen v gs = []) :
    countOpen v.members (tab (closeOne v gs)) ≤ 1 := by
  have hlast (x : Fin 16) (hx : x ∈ v.members.filter fun m => ((tab (closeOne v gs) : Gates)[m]).isOpen) :
      x ∈ v.members ∧ ((gs[x]).state = .lastOn ∨ becomesLast v gs = some x) := by
    obtain ⟨hx, ho⟩ := List.mem_filter.1 hx
    rw [tab_get] at ho
    refine ⟨hx, ?_⟩
    by_cases hc : (gs[x]).state = .closed
    · rw [closeOne_closed hx hc, Gate.isOpen, hc] at ho
      exact absurd ho Bool.false_ne_true
    · rw [closeOne_leaving hx hc (by rw [hnil]; exact List.not_mem_nil)] at ho
      by_contra hno
      rw [if_neg fun h => hno h.2] at ho
      exact Bool.false_ne_true ho
  have hcross (x y : Fin 16) (hx : x ∈ v.members) (hl : (gs[x]).state = .lastOn) (hy : y ∈ v.members)
      (hb : (gs[y]).state = .lastOn ∨ becomesLast v gs = some y) : y = x := by
    rcases halone x hx y hy hl with rfl | hc
    · rfl
    · rcases hb with hl | hb
      · exact absurd (hl.symm.trans hc) GateState.noConfusion
      · have hmem := (List.mem_filter.1 (loudest_mem (hs.filter _) (becomesLast_some hb).2.2)).2
        exact absurd (hc.symm.trans (expires_iff.1 hmem).1) GateState.noConfusion
  rcases hl : (v.members.filter fun m => ((tab (closeOne v gs) : Gates)[m]).isOpen) with _ | ⟨x, l⟩
  · rw [countOpen, hl]
    exact Nat.zero_le _
  · refine length_le_one_of_eq (m := x) ((hs.imp fun h => ne_of_lt h).filter _) fun y hy => ?_
    obtain ⟨hx, hxl⟩ := hlast x (hl ▸ List.mem_cons_self ..)
    obtain ⟨hy, hyl⟩ := hlast y hy
    rcases hxl with hxl | hxb
    · exact hcross x y hx hxl hy hyl
    · rcases hyl with hyl | hyb
      · exact (hcross y x hy hyl hx (.inr hxb)).symm
      · exact Option.some.inj (hyb.symm.trans hxb)

/-- The closing phase on a member: OPEN within the limit, closed as excess, or as the counters left it (R93 to R95). -/
theorem closingPhase_eq (hs : v.members.Pairwise (· < ·)) (hlim : 1 ≤ v.limit) : (closingPhase v gs)[m] =
    if m ∈ staying v gs then { state := .opened, counter := nextCount v gs m }
    else if m ∈ heldOpen v gs then shutGate
    else closeOne v gs m := by
  by_cases hnil : heldOpen v gs = []
  · have hzero : countOpen v.members (tab (closeOne v gs)) - v.limit = 0 := by
      have := countOpen_of_none halone hs hnil
      omega
    have hstay : staying v gs = [] := by rw [staying, hnil]; rfl
    rw [closingPhase, hzero, hstay, hnil, if_neg List.not_mem_nil, if_neg List.not_mem_nil]
    exact tab_get ..
  · have hlist : (v.members.filter fun x => ((tab (closeOne v gs) : Gates)[x]).isOpen) = heldOpen v gs := by
      rw [heldOpen]
      refine List.filter_congr fun x hx => ?_
      rw [tab_get, closeOne_isOpen halone hnil hx, Bool.eq_iff_iff, decide_eq_true_iff, decide_eq_true_iff, mem_heldOpen]
      simp only [hx, true_and]
    have hplace (hh : m ∈ heldOpen v gs) : placeIn (fun x => ((tab (closeOne v gs) : Gates)[x]).counter) (heldOpen v gs) m
        = placeIn (nextCount v gs) (heldOpen v gs) m :=
      placeIn_congr (fun x hx => by rw [tab_get, closeOne_heldOpen hx]) hh
    have hfirst : amongFirst (fun x => ((tab (closeOne v gs) : Gates)[x]).counter) (heldOpen v gs)
        ((heldOpen v gs).length - v.limit) m = true ↔ m ∈ heldOpen v gs ∧ m ∉ staying v gs := by
      rw [amongFirst_iff, staying, List.mem_filter, decide_eq_true_iff]
      refine and_congr_right fun hh => ?_
      rw [hplace hh, not_and, not_le]
      exact ⟨fun h _ => h, fun h => h hh⟩
    rw [closingPhase, closeExcess_eq hs, countOpen, hlist, tab_get]
    simp only [hfirst]
    by_cases hh : m ∈ heldOpen v gs
    · by_cases hst : m ∈ staying v gs
      · simp only [hh, hst, not_true_eq_false, and_false, if_false, if_true]
        exact closeOne_heldOpen hh
      · simp only [hh, hst, not_false_eq_true, and_true, if_true, if_false]
    · have hst : m ∉ staying v gs := fun h => hh (List.mem_filter.1 h).1
      simp only [hh, hst, false_and, if_false]

/-- After the closing phase the OPEN members are those that stay. -/
theorem closingPhase_opened_iff (hs : v.members.Pairwise (· < ·)) (hlim : 1 ≤ v.limit) (hm : m ∈ v.members) :
    ((closingPhase v gs)[m]).state = .opened ↔ m ∈ staying v gs := by
  rw [closingPhase_eq halone hs hlim]
  by_cases hst : m ∈ staying v gs
  · simp only [hst, if_true]
  · rw [if_neg hst]
    refine iff_of_false (fun h => ?_) hst
    by_cases hh : m ∈ heldOpen v gs
    · rw [if_pos hh] at h
      exact GateState.noConfusion h
    · rw [if_neg hh] at h
      by_cases hc : (gs[m]).state = .closed
      · rw [closeOne_closed hm hc, hc] at h
        exact GateState.noConfusion h
      · rw [closeOne_leaving hm hc hh] at h
        split at h <;> exact GateState.noConfusion h

/-- A candidate is CLOSED after the closing phase unless it stays OPEN. -/
theorem closingPhase_candidate (hs : v.members.Pairwise (· < ·)) (hlim : 1 ≤ v.limit) (hm : m ∈ v.members) (hc : v.cand m = true) :
    ((closingPhase v gs)[m]).state = .closed ↔ m ∉ staying v gs := by
  by_cases hst : m ∈ staying v gs
  · refine iff_of_false (fun h => ?_) (not_not.2 hst)
    exact GateState.noConfusion (h.symm.trans ((closingPhase_opened_iff halone hs hlim hm).2 hst))
  · refine iff_of_true ?_ hst
    rw [closingPhase_eq halone hs hlim, if_neg hst]
    by_cases hh : m ∈ heldOpen v gs
    · rw [if_pos hh]
      rfl
    · have hclosed : (gs[m]).state = .closed := by
        by_contra hno
        rcases leaving_cases hm hno hh with he | ⟨-, hn⟩
        · exact Bool.false_ne_true ((expires_iff.1 he).2.2.symm.trans hc)
        · exact Bool.false_ne_true (hn.symm.trans hc)
      rw [if_neg hh, closeOne_closed hm hclosed, hclosed]

end

/-! ## The opening phase on what is left (R96, R97) -/

/-- The candidates that ask for a gate. -/
def asking (v : GateView) (gs : Gates) : List (Fin 16) := v.members.filter fun m => v.cand m && decide (m ∉ staying v gs)

/-- The non-chair members that stay OPEN. -/
def stayingCommons (v : GateView) (gs : Gates) : List (Fin 16) := (staying v gs).filter fun m => !v.chair m

/-- How many chair candidates preempt (R97). -/
def preempting (v : GateView) (gs : Gates) : Nat :=
  min (((asking v gs).filter v.chair).length - (v.limit - (staying v gs).length)) (stayingCommons v gs).length

/-- A candidate that the evaluation opens (R96, R97). -/
def openedBy (v : GateView) (gs : Gates) : Fin 16 → Bool :=
  opensFrom v (asking v gs) (v.limit - (staying v gs).length) (preempting v gs)

/-- A member that stayed OPEN and is preempted (R97). -/
def preemptedBy (v : GateView) (gs : Gates) : Fin 16 → Bool :=
  amongFirst (nextCount v gs) (stayingCommons v gs) (preempting v gs)

theorem opensFrom_perm {v : GateView} {l l' : List (Fin 16)} (h : l.Perm l') (free n : Nat) :
    opensFrom v l free n = opensFrom v l' free n := by
  funext x
  rw [opensFrom, opensFrom, rankIn, rankIn, (h.filter _).length_eq]
  simp only [h.mem_iff]

/-- What the opening phase starts from. -/
def openingStart (v : GateView) (gs : Gates) : Opening :=
  { gates := gs, free := v.limit - (v.members.filter fun m => decide ((gs[m]).state = .opened)).length, opened := false }

theorem filter_eq_filter_mem (l : List (Fin 16)) (p : Fin 16 → Bool) : l.filter p = l.filter fun x => decide (x ∈ l.filter p) :=
  List.filter_congr fun x hx => by simp [hx]

/-- The members that stay, in the order of the slot. -/
theorem staying_eq (v : GateView) (gs : Gates) : staying v gs = v.members.filter fun m => decide (m ∈ staying v gs) := by
  unfold staying
  generalize (fun m => decide ((heldOpen v gs).length - v.limit ≤ placeIn (nextCount v gs) (heldOpen v gs) m)) = q
  rw [heldOpen, List.filter_filter]
  exact filter_eq_filter_mem ..

/-- A member that no gate opens for becomes LAST_ON, or stays so (R94). -/
def lastBy (v : GateView) (gs : Gates) (m : Fin 16) : Bool :=
  v.lastOn && !(v.members.any (openedBy v gs)) &&
    decide ((gs[m]).state = .lastOn ∨ (heldOpen v gs = [] ∧ m ∈ expiring v gs
      ∧ ∀ x ∈ expiring v gs, x = m ∨ v.peak x < v.peak m ∨ (v.peak x = v.peak m ∧ m < x)))

section
variable (halone : LastAlone v gs) (hs : v.members.Pairwise (· < ·)) (hlim : 1 ≤ v.limit)
include halone hs hlim

theorem opened_closing : (v.members.filter fun m => decide (((closingPhase v gs)[m]).state = .opened)) = staying v gs := by
  refine .trans (List.filter_congr fun x hx => ?_) (staying_eq v gs).symm
  simp only [closingPhase_opened_iff halone hs hlim hx]

theorem openingStart_free : (openingStart v (closingPhase v gs)).free = v.limit - (staying v gs).length := by
  rw [← opened_closing halone hs hlim]
  rfl

theorem commons_closing : commons v (closingPhase v gs) = stayingCommons v gs := by
  rw [stayingCommons, ← opened_closing halone hs hlim, commons, List.filter_filter]
  simp only [Bool.and_comm]

theorem ranked_perm : (rankedCandidates v (closingPhase v gs)).Perm (asking v gs) := by
  refine (List.perm_insertionSort _ _).trans (List.Perm.of_eq (List.filter_congr fun x hx => ?_))
  cases hc : v.cand x
  · rfl
  · simp only [closingPhase_candidate halone hs hlim hx hc]

/-- The run through the candidates after the closing phase (R96, R97). -/
theorem openings_eq : (∀ x : Fin 16, (openings v (closingPhase v gs)).gates[x] =
      if openedBy v gs x = true then { state := .opened, counter := v.hold }
      else if preemptedBy v gs x = true then shutGate
      else (closingPhase v gs)[x])
    ∧ (openings v (closingPhase v gs)).opened = v.members.any (openedBy v gs) := by
  have hperm := ranked_perm halone hs hlim
  have hfree := openingStart_free halone hs hlim
  have hcommons := commons_closing halone hs hlim
  have hn : preempts v (rankedCandidates v (closingPhase v gs)) (openingStart v (closingPhase v gs)) = preempting v gs := by
    rw [preempts, preempting, (hperm.filter _).length_eq, hfree, openingStart, hcommons]
  have hopens : opensIn v (rankedCandidates v (closingPhase v gs)) (openingStart v (closingPhase v gs)) = openedBy v gs := by
    rw [opensIn, hn, hfree, opensFrom_perm hperm, openedBy]
  have hpreempted (x : Fin 16) : preemptedIn v (rankedCandidates v (closingPhase v gs)) (openingStart v (closingPhase v gs)) x
      = preemptedBy v gs x := by
    rw [preemptedIn, hn, openingStart, hcommons, preemptedBy]
    refine amongFirst_congr (fun y hy => ?_) _ _
    rw [closingPhase_eq halone hs hlim, if_pos (List.mem_filter.1 hy).1]
  obtain ⟨hgates, hopened⟩ := takeCandidates_eq hs _ (ranked_pairwise v (closingPhase v gs) (hs.imp fun h => ne_of_lt h))
    (openingStart v (closingPhase v gs)) fun x hx => (mem_ranked.1 hx).2.2
  refine ⟨fun x => (hgates x).trans ?_, hopened.trans ?_⟩
  · rw [runGate, hopens, hpreempted]
    rfl
  · rw [hopens, openingStart, Bool.false_or, Bool.eq_iff_iff, List.any_eq_true, List.any_eq_true]
    have hin (x : Fin 16) (hx : openedBy v gs x = true) : x ∈ asking v gs := (opensFrom_iff.1 hx).1
    exact ⟨fun ⟨x, _, hx⟩ => ⟨x, (List.mem_filter.1 (hin x hx)).1, hx⟩, fun ⟨x, _, hx⟩ => ⟨x, hperm.mem_iff.2 (hin x hx), hx⟩⟩

omit hlim in
/-- A member that leaves is LAST_ON after the counters, and no gate opens. -/
theorem lastBy_iff (hm : m ∈ v.members) (hc : (gs[m]).state ≠ .closed) (hh : m ∉ heldOpen v gs) : lastBy v gs m = true ↔
    v.members.any (openedBy v gs) = false ∧ v.lastOn = true ∧ ((gs[m]).state = .lastOn ∨ becomesLast v gs = some m) := by
  rw [lastBy, Bool.and_eq_true, Bool.and_eq_true, Bool.not_eq_true', decide_eq_true_iff, and_assoc, and_left_comm]
  refine and_congr_right fun _ => and_congr_right fun hon => ?_
  rcases leaving_cases hm hc hh with he | ⟨hl, -⟩
  · have hmem := mem_expiring.2 ⟨hm, he⟩
    rw [becomesLast_iff halone hs hmem]
    simp only [hon, hmem, true_and]
  · simp only [hl, true_or]

theorem openings_gate (hm : m ∈ v.members) : (evaluateSlot v gs)[m] =
    if v.members.any (openedBy v gs) = true ∧ ((openings v (closingPhase v gs)).gates[m]).state = .lastOn then shutGate
    else (openings v (closingPhase v gs)).gates[m] := by
  rw [evaluateSlot, openingPhase_eq, ← (openings_eq halone hs hlim).2]
  cases (openings v (closingPhase v gs)).opened
  · rfl
  · rw [if_pos rfl, tab_get]
    simp only [hm, true_and]

/-- One evaluation of a slot, member by member (R92 to R97). -/
theorem evaluateSlot_eq (hm : m ∈ v.members) : (evaluateSlot v gs)[m] =
    if openedBy v gs m = true then { state := .opened, counter := v.hold }
    else if m ∈ staying v gs ∧ preemptedBy v gs m = false then { state := .opened, counter := nextCount v gs m }
    else if (gs[m]).state = .closed then gs[m]
    else if m ∉ heldOpen v gs ∧ lastBy v gs m = true then { state := .lastOn, counter := 0 }
    else { state := .closed, counter := 0 } := by
  rw [openings_gate halone hs hlim hm, (openings_eq halone hs hlim).1, closingPhase_eq halone hs hlim]
  have hnotClosed (hh : m ∈ heldOpen v gs) : (gs[m]).state ≠ .closed := fun hc =>
    (mem_heldOpen.1 hh).2.elim (fun h => GateState.noConfusion (hc.symm.trans h.1)) fun h => GateState.noConfusion (hc.symm.trans h.1)
  by_cases ho : openedBy v gs m = true
  · simp [ho]
  · rw [if_neg ho, if_neg ho]
    by_cases hst : m ∈ staying v gs
    · have hh : m ∈ heldOpen v gs := (List.mem_filter.1 hst).1
      cases hp : preemptedBy v gs m <;> simp [-Fin.getElem_fin, hst, hh, hnotClosed hh, shutGate]
    · have hp : preemptedBy v gs m = false := decide_eq_false fun h => hst (List.mem_filter.1 h.1).1
      by_cases hh : m ∈ heldOpen v gs
      · simp [-Fin.getElem_fin, hp, hst, hh, hnotClosed hh, shutGate]
      · by_cases hc : (gs[m]).state = .closed
        · simp only [hp, hst, hh, hc, closeOne_closed hm hc, false_and, Bool.false_eq_true, if_false, if_true, reduceCtorEq, and_false]
        · rw [closeOne_leaving hm hc hh]
          simp only [hp, hst, hh, hc, lastBy_iff halone hs hm hc hh, false_and, Bool.false_eq_true, if_false, not_false_eq_true, true_and]
          cases v.members.any (openedBy v gs) <;>
            by_cases hk : v.lastOn = true ∧ ((gs[m]).state = .lastOn ∨ becomesLast v gs = some m) <;>
            simp [-Fin.getElem_fin, hk, shutGate]

end

end

end Sys2Proof.Machine
end

section
/-! SUPPORT. An evaluation reads and writes the gates of its own slot alone (R92). -/

namespace Sys2Proof.Machine
open Host

/-- Two tables of gates agree on a list of microphones. -/
def AgreeOn (l : List (Fin 16)) (gs hs : Gates) : Prop := ∀ x ∈ l, gs[x] = hs[x]

section
variable {v : GateView} {gs hs : Gates} (h : AgreeOn v.members gs hs)
include h

theorem AgreeOn.put (y : Fin 16) (g : Gate) : AgreeOn v.members (put gs y g) (put hs y g) := fun x hx => by
  rw [put_get, put_get, h x hx]

/-- A test of the gates picks the same members. -/
theorem AgreeOn.filter (test : Fin 16 → Gate → Bool) :
    (v.members.filter fun m => test m gs[m]) = v.members.filter fun m => test m hs[m] :=
  List.filter_congr fun x hx => by rw [h x hx]

omit h in
theorem victim_congr {l : List (Fin 16)} (h : AgreeOn l gs hs) : victim gs l = victim hs l := by
  induction l using List.reverseRecOn with
  | nil => rfl
  | append_singleton l m ih =>
    have hl := ih fun x hx => h x (List.mem_append_left _ hx)
    rcases hv : victim gs l with _ | y
    · rw [victim_concat_none hv, victim_concat_none (hl ▸ hv)]
    · have hy : y ∈ l := victim_mem hv
      rw [victim_concat_some hv, victim_concat_some (hl ▸ hv), h m (List.mem_append_right _ (List.mem_singleton_self m)),
        h y (List.mem_append_left _ hy)]

theorem victim_agree {p q : Fin 16 → Bool} (hpq : v.members.filter p = v.members.filter q) :
    victim gs (v.members.filter p) = victim hs (v.members.filter q) := by
  rw [← hpq]
  exact victim_congr fun x hx => h x (List.mem_filter.1 hx).1

theorem becomesLast_congr : becomesLast v gs = becomesLast v hs := by
  have hexp (x : Fin 16) (hx : x ∈ v.members) : expires v gs x = expires v hs x := by rw [expires, expires, h x hx]
  have hany : (v.members.any fun m => decide ((stepCounter v m gs[m]).state ≠ .closed) && !expires v gs m)
      = v.members.any fun m => decide ((stepCounter v m hs[m]).state ≠ .closed) && !expires v hs m := by
    rw [Bool.eq_iff_iff, List.any_eq_true, List.any_eq_true]
    exact exists_congr fun x => and_congr_right fun hx => by rw [h x hx, hexp x hx]
  rw [becomesLast, becomesLast, List.filter_congr hexp, hany]

theorem closeOne_agree : AgreeOn v.members (tab (closeOne v gs)) (tab (closeOne v hs)) := fun x hx => by
  rw [tab_get, tab_get, closeOne, closeOne, expires, expires, h x hx, becomesLast_congr h]

theorem closeExcess_agree (n : Nat) : AgreeOn v.members (closeExcess v.members n gs) (closeExcess v.members n hs) := by
  induction n generalizing gs hs with
  | zero => exact h
  | succ n ih =>
    have hsame := victim_agree h (h.filter fun _ g => g.isOpen)
    rcases hv : victim gs (v.members.filter fun m => (gs[m]).isOpen) with _ | y
    · rw [closeExcess_none hv, closeExcess_none (hsame ▸ hv)]
      exact h
    · rw [closeExcess_some hv, closeExcess_some (hsame ▸ hv)]
      exact ih (h.put y shutGate)

theorem closingPhase_agree : AgreeOn v.members (closingPhase v gs) (closingPhase v hs) := by
  have hone := closeOne_agree h
  rw [closingPhase, closingPhase, countOpen, countOpen, hone.filter fun _ g => g.isOpen]
  exact closeExcess_agree hone _

/-- A candidate taken acts alike on gates that agree. -/
theorem takeCandidate_agree (free : Nat) (opened : Bool) (c : Fin 16) :
    let a := takeCandidate v { gates := gs, free := free, opened := opened } c
    let b := takeCandidate v { gates := hs, free := free, opened := opened } c
    AgreeOn v.members a.gates b.gates ∧ a.free = b.free ∧ a.opened = b.opened := by
  have hsame := victim_agree h (h.filter fun x g => decide (g.state = .opened) && !v.chair x)
  dsimp only
  rcases Nat.eq_zero_or_pos free with rfl | hfree
  · cases hc : v.chair c with
    | false =>
      rw [takeCandidate_common rfl hc, takeCandidate_common rfl hc]
      exact ⟨h, rfl, rfl⟩
    | true =>
      rcases hv : victim gs (commons v gs) with _ | y
      · rw [takeCandidate_none rfl hv, takeCandidate_none rfl (hsame.symm.trans hv)]
        exact ⟨h, rfl, rfl⟩
      · rw [takeCandidate_preempts rfl hc hv, takeCandidate_preempts rfl hc (hsame.symm.trans hv)]
        exact ⟨(h.put y _).put c _, rfl, rfl⟩
  · rw [takeCandidate_free hfree, takeCandidate_free hfree]
    exact ⟨h.put c _, rfl, rfl⟩

theorem takeCandidates_agree (l : List (Fin 16)) (free : Nat) (opened : Bool) :
    let a := l.foldl (takeCandidate v) { gates := gs, free := free, opened := opened }
    let b := l.foldl (takeCandidate v) { gates := hs, free := free, opened := opened }
    AgreeOn v.members a.gates b.gates ∧ a.opened = b.opened := by
  induction l generalizing gs hs free opened with
  | nil => exact ⟨h, rfl⟩
  | cons c l ih =>
    obtain ⟨hgates, hfree, hopened⟩ := takeCandidate_agree h free opened c
    have hrest := ih hgates (takeCandidate v { gates := gs, free := free, opened := opened } c).free
      (takeCandidate v { gates := gs, free := free, opened := opened } c).opened
    dsimp only [List.foldl_cons] at hrest ⊢
    generalize takeCandidate v { gates := gs, free := free, opened := opened } c = a at hgates hfree hopened hrest ⊢
    generalize takeCandidate v { gates := hs, free := free, opened := opened } c = b at hgates hfree hopened hrest ⊢
    obtain ⟨ga, fa, oa⟩ := a
    obtain ⟨gb, fb, ob⟩ := b
    obtain rfl : fa = fb := hfree
    obtain rfl : oa = ob := hopened
    exact hrest

theorem openingPhase_agree : AgreeOn v.members (openingPhase v gs) (openingPhase v hs) := by
  have hranked : rankedCandidates v gs = rankedCandidates v hs := by
    rw [rankedCandidates, rankedCandidates, h.filter fun m g => v.cand m && decide (g.state = .closed)]
  have hrun (free : Nat) := takeCandidates_agree h (rankedCandidates v hs) free false
  have hg : AgreeOn v.members (openings v gs).gates (openings v hs).gates := by
    rw [openings, hranked, h.filter fun _ g => decide (g.state = .opened)]
    exact (hrun _).1
  have ho : (openings v gs).opened = (openings v hs).opened := by
    rw [openings, hranked, h.filter fun _ g => decide (g.state = .opened)]
    exact (hrun _).2
  intro x hx
  rw [openingPhase_eq, openingPhase_eq, ho]
  cases (openings v hs).opened
  · exact hg x hx
  · rw [if_pos rfl, if_pos rfl, tab_get, tab_get, hg x hx]

/-- An evaluation reads no gate outside its slot. -/
theorem evaluateSlot_agree : AgreeOn v.members (evaluateSlot v gs) (evaluateSlot v hs) :=
  openingPhase_agree (closingPhase_agree h)

end

end Sys2Proof.Machine
end

section
/-! SUPPORT. The gates at a boundary (R92, R99; log 3): the holds that its links' events place, then one evaluation of every slot
that is due, and O41. -/

namespace Sys2Proof.Machine
open Host

/-! ## The evaluations of a boundary -/

/-- Two states in which a slot's evaluation reads the same, besides the gates (R91, R92). -/
structure ViewAlike (s t : State) : Prop where
  live : t.live = s.live
  map : t.rg.map = s.rg.map
  held : ∀ m : Fin 16, t.heldSource (micSource m) = s.heldSource (micSource m)
  levels : ∀ m : Fin 16, t.audio.peak[micSource m] = s.audio.peak[micSource m] ∧ t.audio.noise[micSource m] = s.audio.noise[micSource m]

theorem meterView_congr {s t : State} (h : ViewAlike s t) (p : Fin 4) : t.meterView p = s.meterView p := by
  have hpart (m : Fin 16) : t.micPart m = s.micPart m := micPart_congr h.live h.map m
  have hmode (q : Fin 4) : t.mode q = s.mode q := by simp only [State.mode, h.live, h.map]
  have hpeak : (fun m => t.audio.peak[micSource m]) = fun m => s.audio.peak[micSource m] := funext fun m => (h.levels m).1
  have hnoise : (fun m => t.audio.noise[micSource m]) = fun m => s.audio.noise[micSource m] := funext fun m => (h.levels m).2
  have hchair : t.isChair = s.isChair := by
    funext m
    rw [State.isChair, State.isChair, h.live]
  have hlead (q : Fin 4) : t.lead q = s.lead q := by rw [State.lead, State.lead, h.live]
  have hcand (m : Fin 16) (peak noise : Nat) : t.candidateAt m peak noise = s.candidateAt m peak noise := by
    rw [State.candidateAt, State.candidateAt, hpart, hmode, h.held, hlead]
  have hmembers : t.members p = s.members p := List.filter_congr fun m _ => by rw [hpart]
  rw [State.meterView, State.meterView, hpeak, hnoise]
  simp only [State.gateView, hmembers, hcand, hchair, hlead]

/-- An evaluation of a slot moves gates and envelopes alone. -/
theorem gateEvaluation_frame (s : State) (p : Fin 4) :
    gateEvaluation s p = { s with gates := (gateEvaluation s p).gates, env := (gateEvaluation s p).env } := by
  unfold gateEvaluation
  split
  · simp only [evaluateOn, retarget]
  · rfl

/-- From `s` to `t` gates and envelopes alone moved. -/
def GatesOnly (s t : State) : Prop := t = { s with gates := t.gates, env := t.env }

theorem GatesOnly.view {s t : State} (h : GatesOnly s t) (p : Fin 4) :
    t.meterView p = s.meterView p ∧ t.evaluationDue p = s.evaluationDue p := by
  rw [GatesOnly] at h
  rw [h]
  exact ⟨meterView_congr ⟨rfl, rfl, fun _ => rfl, fun _ => ⟨rfl, rfl⟩⟩ p, rfl⟩

theorem gateEvaluation_gates (s : State) (p : Fin 4) : (gateEvaluation s p).gates =
    if s.evaluationDue p then evaluateSlot (s.meterView p) s.gates else s.gates := by
  unfold gateEvaluation
  split
  · rw [evaluateOn, retarget_gates]
  · rfl

theorem gateEvaluation_outside (s : State) {p : Fin 4} {m : Fin 16} (h : s.micPart m ≠ p) :
    (gateEvaluation s p).gates[m] = s.gates[m] := by
  rw [gateEvaluation_gates]
  split
  · exact evaluateSlot_outside fun hm => h (mem_members.1 hm)
  · rfl

theorem GatesOnly.trans {s t u : State} (h : GatesOnly s t) (k : GatesOnly t u) : GatesOnly s u := by
  rw [GatesOnly] at *
  rw [k, h]

/-- The slots' evaluations, each taken once, by the state before all of them. -/
theorem gateEvaluations_gate (s : State) (m : Fin 16) (l : List (Fin 4)) (hl : l.Nodup) (u : State) (hu : GatesOnly s u)
    (hsame : AgreeOn (s.members (s.micPart m)) u.gates s.gates) :
    (l.foldl gateEvaluation u).gates[m] =
      if s.micPart m ∈ l ∧ s.evaluationDue (s.micPart m) = true then (evaluateSlot (s.meterView (s.micPart m)) s.gates)[m]
      else s.gates[m] := by
  have hmem : m ∈ s.members (s.micPart m) := mem_members.2 rfl
  have hpart {w : State} (hw : GatesOnly s w) (x : Fin 16) : w.micPart x = s.micPart x :=
    micPart_congr (congrArg State.live hw) (congrArg (Regroup.map ∘ State.rg) hw) x
  have hkeep (l : List (Fin 4)) (hno : s.micPart m ∉ l) (w : State) (hw : GatesOnly s w) :
      (l.foldl gateEvaluation w).gates[m] = w.gates[m] := by
    induction l generalizing w with
    | nil => rfl
    | cons q l ih =>
      obtain ⟨hq, hl⟩ := not_or.1 fun h => hno (List.mem_cons.2 h)
      rw [List.foldl_cons, ih hl _ (hw.trans (gateEvaluation_frame w q)), gateEvaluation_outside]
      rwa [hpart hw]
  induction l generalizing u with
  | nil => exact (hsame m hmem).trans (if_neg fun h => List.not_mem_nil h.1).symm
  | cons q l ih =>
    obtain ⟨hql, hl⟩ := List.nodup_cons.1 hl
    have hnext := hu.trans (gateEvaluation_frame u q)
    obtain ⟨hview, hdue⟩ := hu.view q
    rw [List.foldl_cons]
    by_cases hq : s.micPart m = q
    · subst hq
      rw [hkeep l hql _ hnext, gateEvaluation_gates, hview, hdue]
      simp only [List.mem_cons_self, true_and]
      split
      · exact evaluateSlot_agree (v := s.meterView (s.micPart m)) hsame m hmem
      · exact hsame m hmem
    · have hagree : AgreeOn (s.members (s.micPart m)) (gateEvaluation u q).gates s.gates := fun x hx => by
        rw [gateEvaluation_outside, hsame x hx]
        rwa [hpart hu, mem_members.1 hx]
      rw [ih hl _ hnext hagree]
      simp only [List.mem_cons, hq, false_or]

/-- The gates that the decisions of a boundary leave (R92). -/
theorem boundaryDecisions_gate (s : State) (m : Fin 16) : (boundaryDecisions s).gates[m] =
    if s.evaluationDue (s.micPart m) = true then (evaluateSlot (s.meterView (s.micPart m)) s.gates)[m] else s.gates[m] := by
  have hfloor (u : State) (p : Fin 4) : (floorWork u p).gates = u.gates := by
    unfold floorWork
    split
    · exact setFloor_gates ..
    · rfl
  have hpieces (u : State) : (takePieces u).gates = u.gates := by
    rw [takePieces, slots_eq]
    simp only [State.withWorked, List.foldl_cons, List.foldl_nil, hfloor]
  have hall := gateEvaluations_gate s m slots (List.nodup_finRange 4) s rfl fun _ _ => rfl
  simp only [slots, List.mem_finRange, true_and] at hall
  rw [boundaryDecisions, hpieces]
  exact hall

/-! ## The holds that the links' events place (R78, R99, R140) -/

/-- From `s` to `t` no microphone lost its last hold, and those that took their first one had their gates closed (R99). -/
structure HoldsPlaced (s t : State) : Prop where
  held : ∀ m : Fin 16, s.heldSource (micSource m) = true → t.heldSource (micSource m) = true
  gates : ∀ m : Fin 16, t.gates[m] =
    if takesHold s t m = true ∧ (s.gates[m]).state ≠ .closed then { state := .closed, counter := 0 } else s.gates[m]

theorem takesHold_iff (s t : State) (m : Fin 16) :
    takesHold s t m = true ↔ s.heldSource (micSource m) = false ∧ t.heldSource (micSource m) = true := by
  rw [takesHold, Bool.and_eq_true, Bool.not_eq_true']

/-- Holds and gates that stand as they were. -/
theorem HoldsPlaced.of_still {s t : State} (hh : ∀ m : Fin 16, t.heldSource (micSource m) = s.heldSource (micSource m))
    (hg : t.gates = s.gates) : HoldsPlaced s t := by
  refine ⟨fun m h => (hh m).trans h, fun m => ?_⟩
  rw [if_neg, hg]
  rintro ⟨h, -⟩
  obtain ⟨h1, h2⟩ := (takesHold_iff ..).1 h
  exact Bool.false_ne_true (h1.symm.trans ((hh m).symm.trans h2))

theorem HoldsPlaced.refl (s : State) : HoldsPlaced s s := .of_still (fun _ => rfl) rfl

theorem HoldsPlaced.trans {s t u : State} (h : HoldsPlaced s t) (k : HoldsPlaced t u) : HoldsPlaced s u := by
  refine ⟨fun m hm => k.held m (h.held m hm), fun m => ?_⟩
  rw [k.gates, h.gates]
  simp only [takesHold_iff]
  have h1 := h.held m
  have h2 := k.held m
  cases hs : s.heldSource (micSource m) <;> cases ht : t.heldSource (micSource m) <;> cases hu : u.heldSource (micSource m) <;>
    simp_all [-Fin.getElem_fin]

/-- What a microphone's holds depend on: the records, the tables and its link's state (R70). -/
theorem heldSource_of_links {s t : State} (hm : t.mute = s.mute) (hl : t.live = s.live)
    (hk : ∀ i : Fin 16, (t.links[i]).state = (s.links[i]).state) (m : Fin 16) :
    t.heldSource (micSource m) = s.heldSource (micSource m) := by
  simp only [State.heldSource, State.holdSet, State.groupHeld, State.linkHeld, sourceMic_micSource, hm, hl, hk]

theorem setLink_placed {i : Fin 16} {l : LinkRec} {s : State} (h : l.state = (s.links[i]).state) :
    HoldsPlaced s (s.setLink i l) := by
  refine .of_still (heldSource_of_links rfl rfl fun j => ?_) rfl
  by_cases hj : j = i
  · rw [hj, setLink_link, h]
  · rw [State.setLink, put_other _ _ _ _ hj]

/-- A microphone whose link is not ACTIVE is held (R70). -/
theorem held_of_inactive {s : State} {m : Fin 16} (h : (s.links[m]).state ≠ .active) : s.heldSource (micSource m) = true := by
  have hlink : s.linkHeld (micSource m) = true := by
    simp only [State.linkHeld, sourceMic_micSource]
    exact decide_eq_true h
  simp only [State.heldSource, State.holdSet, HoldSet.any, hlink, Bool.or_true]

/-- The gates after a change of a link's state: those of microphones that take their first hold are closed (R99, R140). -/
theorem moveLink_gates (i : Fin 16) (l : LinkRec) (cause : LinkCause) (code : Option Byte) (f : MuteRec → MuteRec)
    (clears removes : Bool) (s : State) (m : Fin 16) : (moveLink i l cause code f clears removes s).gates[m] =
      if takesHold s (moveLink i l cause code f clears removes s) m = true ∧ (s.gates[m]).state ≠ .closed
      then { state := .closed, counter := 0 } else s.gates[m] := by
  have hheld : (moveLink i l cause code f clears removes s).heldSource (micSource m)
      = (linkMoved i l cause code f s).heldSource (micSource m) := heldSource_congr (moveLink_holdSet i l cause code f clears removes s) _
  have hgates : (moveLink i l cause code f clears removes s).gates = (closeHeld s (linkMoved i l cause code f s)).gates := by
    rw [moveLink_parts]
    cases removes <;> simp [linkSettled]
  have hbefore : (linkMoved i l cause code f s).gates = s.gates := by simp [linkMoved]
  rw [hgates, closeHeld_gate, hbefore]
  simp only [takesHold_iff, hheld, Gate.isOpen, decide_eq_true_iff, and_assoc, shutGate]

/-- A link's change to a state other than ACTIVE places holds (R70, R78). -/
theorem moveLink_placed {i : Fin 16} {l : LinkRec} (hl : l.state ≠ .active) (cause : LinkCause) (code : Option Byte)
    (f : MuteRec → MuteRec) (clears removes : Bool) (s : State) : HoldsPlaced s (moveLink i l cause code f clears removes s) := by
  refine ⟨fun m hm => ?_, moveLink_gates i l cause code f clears removes s⟩
  by_cases hmi : m = i
  · subst hmi
    exact held_of_inactive (by rwa [moveLink_links, put_same])
  · rw [heldSource_congr (moveLink_holdSet i l cause code f clears removes s), ← hm]
    have hlive : (linkMoved i l cause code f s).live = s.live := by simp [linkMoved]
    have hgroups : (linkMoved i l cause code f s).mute.groupMuted = s.mute.groupMuted := by
      simp [linkMoved, State.withRecs]
    simp only [State.heldSource, State.holdSet, State.groupHeld, State.linkHeld, sourceMic_micSource, linkMoved_rec, if_neg hmi,
      linkMoved_links, put_other _ _ _ _ hmi, hlive, hgroups]

theorem autoUp_placed (i : Fin 16) (s : State) : HoldsPlaced s (autoUpBoundary i s) := by
  simp only [autoUpBoundary]
  split_ifs
  · exact setLink_placed rfl
  · exact moveLink_placed LinkState.noConfusion ..
  · exact setLink_placed rfl
  · exact .refl s

theorem judge_placed (i : Fin 16) (s : State) : HoldsPlaced s (judgeFrame i s) := by
  simp only [judgeFrame]
  split_ifs
  · exact .refl s
  · exact setLink_placed rfl
  · exact setLink_placed rfl
  · exact (setLink_placed (l := (s.links[i]).countBad) rfl).trans (moveLink_placed LinkState.noConfusion ..)
  · exact setLink_placed rfl
  · exact .refl s

theorem enterFault_placed (cause : LinkCause) (code : Option Byte) (i : Fin 16) (s : State) : HoldsPlaced s (enterFault cause code i s) :=
  moveLink_placed LinkState.noConfusion ..

theorem post_placed (s : State) (ns : List Notice) : HoldsPlaced s (s.post ns) :=
  .of_still (heldSource_of_links rfl rfl fun _ => rfl) rfl

theorem doze_placed (i : Fin 16) (s : State) : HoldsPlaced s (dozeExpiry i s) := by
  unfold dozeExpiry
  split_ifs
  · exact (setLink_placed (l := { (s.links[i]).noHandshake with dozeRefused := true }) rfl).trans (post_placed ..)
  · exact .refl s

theorem detach_placed (i : Fin 16) (s : State) : HoldsPlaced s (detachExpiry i s) := by
  unfold detachExpiry
  split_ifs
  · exact enterFault_placed ..
  · exact .refl s

theorem attempt_placed (i : Fin 16) (s : State) : HoldsPlaced s (attemptExpiry i s) := by
  simp only [attemptExpiry, failAttempt]
  split_ifs
  · refine (setLink_placed ?_).trans (enterFault_placed ..)
    rfl
  · exact setLink_placed rfl
  · exact .refl s

theorem residency_placed (before : LinkRec) (i : Fin 16) (s : State) : HoldsPlaced s (residencyBoundary before i s) := by
  simp only [residencyBoundary]
  split_ifs
  · rw [enterDown_timed_eq]
    exact moveLink_placed LinkState.noConfusion ..
  · exact .refl s

/-- A link's events at a boundary place holds, and close the gate of its microphone where it takes its first (R99). -/
theorem linkBoundary_placed (s : State) (i : Fin 16) : HoldsPlaced s (linkBoundary s i) := by
  rw [linkBoundary, linkTimeouts_eq]
  have h1 : HoldsPlaced s (s.setLink i (s.links[i]).raiseTimers) := setLink_placed rfl
  generalize s.setLink i (s.links[i]).raiseTimers = u at h1 ⊢
  have h2 := h1.trans (autoUp_placed i u)
  generalize autoUpBoundary i u = u at h2 ⊢
  have h3 := h2.trans (judge_placed i u)
  generalize judgeFrame i u = u at h3 ⊢
  have h4 := h3.trans (doze_placed i u)
  generalize dozeExpiry i u = u at h4 ⊢
  have h5 := h4.trans (detach_placed i u)
  generalize detachExpiry i u = u at h5 ⊢
  exact (h5.trans (attempt_placed i u)).trans (residency_placed _ i _)

theorem linkBoundaries_placed (l : List (Fin 16)) (s : State) : HoldsPlaced s (l.foldl linkBoundary s) := by
  induction l generalizing s with
  | nil => exact .refl s
  | cons i l ih =>
    rw [List.foldl_cons]
    exact (linkBoundary_placed s i).trans (ih (linkBoundary s i))

/-! ## The gates of a boundary (R92, R99) -/

/-- The walls' samples leave the slots that the last switch changed (R102). -/
theorem boundarySampled_noEval (sense : Sense) (s : State) : (boundarySampled sense s).rg.noEval = s.rg.noEval := by
  have hcause (u : State) : (regroupCause true u).rg.noEval = u.rg.noEval := by
    obtain ⟨⟨-, -, -, -, -, -, -, hno⟩, -⟩ := caused_kept true u.rg.state (derivePending u)
    rw [regroupCause_eq]
    exact hno
  have hsample (u : State) (w : Fin 3) : (sampleWall sense u w).rg.noEval = u.rg.noEval := by
    simp only [sampleWall, senseChange]
    split_ifs
    · rfl
    · rfl
    · rfl
    · exact hcause _
  have general (l : List (Fin 3)) (u : State) : (l.foldl (sampleWall sense) u).rg.noEval = u.rg.noEval := by
    induction l generalizing u with
    | nil => rfl
    | cons w l ih => exact (ih _).trans (hsample u w)
  have hbegun := (boundaryBegun_spec sense s).2.1
  unfold boundarySampled
  rw [general, closeFrames_rg, handover_rg, (boundaryLinks_work sense s).1.rg, hbegun]

/-- The holds and gates when a boundary's evaluations begin. -/
theorem boundarySampled_placed (sense : Sense) (s : State) : HoldsPlaced s (boundarySampled sense s) := by
  obtain ⟨⟨-, -, -, hlinks, -⟩, -, hbegun, -⟩ := boundaryBegun_spec sense s
  have hbegin : HoldsPlaced s (boundaryBegun sense s) :=
    .of_still (heldSource_of_links hbegun.still.mute hbegun.live fun i => by rw [hlinks]) hbegun.still.gates
  have hevents : HoldsPlaced (boundaryBegun sense s) (boundaryLinks sense s) := by
    unfold boundaryLinks
    exact linkBoundaries_placed ..
  have kept := boundarySampled_kept sense s
  have hstill := ((handover_still (boundaryLinks sense s)).trans (closeFrames_still _)).trans kept.holds.still
  have hlive : (closeFrames (handover (boundaryLinks sense s))).live = (boundaryLinks sense s).live := by
    simp [closeFrames, handover]
  refine (hbegin.trans hevents).trans (.of_still (heldSource_of_links hstill.mute (kept.holds.live.trans hlive) fun i => ?_) hstill.gates)
  rw [kept.plane.links, closeFrames_link, handover_links]

/-- On a legal map a microphone's partition is in use (R20). -/
theorem micPart_isLead {s : State} (h : LegalMap s.rg.map) (m : Fin 16) : isLead s.rg.map (s.micPart m) = true := by
  obtain ⟨eff, heff⟩ := h
  refine decide_eq_true ?_
  rw [State.micPart, State.partOf, heff]
  exact ((mapJoinsOpenWalls.2.1 eff _).1 :)

section
variable {sense : Sense} {early : Bool} {s t : State} (ht : t = settleLine (frameBoundary sense early s)) (hno : NoSwitchDue s)
include ht hno

/-- Where no switch is due, what an evaluation reads at a boundary is what the boundary leaves. -/
theorem frameBoundary_view : ViewAlike (boundarySampled sense s) t ∧ (t.live = s.live ∧ t.rg.map = s.rg.map) := by
  obtain ⟨hk, hlinks⟩ := frameBoundary_holds ht hno
  obtain ⟨-, -, -, slive, smap, -⟩ := boundarySampled_spec sense s
  obtain ⟨dmute, dlive, drg, -⟩ := boundaryDecisions_kept (boundarySampled sense s)
  obtain ⟨k1, k2⟩ := boundaryDecided_plane sense s
  obtain ⟨haudio, -⟩ := frameBoundary_plane ht
  have hdecided : (boundaryDecided sense s).mute = (boundarySampled sense s).mute
      ∧ (boundaryDecided sense s).live = (boundarySampled sense s).live
      ∧ (boundaryDecided sense s).rg = (boundarySampled sense s).rg := by
    unfold boundaryDecided
    exact ⟨(takeSnapshot_mute _).trans dmute, (takeSnapshot_live _).trans dlive, (takeSnapshot_rg _).trans drg⟩
  obtain ⟨emute, elive, erg⟩ := hdecided
  have hlive : t.live = (boundarySampled sense s).live := hk.live.trans elive
  have hmap : t.rg.map = (boundarySampled sense s).rg.map := hk.map.trans (congrArg Regroup.map erg)
  refine ⟨⟨hlive, hmap, heldSource_of_links (hk.still.mute.trans emute) hlive fun i => ?_, fun m => ?_⟩,
    hlive.trans slive, hmap.trans smap⟩
  · rw [hlinks, k2.links]
  · have hsame : t.audio = (boundarySampled sense s).audio := haudio.trans (k1.audio.trans (closeFrames_audio _)).symm
    rw [hsame]
    exact ⟨rfl, rfl⟩

/-- The gates that a boundary leaves: those of the holds its links' events place, evaluated in every slot that is due (R92, R99). -/
theorem frameBoundary_gates (hlegal : MapsLegal s) (m : Fin 16) :
    let p := s.micPart m
    let gs : Gates := tab fun x =>
      if takesHold s t x = true ∧ (s.gates[x]).state ≠ .closed then { state := .closed, counter := 0 } else s.gates[x]
    t.gates[m] = if s.mode p = .gated ∧ s.rg.noEval[p] = false ∧ s.ahead.counts[p] = none
      then (evaluateSlot (t.meterView p) gs)[m] else gs[m] := by
  intro p gs
  obtain ⟨hk, -⟩ := frameBoundary_holds ht hno
  obtain ⟨hview, -⟩ := frameBoundary_view ht hno
  obtain ⟨-, -, sahead, slive, smap, -⟩ := boundarySampled_spec sense s
  have snoEval := boundarySampled_noEval sense s
  have hplaced := boundarySampled_placed sense s
  have hgates : t.gates = (boundaryDecisions (boundarySampled sense s)).gates := hk.still.gates.trans (boundaryDecided_units sense s).1
  rw [hgates, boundaryDecisions_gate]
  generalize boundarySampled sense s = u at hview sahead slive smap snoEval hplaced
  have htakes (x : Fin 16) : takesHold s u x = takesHold s t x := by rw [takesHold, takesHold, hview.held]
  have hgs : u.gates = gs := by
    have hget (x : Fin 16) : u.gates[x] = gs[x] := by rw [hplaced.gates, tab_get, htakes]
    exact Vector.ext fun k hk => hget ⟨k, hk⟩
  have hpart : u.micPart m = p := micPart_congr slive smap m
  have hmode : u.mode p = s.mode p := mode_congr slive smap p
  have hdue : u.evaluationDue p = true ↔ s.mode p = .gated ∧ s.rg.noEval[p] = false ∧ s.ahead.counts[p] = none := by
    have hlead : isLead s.rg.map p = true := micPart_isLead hlegal.1 m
    rw [evaluationDue_iff, State.slotIn, smap, hlead, hmode, snoEval, sahead, Bool.true_and, decide_eq_true_iff]
  rw [hpart, hgs, ← meterView_congr hview p]
  simp only [hdue]

end

/-- Settles O41: the open limit by `countOpen_evaluateSlot`, the members by `evaluateSlot_eq`, the boundary by `frameBoundary_gates`. -/
theorem evaluationKeepsOpenLimit : Obligations.EvaluationKeepsOpenLimit := by
  refine ⟨fun v gs hn _ => ⟨countOpen_evaluateSlot hn gs, fun m hm => evaluateSlot_outside hm⟩,
    fun v gs hs hlim halone m hm => evaluateSlot_eq halone hs hlim hm, fun sense early s t hh ht => ?_⟩
  have ht' := eq_of_running (f := frameBoundary sense early) hh ht
  exact ⟨congrArg (fun u : State => u.ahead.counts) (frameBoundary_end ht').1, fun hno hlegal m => frameBoundary_gates ht' hno hlegal m⟩

end Sys2Proof.Machine
end

section
/-! SUPPORT. The ports' records under notices: what each unit's work, an application and a boundary make of a port's record
(R152, R153, R159). -/

namespace Sys2Proof.Machine
open Host

/-! ## Notices in a queue -/

/-- A notice posted stands in the queue, unless the queue is in overflow. -/
theorem mem_queue_postAll (r : PortRec) {n : Notice} {ns : List Notice} (h : n ∈ ns) :
    n ∈ (r.postAll ns).queue ∨ (r.postAll ns).overflow = true := by
  cases ho : (r.postAll ns).overflow
  · obtain ⟨-, hq⟩ := postAll_room ho
    exact .inl (hq ▸ List.mem_append_right _ h)
  · exact .inr rfl

/-- Notices posted later remove none. -/
theorem postAll_keeps (r : PortRec) {n : Notice} (ns : List Notice) (h : n ∈ r.queue ∨ r.overflow = true) :
    n ∈ (r.postAll ns).queue ∨ (r.postAll ns).overflow = true := by
  obtain ⟨hq, ho⟩ := postAll_spec r ns
  rw [hq, ho]
  exact h.imp (List.mem_append_left _) fun h => by rw [h, Bool.true_or]

/-- The notice posted last stands last, unless the queue is in overflow. -/
theorem getLast_queue_postAll (r : PortRec) (n : Notice) (ns : List Notice) :
    (r.postAll (ns ++ [n])).queue.getLast? = some n ∨ (r.postAll (ns ++ [n])).overflow = true := by
  cases ho : (r.postAll (ns ++ [n])).overflow
  · obtain ⟨-, hq⟩ := postAll_room ho
    exact .inl (by rw [hq, ← List.append_assoc, List.getLast?_concat])
  · exact .inr rfl

/-- Two records of a port that differ in the open batch, the committed list and the queue alone. -/
theorem portRec_eq_with {r r' : PortRec} (hp : r'.profile = r.profile) (hc : r'.cursor = r.cursor) (hk : r'.keep = r.keep) :
    r' = { r with batch := r'.batch, committed := r'.committed, queue := r'.queue, overflow := r'.overflow } := by
  rw [← hp, ← hc, ← hk]

/-- Notices move the queue and the overflow flag alone. -/
theorem postAll_frame (r : PortRec) (ns : List Notice) :
    r.postAll ns = { r with queue := (r.postAll ns).queue, overflow := (r.postAll ns).overflow } := by
  have h := portRec_eq_with (postAll_profile r ns) (postAll_cursor r ns) (postAll_keep r ns)
  rwa [postAll_batch, postAll_committed] at h

/-- Notices and the committed list of a port do not meet. -/
theorem postAll_withCommitted (r : PortRec) (c : List Batch) (ns : List Notice) :
    ({ r with committed := c } : PortRec).postAll ns = { r.postAll ns with committed := c } := by
  induction ns generalizing r with
  | nil => rfl
  | cons n ns ih =>
    have hpost : ({ r with committed := c } : PortRec).post n = { r.post n with committed := c } := by
      unfold PortRec.post
      split <;> rfl
    exact (congrArg (PortRec.postAll · ns) hpost).trans (ih (r.post n))

/-- From `s` to `t` each port took notices, and nothing else of its record moved. -/
def Heard (s t : State) : Prop := ∀ p : Port, ∃ ns, t.port p = (s.port p).postAll ns

theorem Heard.of_ports {s t : State} (h : ∀ p, t.port p = s.port p) : Heard s t := fun p => ⟨[], h p⟩
theorem Heard.refl (s : State) : Heard s s := .of_ports fun _ => rfl
theorem Heard.post (s : State) (ns : List Notice) : Heard s (s.post ns) := fun p => ⟨ns, post_port s ns p⟩

theorem Heard.trans {s t u : State} (h : Heard s t) (k : Heard t u) : Heard s u := fun p => by
  obtain ⟨ns, hn⟩ := h p
  obtain ⟨ms, hm⟩ := k p
  exact ⟨ns ++ ms, by rw [hm, hn, postAll_append]⟩

theorem Heard.foldl {α : Type} {f : State → α → State} (h : ∀ s x, Heard s (f s x)) (l : List α) (s : State) :
    Heard s (l.foldl f s) := by
  induction l generalizing s with
  | nil => exact .refl s
  | cons x l ih => exact (h s x).trans (ih (f s x))

theorem Heard.ite {s t u : State} {c : Prop} [Decidable c] (h : Heard s t) (k : Heard s u) :
    Heard s (if c then t else u) := by split <;> assumption

theorem Heard.committed {s t : State} (h : Heard s t) (p : Port) : (t.port p).committed = (s.port p).committed := by
  obtain ⟨ns, hp⟩ := h p
  rw [hp, postAll_committed]

/-! ## What the units' work posts -/

theorem settleHolds_heard (before s : State) : Heard s (settleHolds before s) := fun p =>
  ⟨_, by rw [settleHolds, retarget_port, followHolds, clearAsks_port, post_port, closeHeld_port, postAll_append]⟩

theorem linkBoundary_heard (s : State) (i : Fin 16) : Heard s (linkBoundary s i) :=
  linkBoundary_induction .refl .trans (fun _ _ _ => .of_ports (setLink_port _ _ _)) (fun _ _ _ => .post _ _)
    (fun _ _ _ _ _ _ _ _ p => ⟨_, moveLink_port _ _ _ _ _ _ _ _ p⟩) s i

theorem sampleWall_heard (sense : Sense) (s : State) (w : Fin 3) : Heard s (sampleWall sense s w) := by
  have hwalls (u : State) (v : Vector WallRec 3) : Heard u { u with walls := v } := .of_ports fun p => by cases p <;> rfl
  have hcause (u : State) : Heard u (regroupCause true u) := .of_ports fun p => by cases p <;> simp [State.port]
  simp only [sampleWall, senseChange]
  split_ifs
  · exact hwalls _ _
  · exact hwalls _ _
  · exact (hwalls s _).trans (.post _ _)
  · exact ((hwalls s _).trans (.post _ _)).trans (hcause _)

theorem takePieces_heard (s : State) : Heard s (takePieces s) := by
  have hfloor (u : State) (p : Fin 4) : Heard u (floorWork u p) := .ite (fun q => ⟨_, setFloor_port p _ u q⟩) (.refl u)
  unfold takePieces
  exact (Heard.foldl hfloor slots s).trans (.of_ports fun q => withWorked_port ..)

theorem boundaryDecisions_heard (s : State) : Heard s (boundaryDecisions s) :=
  (Heard.foldl (fun u p => .of_ports (gateEvaluation_port u p)) slots s).trans (takePieces_heard _)

theorem floorsAfterWrite_heard (before : State) (test : Fin 4 → Bool) (s : State) : Heard s (floorsAfterWrite before test s) := by
  unfold floorsAfterWrite
  refine Heard.foldl (fun t p => .ite ?_ (.refl t)) slots s
  exact Heard.trans (.of_ports fun q => by cases q <;> rfl) (.post _ _)

theorem placeLive_heard (img : Image) (s : State) : Heard s (placeLive img s) := by
  have hlive : Heard s { s with live := img } := .of_ports fun q => by cases q <;> rfl
  have hgates (u : State) : Heard u (gatesAfterWrite s u) := .of_ports fun q => by cases q <;> rfl
  exact ((hlive.trans (hgates _)).trans (floorsAfterWrite_heard _ _ _)).trans (settleHolds_heard _ _)

theorem regroupDone_heard (s : State) : Heard s (regroupDone s) := by
  unfold regroupDone
  exact .ite (Heard.trans (.of_ports fun q => by cases q <;> rfl) (.post _ _)) (.refl s)

/-- A switch that finds no batch committed posts notices alone. -/
theorem regroupSwitch_heard {s : State} (hc : ∀ p, (s.port p).committed = []) : Heard s (regroupSwitch s) := by
  by_cases h : SwitchStands s.rg
  · have hlevel : Heard s (levelPieces s) := .ite (takePieces_heard s) (.refl s)
    have hnone (p : Port) : ((levelPieces s).port p).committed = [] := (hlevel.committed p).trans (hc p)
    rw [regroupSwitch_eq h, applyCommitted_of_nil (hnone .a), applyCommitted_of_nil (hnone .b)]
    exact hlevel.trans fun p => ⟨_, (switchNow_follow _).1 p⟩
  · rw [regroupSwitch_of_not h]
    exact .refl s

/-! ## Committed batches (R152) -/

/-- The BATCH APPLIED notices due for a list of batches to the port that closed them (R152). -/
def commitNotices (l : List Batch) : List Notice :=
  (l.filter (·.byCommit)).map fun b => .batchApplied b.entries.length false

/-- The BATCH APPLIED notice comes after all that the application posts (log 18). -/
theorem applyBatch_port (p : Port) (b : Batch) (s : State) (q : Port) : ∃ ns,
    (applyBatch p b s).port q = (s.port q).postAll (ns ++ if p = q then commitNotices [b] else []) := by
  obtain ⟨ns, hns⟩ := placeLive_heard (s.live.writeAll b.entries) s q
  refine ⟨ns, ?_⟩
  rw [applyBatch, ← postAll_append, ← hns]
  cases hb : b.byCommit
  · simp [commitNotices, hb, PortRec.postAll]
  · simp only [if_true, postTo_port, commitNotices, List.filter_cons, List.filter_nil, hb, List.map_cons, List.map_nil]

/-- Batches applied one after another post each its BATCH APPLIED notice, and notices alone. -/
theorem applyBatches_port (p : Port) (l : List Batch) (s : State) (q : Port) : ∃ ns,
    (l.foldl (fun t b => applyBatch p b t) s).port q = (s.port q).postAll ns ∧ (p = q → commitNotices l ⊆ ns) := by
  induction l generalizing s with
  | nil => exact ⟨[], rfl, fun _ => List.Subset.refl _⟩
  | cons b l ih =>
    obtain ⟨ns, hn⟩ := applyBatch_port p b s q
    obtain ⟨ms, hm, hsub⟩ := ih (applyBatch p b s)
    refine ⟨(ns ++ if p = q then commitNotices [b] else []) ++ ms, by rw [List.foldl_cons, hm, hn, postAll_append], fun hpq => ?_⟩
    have hcons : commitNotices (b :: l) = commitNotices [b] ++ commitNotices l := by
      rw [commitNotices, ← List.singleton_append, List.filter_append, List.map_append]
      rfl
    rw [hcons, if_pos hpq]
    exact List.append_subset.2 ⟨fun n hn => by simp [hn], fun n hn => List.mem_append_right _ (hsub hpq hn)⟩

/-- A port's record after an application: the list applied is empty, and notices were taken, those of its own batches with them. -/
theorem applyCommitted_port (p : Port) (s : State) (q : Port) : ∃ ns,
    (applyCommitted p s).port q
      = { (s.port q).postAll ns with committed := if q = p then [] else (s.port q).committed }
    ∧ (p = q → commitNotices (s.port p).committed ⊆ ns) := by
  obtain ⟨ns, hn, hsub⟩ := applyBatches_port p (s.port p).committed (s.setPort p { s.port p with committed := [] }) q
  refine ⟨ns, ?_, hsub⟩
  rw [applyCommitted, hn]
  by_cases hq : q = p
  · subst hq
    rw [setPort_port, if_pos rfl, postAll_withCommitted]
  · rw [setPort_other s p q _ hq, if_neg hq, ← postAll_committed (s.port q) ns]

/-! ## Open batches (R153) -/

/-- The record of a port whose open batch has come a boundary further (R153). -/
def PortRec.idled (r : PortRec) : PortRec :=
  match r.batch with
  | some ob =>
    if 1999 ≤ ob.idle then { r with batch := none }.post (.batchAbandoned ob.entries.length)
    else { r with batch := some { ob with idle := ob.idle + 1 } }
  | none => r

theorem idled_none {r : PortRec} (h : r.batch = none) : r.idled = r := by
  rw [PortRec.idled, h]

theorem idled_counts {r : PortRec} {ob : OpenBatch} (h : r.batch = some ob) (hi : ob.idle < 1999) :
    r.idled = { r with batch := some { ob with idle := ob.idle + 1 } } := by
  rw [PortRec.idled, h]
  exact if_neg (by omega)

theorem idled_expires {r : PortRec} {ob : OpenBatch} (h : r.batch = some ob) (hi : 1999 ≤ ob.idle) :
    r.idled = { r with batch := none }.post (.batchAbandoned ob.entries.length) := by
  rw [PortRec.idled, h]
  exact if_pos hi

theorem idled_keeps (r : PortRec) : r.idled.profile = r.profile ∧ r.idled.cursor = r.cursor ∧ r.idled.keep = r.keep := by
  unfold PortRec.idled
  split
  · split
    · exact ⟨portPost_profile .., portPost_cursor .., portPost_keep ..⟩
    · exact ⟨rfl, rfl, rfl⟩
  · exact ⟨rfl, rfl, rfl⟩

theorem abandonBatch_port (p : Port) (ob : OpenBatch) (s : State) (q : Port) : (abandonBatch p ob s).port q =
    if q = p then { s.port p with batch := none }.post (.batchAbandoned ob.entries.length) else s.port q := by
  by_cases h : q = p
  · subst h
    rw [abandonBatch, State.postTo, setPort_port, setPort_port, if_pos rfl]
  · rw [abandonBatch, State.postTo, setPort_other _ _ _ _ h, setPort_other _ _ _ _ h, if_neg h]

theorem idleBoundary_port (p : Port) (s : State) (q : Port) :
    (idleBoundary p s).port q = if q = p then (s.port p).idled else s.port q := by
  have htop (ob : OpenBatch) : Config.idleTop ≤ ob.idle + 1 ↔ 1999 ≤ ob.idle := by
    show 2000 ≤ ob.idle + 1 ↔ _
    omega
  cases hb : (s.port p).batch with
  | none =>
    have hstays : idleBoundary p s = s := by simp only [idleBoundary, hb]
    rw [hstays, idled_none hb]
    split
    · next h => rw [h]
    · rfl
  | some ob =>
    simp only [idleBoundary, hb, htop]
    split
    · next hi => rw [abandonBatch_port, idled_expires hb hi]
    · next hi =>
      rw [idled_counts hb (by omega)]
      by_cases h : q = p
      · subst h
        rw [setPort_port, if_pos rfl]
      · rw [setPort_other _ _ _ _ h, if_neg h]

end Sys2Proof.Machine
end

section
/-! SUPPORT. O54: an application's own work, the boundary's work on the ports' records, and the settling theorem (R49, R57, R101,
R152, R153). -/

namespace Sys2Proof.Machine
open Host

/-! ## What an application moves -/

/-- From `s` to `t` nothing moved but the live tables, the gates and counts, the floors, the mute unit, the envelopes and the
ports. -/
def AppliesOnly (s t : State) : Prop := ∃ live gates ahead floors mute env a b,
  t = { s with live := live, gates := gates, ahead := ahead, floors := floors, mute := mute, env := env, portA := a, portB := b }

theorem AppliesOnly.refl (s : State) : AppliesOnly s s := ⟨_, _, _, _, _, _, _, _, rfl⟩

theorem AppliesOnly.trans {s t u : State} (h : AppliesOnly s t) (k : AppliesOnly t u) : AppliesOnly s u := by
  obtain ⟨_, _, _, _, _, _, _, _, rfl⟩ := h
  obtain ⟨_, _, _, _, _, _, _, _, rfl⟩ := k
  exact ⟨_, _, _, _, _, _, _, _, rfl⟩

theorem setPort_appliesOnly (s : State) (p : Port) (r : PortRec) : AppliesOnly s (s.setPort p r) := by
  cases p
  · exact ⟨_, _, _, _, _, _, r, _, rfl⟩
  · exact ⟨_, _, _, _, _, _, _, r, rfl⟩

theorem floorsAfterWrite_frame (before : State) (test : Fin 4 → Bool) (s : State) :
    ∃ f a b, floorsAfterWrite before test s = { s with floors := f, portA := a, portB := b } := by
  have general (l : List (Fin 4)) (g : State → Fin 4 → State)
      (h : ∀ t p, ∃ f a b, g t p = { t with floors := f, portA := a, portB := b }) (t : State) :
      ∃ f a b, l.foldl g t = { t with floors := f, portA := a, portB := b } := by
    induction l generalizing t with
    | nil => exact ⟨_, _, _, rfl⟩
    | cons p l ih =>
      obtain ⟨_, _, _, hstep⟩ := h t p
      obtain ⟨f, a, b, hrest⟩ := ih (g t p)
      exact ⟨f, a, b, by rw [List.foldl_cons, hrest, hstep]⟩
  refine general slots _ (fun t p => ?_) s
  split
  · exact ⟨_, _, _, rfl⟩
  · exact ⟨_, _, _, rfl⟩

theorem placeLive_appliesOnly (img : Image) (s : State) : AppliesOnly s (placeLive img s) := by
  have hgates : AppliesOnly s (gatesAfterWrite s { s with live := img }) := ⟨_, _, _, _, _, _, _, _, rfl⟩
  have hfloors (u : State) : AppliesOnly u (floorsAfterWrite s (isLead s.rg.map) u) := by
    obtain ⟨_, _, _, h⟩ := floorsAfterWrite_frame s (isLead s.rg.map) u
    exact ⟨_, _, _, _, _, _, _, _, h⟩
  have hholds (u : State) : AppliesOnly u (settleHolds s u) := ⟨_, _, _, _, _, _, _, _, settleHolds_frame s u⟩
  exact (hgates.trans (hfloors _)).trans (hholds _)

theorem applyBatch_appliesOnly (p : Port) (b : Batch) (s : State) : AppliesOnly s (applyBatch p b s) := by
  rw [applyBatch]
  split
  · exact (placeLive_appliesOnly _ s).trans (setPort_appliesOnly ..)
  · exact placeLive_appliesOnly _ s

theorem applyCommitted_appliesOnly (p : Port) (s : State) : AppliesOnly s (applyCommitted p s) := by
  have general (l : List Batch) (t : State) : AppliesOnly t (l.foldl (fun t b => applyBatch p b t) t) := by
    induction l generalizing t with
    | nil => exact .refl t
    | cons b l ih => exact (applyBatch_appliesOnly p b t).trans (ih _)
  exact (setPort_appliesOnly s p _).trans (general _ _)

/-- Every application ends in targets derived again (R57, R59). -/
theorem applyBatch_derived (p : Port) (b : Batch) (s : State) : TargetsDerived (applyBatch p b s) := by
  have hplaced : TargetsDerived (placeLive (s.live.writeAll b.entries) s) := (settleHolds_spec _ _).1
  rw [applyBatch]
  split
  · exact targetsDerived_congr (by simp) (by simp) (by simp) (by simp) (by simp) (by simp) (by simp) hplaced
  · exact hplaced

theorem applyCommitted_derived (p : Port) {s : State} (h : TargetsDerived s) : TargetsDerived (applyCommitted p s) := by
  have general (l : List Batch) (t : State) (ht : TargetsDerived t) :
      TargetsDerived (l.foldl (fun t b => applyBatch p b t) t) := by
    induction l generalizing t with
    | nil => exact ht
    | cons b l ih => exact ih _ (applyBatch_derived p b t)
  exact general _ _ (targetsDerived_congr (by simp) (by simp) (by simp) (by simp) (by simp) (by simp) (by simp) h)

/-! ## A mode change (R101) -/

/-- Where a partition's mode changes with the tables, its gates are closed; its count of an evaluation taken ahead is 0. -/
theorem placeLive_modes (img : Image) (s : State) :
    (∀ m : Fin 16, s.mode ((placeLive img s).micPart m) ≠ (placeLive img s).mode ((placeLive img s).micPart m) →
      (placeLive img s).gates[m] = shutGate)
    ∧ ∀ q : Fin 4, (placeLive img s).ahead.counts[q] =
        if s.mode q = (placeLive img s).mode q then s.ahead.counts[q] else (s.ahead.counts[q]).map fun _ => 0 := by
  have hrg := placeLive_rg img s
  obtain ⟨hlive, -⟩ := placeLive_live img s
  have hmode (q : Fin 4) : (placeLive img s).mode q = ({ s with live := img } : State).mode q :=
    mode_congr hlive (by rw [hrg]) q
  have hpart (m : Fin 16) : (placeLive img s).micPart m = ({ s with live := img } : State).micPart m :=
    micPart_congr hlive (by rw [hrg]) m
  obtain ⟨f, a, b, hfloors⟩ := floorsAfterWrite_frame s (isLead s.rg.map) (gatesAfterWrite s { s with live := img })
  have hplace : placeLive img s = settleHolds s { gatesAfterWrite s { s with live := img } with
      floors := f, portA := a, portB := b } := congrArg (settleHolds s) hfloors
  refine ⟨fun m hm => ?_, fun q => ?_⟩
  · rw [hpart, hmode] at hm
    obtain ⟨-, -, -, -, -, hgate⟩ := settleHolds_spec s { gatesAfterWrite s { s with live := img } with
      floors := f, portA := a, portB := b }
    have hshut : (gatesAfterWrite s { s with live := img }).gates[m] = shutGate := (tab_get ..).trans (if_pos hm)
    rw [hplace, hgate]
    split
    · rfl
    · exact hshut
  · rw [hmode, hplace, settleHolds_ahead]
    refine (tab_get ..).trans ?_
    by_cases h : s.mode q = ({ s with live := img } : State).mode q
    · rw [if_neg (not_not.2 h), if_pos h]
    · rw [if_pos h, if_neg h]

theorem applyBatch_modes (p : Port) (b : Batch) (s : State) :
    (∀ m : Fin 16, s.mode ((applyBatch p b s).micPart m) ≠ (applyBatch p b s).mode ((applyBatch p b s).micPart m) →
      (applyBatch p b s).gates[m] = shutGate)
    ∧ ∀ q : Fin 4, (applyBatch p b s).ahead.counts[q] =
        if s.mode q = (applyBatch p b s).mode q then s.ahead.counts[q] else (s.ahead.counts[q]).map fun _ => 0 := by
  have placed := placeLive_modes (s.live.writeAll b.entries) s
  rw [applyBatch]
  split
  · simp only [mode_congr (postTo_live ..) (congrArg Regroup.map (postTo_rg ..)),
      micPart_congr (postTo_live ..) (congrArg Regroup.map (postTo_rg ..)), postTo_gates, postTo_ahead]
    exact placed
  · exact placed

theorem applyCommitted_single {p : Port} {b : Batch} {s : State} (h : (s.port p).committed = [b]) :
    applyCommitted p s = applyBatch p b (s.setPort p { s.port p with committed := [] }) := by
  simp only [applyCommitted, h, List.foldl_cons, List.foldl_nil]

/-! ## The ports' records at a boundary (log 3) -/

theorem boundaryDecided_heard (sense : Sense) (s : State) : Heard s (boundaryDecided sense s) := by
  have hbegun : Heard s (boundaryBegun sense s) := by
    unfold boundaryBegun
    exact .of_ports fun p => by cases p <;> rfl
  have hlinks : Heard s (boundaryLinks sense s) := by
    unfold boundaryLinks
    exact hbegun.trans (.foldl linkBoundary_heard mics _)
  have hsampled : Heard s (boundarySampled sense s) := by
    unfold boundarySampled
    have hframes (u : State) : Heard u (closeFrames (handover u)) := fun p =>
      ⟨(judgeSync u.audio).2.2, by rw [closeFrames_port, handover_port]⟩
    exact (hlinks.trans (hframes _)).trans (.foldl (sampleWall_heard sense) _ _)
  unfold boundaryDecided
  exact (hsampled.trans (boundaryDecisions_heard _)).trans (.of_ports fun p => takeSnapshot_port ..)

theorem boundaryIdled_port (sense : Sense) (early : Bool) (s : State) (p : Port) :
    ∃ ns, (boundaryIdled sense early s).port p = ((s.port p).postAll ns).idled := by
  obtain ⟨ns, hns⟩ := boundaryDecided_heard sense s p
  refine ⟨ns, ?_⟩
  unfold boundaryIdled
  rw [← hns]
  cases p <;> simp only [idleBoundary_port, startDownstream_port, reduceCtorEq, if_true, if_false]

/-- Both committed lists applied, Port A's first: each port's list is empty, and its own BATCH APPLIED notices are among those
posted (R152). -/
theorem applyBoth_port (s : State) (p : Port) : ∃ ns,
    (applyCommitted .b (applyCommitted .a s)).port p = { (s.port p).postAll ns with committed := [] }
    ∧ commitNotices (s.port p).committed ⊆ ns := by
  obtain ⟨ns, hn, hnsub⟩ := applyCommitted_port .a s p
  obtain ⟨ms, hm, hmsub⟩ := applyCommitted_port .b (applyCommitted .a s) p
  refine ⟨ns ++ ms, ?_, ?_⟩
  · rw [hm, hn, postAll_withCommitted, postAll_append]
    cases p <;> rfl
  · cases p with
    | a => exact fun n h => List.mem_append_left _ (hnsub rfl h)
    | b =>
      have hcom : ((applyCommitted .a s).port .b).committed = (s.port .b).committed := by rw [hn]; rfl
      rw [hcom] at hmsub
      exact fun n h => List.mem_append_right _ (hmsub rfl h)

/-- A port's record at the switch test of a boundary. -/
theorem boundaryApplied_port (sense : Sense) (early : Bool) (s : State) (p : Port) : ∃ ns ms,
    (boundaryApplied sense early s).port p = { ((s.port p).postAll ns).idled.postAll ms with committed := [] }
    ∧ commitNotices (s.port p).committed ⊆ ms := by
  obtain ⟨ns, hns⟩ := boundaryIdled_port sense early s p
  obtain ⟨-, -, -, hcom⟩ := boundaryIdled_spec sense early s
  obtain ⟨ms, hms, hsub⟩ := applyBoth_port (boundaryIdled sense early s) p
  have hread (u : State) : (readBusStep u).port p = u.port p := by cases p <;> rfl
  refine ⟨ns, ms, ?_, hcom p ▸ hsub⟩
  unfold boundaryApplied
  rw [hread, hms, hns]

theorem boundaryTested_heard (sense : Sense) (early : Bool) (s : State) :
    Heard (boundaryApplied sense early s) (boundaryTested sense early s) := by
  obtain ⟨-, -, -, -, hnone, -⟩ := boundaryApplied_spec sense early s
  unfold boundaryTested
  exact (regroupSwitch_heard hnone).trans (regroupDone_heard _)

section
variable {sense : Sense} {early : Bool} {s t : State} (ht : t = settleLine (frameBoundary sense early s))
include ht

/-- A port's record after a boundary: notices taken, its open batch a boundary further, its committed list applied, with the
BATCH APPLIED notices of that list among the later ones. -/
theorem frameBoundary_port (p : Port) : ∃ ns ms,
    t.port p = { ((s.port p).postAll ns).idled.postAll ms with committed := [] }
    ∧ commitNotices (s.port p).committed ⊆ ms := by
  obtain ⟨ns, ms, happlied, hsub⟩ := boundaryApplied_port sense early s p
  obtain ⟨ks, htested⟩ := boundaryTested_heard sense early s p
  obtain ⟨-, hport⟩ := frameBoundary_end ht
  refine ⟨ns, ms ++ (ks ++ capturesPosted (boundaryTested sense early s)), ?_, fun n h => List.mem_append_left _ (hsub h)⟩
  rw [hport, htested, happlied, postAll_append, postAll_withCommitted, postAll_append]

/-- Where no switch can be due, a boundary writes the committed batches alone, Port A's first. -/
theorem frameBoundary_live (h : SwitchTested s) :
    t.live = s.live.writeAll ((s.portA.committed ++ s.portB.committed).flatMap (·.entries)) := by
  obtain ⟨-, hlive, -⟩ := frameBoundary_fields ht
  obtain ⟨-, -, -, happlied, -⟩ := boundaryApplied_spec sense early s
  have hno : ¬SwitchStands (wallsSampled sense s).rg := by
    have hrg := (boundaryDecided_spec sense s).1.rg
    have htested := boundaryDecided_tested sense h
    rw [SwitchTested, hrg] at htested
    rintro ⟨hfading, hnot, -⟩
    rw [htested hfading] at hnot
    exact Bool.noConfusion hnot
  rw [hlive, ← happlied]
  by_cases he : EndStands (wallsSampled sense s).rg
  · rw [boundaryTested_end early he, post_live]
  · rw [boundaryTested_neither early hno he]

end

/-- What a boundary makes of a port's record. -/
theorem idled_record {r r' : PortRec} {ns ms : List Notice}
    (h : r' = { (r.postAll ns).idled.postAll ms with committed := [] }) :
    r' = { r with batch := r'.batch, committed := [], queue := r'.queue, overflow := r'.overflow }
    ∧ (r.batch = none → r'.batch = none)
    ∧ ∀ ob, r.batch = some ob →
        (ob.idle < 1999 → r'.batch = some { ob with idle := ob.idle + 1 })
        ∧ (1999 ≤ ob.idle → r'.batch = none
          ∧ (Notice.batchAbandoned ob.entries.length ∈ r'.queue ∨ r'.overflow = true)) := by
  have hbatch : r'.batch = (r.postAll ns).idled.batch := by rw [h]; exact postAll_batch ..
  have hopen : (r.postAll ns).batch = r.batch := postAll_batch ..
  refine ⟨?_, fun hb => ?_, fun ob hb => ⟨fun hi => ?_, fun hi => ⟨?_, ?_⟩⟩⟩
  · obtain ⟨hp, hc, hk⟩ := idled_keeps (r.postAll ns)
    have hcom : r'.committed = [] := by rw [h]
    rw [← hcom]
    refine portRec_eq_with ?_ ?_ ?_
    · rw [h]; exact (postAll_profile ..).trans (hp.trans (postAll_profile ..))
    · rw [h]; exact (postAll_cursor ..).trans (hc.trans (postAll_cursor ..))
    · rw [h]; exact (postAll_keep ..).trans (hk.trans (postAll_keep ..))
  · rw [hbatch, idled_none (hopen.trans hb), hopen, hb]
  · rw [hbatch, idled_counts (hopen.trans hb) hi]
  · rw [hbatch, idled_expires (hopen.trans hb) hi, portPost_batch]
  · rw [h]
    refine postAll_keeps _ ms ?_
    rw [idled_expires (hopen.trans hb) hi, portPost_eq]
    exact mem_queue_postAll _ (List.mem_singleton_self _)

/-! ## The two rows -/

/-- BATCH_APPLICATION of a single batch: its notice stands last, and the gates and counts of a partition whose mode changed are
cleared (R101, R152; logs 1 and 18). -/
theorem batchApplication_single {p : Port} {b : Batch} {s t : State} (ht : t = settleLine (applyCommitted p s))
    (h : (s.port p).committed = [b]) :
    (b.byCommit = true → (t.port p).queue.getLast? = some (Notice.batchApplied b.entries.length false) ∨ (t.port p).overflow = true)
    ∧ (∀ m : Fin 16, s.mode (t.micPart m) ≠ t.mode (t.micPart m) → (t.gates[m]).state = .closed ∧ (t.gates[m]).counter = 0)
    ∧ ∀ q : Fin 4, t.ahead.counts[q] =
        if s.mode q = t.mode q then s.ahead.counts[q] else if s.ahead.counts[q] = none then none else some 0 := by
  rw [applyCommitted_single h] at ht
  have hbefore (q : Fin 4) : (s.setPort p { s.port p with committed := [] }).mode q = s.mode q :=
    mode_congr (setPort_live ..) (congrArg Regroup.map (setPort_rg ..)) q
  have hcounts : (s.setPort p { s.port p with committed := [] }).ahead = s.ahead := setPort_ahead ..
  obtain ⟨hgates, hahead⟩ := applyBatch_modes p b (s.setPort p { s.port p with committed := [] })
  obtain ⟨ns, hport⟩ := applyBatch_port p b (s.setPort p { s.port p with committed := [] }) p
  generalize applyBatch p b (s.setPort p { s.port p with committed := [] }) = u at ht hgates hahead hport
  subst ht
  have hmode (q : Fin 4) : (settleLine u).mode q = u.mode q :=
    mode_congr (settleLine_live u) (congrArg Regroup.map (settleLine_rg u)) q
  refine ⟨fun hc => ?_, fun m hm => ?_, fun q => ?_⟩
  · have hnotice : commitNotices [b] = [Notice.batchApplied b.entries.length false] := by
      simp only [commitNotices, List.filter_cons, hc, if_true, List.filter_nil, List.map_cons, List.map_nil]
    rw [settleLine_port, hport, if_pos rfl, hnotice]
    exact getLast_queue_postAll ..
  · rw [settleLine_micPart, hmode, ← hbefore] at hm
    rw [settleLine_gates, hgates m hm]
    exact ⟨rfl, rfl⟩
  · rw [settleLine_ahead, hahead, hmode, hbefore, hcounts]
    cases s.ahead.counts[q] <;> simp

/-- BATCH_APPLICATION moves the ports' queues and the committed list applied, and what new tables bring (R152). -/
theorem batchApplication_frame {p : Port} {s t : State} (ht : t = settleLine (applyCommitted p s)) :
    t = { s with live := t.live, gates := t.gates, ahead := t.ahead, floors := t.floors, mute := t.mute, env := t.env,
                 portA := t.portA, portB := t.portB, lineA := t.lineA }
    ∧ ∀ q : Port, t.port q = { s.port q with
        committed := if q = p then [] else (s.port q).committed, queue := (t.port q).queue, overflow := (t.port q).overflow } := by
  refine ⟨?_, fun q => ?_⟩
  · have hframe := settleLine_frame (applyCommitted p s)
    obtain ⟨_, _, _, _, _, _, _, _, happlied⟩ := applyCommitted_appliesOnly p s
    rw [← ht, happlied] at hframe
    rw [hframe]
  · obtain ⟨ns, hport, -⟩ := applyCommitted_port p s q
    rw [ht, settleLine_port, hport]
    exact congrArg (fun r : PortRec => { r with committed := if q = p then [] else (s.port q).committed })
      (postAll_frame (s.port q) ns)

/-- BATCH_IDLE_TIMEOUT at a count of 1999 abandons the open batch (R153). -/
theorem batchIdleTimeout_expires {p : Port} {s : State} {ob : OpenBatch} (h : (s.port p).batch = some ob) (hi : ob.idle = 1999) :
    batchIdleTimeout p s = (s.setPort p { s.port p with batch := none }).postTo p (.batchAbandoned ob.entries.length) := by
  simp only [batchIdleTimeout, h]
  exact if_pos (by rw [hi]; rfl)

/-- Settles O54: an application is a chain of `applyBatch`, each a `placeLive` with its notice last; of a boundary
`frameBoundary_port` says what it makes of a port's record, and `frameBoundary_live` what it writes. -/
theorem batchesAreAppliedOrAbandoned : Obligations.BatchesAreAppliedOrAbandoned := by
  refine ⟨fun p s hheld => ⟨?_, fun ob hb hi => ?_⟩, fun sense early s hheld => ?_⟩
  · obtain ⟨hlive, hfloors, hempty, -⟩ := applyCommitted_live p s
    obtain ⟨hframe, hports⟩ := batchApplication_frame (t := settleLine (applyCommitted p s)) rfl
    refine ⟨settleLine (applyCommitted p s), running_next _ s hheld, ?_, ?_, fun h => ?_,
      fun b hb => batchApplication_single rfl hb, ?_, hframe, hports⟩
    · rw [settleLine_port, hempty]
    · rw [settleLine_live, hlive]; rfl
    · exact settleLine_derived _ (applyCommitted_derived p h)
    · rw [settleLine_ahead, hfloors]
  · exact (running_next _ s hheld).trans (by rw [batchIdleTimeout_expires hb hi])
  · have hport := frameBoundary_port (t := settleLine (frameBoundary sense early s)) rfl
    have hlive := frameBoundary_live (t := settleLine (frameBoundary sense early s)) rfl
    refine ⟨settleLine (frameBoundary sense early s), running_next _ s hheld, ?_⟩
    generalize settleLine (frameBoundary sense early s) = t at hport hlive
    have hempty (p : Port) : (t.port p).committed = [] := by
      obtain ⟨ns, ms, h, -⟩ := hport p
      rw [h]
    refine ⟨hempty .a, hempty .b, fun h => hlive fun hf => h.resolve_left (not_not.2 hf), fun p => ?_⟩
    obtain ⟨ns, ms, h, hsub⟩ := hport p
    obtain ⟨hrecord, hnone, hopen⟩ := idled_record h
    refine ⟨hrecord, fun b hb hc => ?_, hnone, hopen⟩
    have hdue : Notice.batchApplied b.entries.length false ∈ commitNotices (s.port p).committed :=
      List.mem_map.2 ⟨b, List.mem_filter.2 ⟨hb, hc⟩, rfl⟩
    rw [h]
    exact mem_queue_postAll _ (hsub hdue)

end Sys2Proof.Machine
end

section
/-! SUPPORT. Envelope targets under every operation (R57 to R59): what leaves them derived because it moves nothing that they depend
on, and what derives them again. -/

namespace Sys2Proof.Machine
open Host

/-! ## What a target depends on -/

theorem linkHeld_congr {s t : State} (h : ∀ m : Fin 16, (t.links[m]).state = (s.links[m]).state) (i : Fin 26) :
    t.linkHeld i = s.linkHeld i := by
  unfold State.linkHeld
  cases sourceMic i with
  | none => rfl
  | some m => simp only [h m]

theorem groupHeld_congr {s t : State} (hg : t.mute.groupMuted = s.mute.groupMuted) (hl : t.live = s.live) (i : Fin 26) :
    t.groupHeld i = s.groupHeld i := by simp only [State.groupHeld, hg, hl]

/-- What a hold set depends on, entry by entry: the stored classes of its source, the group flags, and the states of the links
(R69, R70). -/
theorem holdSet_of_classes {s t : State} {i : Fin 26}
    (hc : (t.mute.recs[i]).priv = (s.mute.recs[i]).priv ∧ (t.mute.recs[i]).chair = (s.mute.recs[i]).chair
      ∧ (t.mute.recs[i]).far = (s.mute.recs[i]).far)
    (hg : t.mute.groupMuted = s.mute.groupMuted) (hl : t.live = s.live)
    (hk : ∀ m : Fin 16, (t.links[m]).state = (s.links[m]).state) : t.holdSet i = s.holdSet i := by
  obtain ⟨hpriv, hchair, hfar⟩ := hc
  simp only [State.holdSet, hpriv, hchair, hfar, linkHeld_congr hk, groupHeld_congr hg hl]

/-- From `s` to `t` no envelope target moved, and nothing that R57 and R58 derive a target from. -/
structure TargetsStill (s t : State) : Prop where
  holds : ∀ i, t.holdSet i = s.holdSet i
  live : t.live = s.live
  gates : t.gates = s.gates
  floors : t.floors = s.floors
  map : t.rg.map = s.rg.map
  targets : ∀ i : Fin 26, (t.env[i]).target = (s.env[i]).target

theorem TargetsStill.floorLevel {s t : State} (h : TargetsStill s t) (m : Fin 16) : t.floorLevel m = s.floorLevel m := by
  simp only [State.floorLevel, State.floorOf, State.isChair, State.lead, micPart_congr h.live h.map, mode_congr h.live h.map,
    h.live, h.gates, h.floors]
  rfl

theorem TargetsStill.targetOf {s t : State} (h : TargetsStill s t) (i : Fin 26) : t.targetOf i = s.targetOf i := by
  simp only [State.targetOf, heldSource_congr h.holds, h.floorLevel]

theorem TargetsStill.derived {s t : State} (h : TargetsStill s t) (hs : TargetsDerived s) : TargetsDerived t := fun i => by
  rw [h.targets, h.targetOf, hs i]

/-- The units that targets depend on stand as they were: `targetsDerived_congr` for an operation that moves none of them. -/
theorem derived_of_frame {s t : State} (h : TargetsDerived s)
    (k : t.mute = s.mute ∧ t.live = s.live ∧ t.links = s.links ∧ t.gates = s.gates ∧ t.floors = s.floors
      ∧ t.rg.map = s.rg.map ∧ t.env = s.env) : TargetsDerived t := by
  obtain ⟨hmute, hlive, hlinks, hgates, hfloors, hmap, henv⟩ := k
  exact targetsDerived_congr hmute hlive hlinks hgates hfloors hmap henv h

theorem foldl_derived {α : Type} {f : State → α → State} (hf : ∀ s x, TargetsDerived s → TargetsDerived (f s x)) {l : List α}
    {s : State} (h : TargetsDerived s) : TargetsDerived (l.foldl f s) := by
  induction l generalizing s with
  | nil => exact h
  | cons x l ih => exact ih (hf s x h)

/-! ## Events that derive every target again (R59) -/

theorem evaluateOn_derived {v : GateView} {s : State} : TargetsDerived (evaluateOn v s) := retarget_derived s _

section
variable {cause : LinkCause} {i : Fin 16} {s : State}

theorem enterTraining_derived : TargetsDerived (enterTraining cause i s) := moveLink_derived i _ cause none _ _ _ s
theorem enterRetrain_derived : TargetsDerived (enterRetrain cause i s) := moveLink_derived i _ cause none _ _ _ s
theorem enterActive_derived {kind : Byte} {buttons : Vector Bool 3} {slide : Slide} :
    TargetsDerived (enterActive kind buttons slide i s) := moveLink_derived i _ .hello none _ _ _ _
theorem enterDoze_derived : TargetsDerived (enterDoze i s) := moveLink_derived i _ .dozeAck none _ _ _ s
theorem enterDetached_derived : TargetsDerived (enterDetached cause i s) := moveLink_derived i _ cause none _ _ _ s
theorem enterFault_derived {code : Option Byte} : TargetsDerived (enterFault cause code i s) :=
  moveLink_derived i _ cause code _ _ _ s
theorem enterDown_derived {timed : Bool} : TargetsDerived (enterDown cause timed i s) :=
  moveLink_derived i _ cause none _ _ _ s

end

section
variable {s : State} (h : TargetsDerived s)
include h

theorem ite_derived {c : Prop} [Decidable c] {t : State} (ht : TargetsDerived t) : TargetsDerived (if c then t else s) := by
  split <;> assumption

/-! ## Records that no target depends on -/

theorem setPort_derived {p : Port} {r : PortRec} : TargetsDerived (s.setPort p r) := derived_of_frame h (by simp)
theorem postTo_derived {p : Port} {n : Notice} : TargetsDerived (s.postTo p n) := derived_of_frame h (by simp)
theorem advance_derived {p : Port} : TargetsDerived (s.advance p) := derived_of_frame h (by simp)
theorem withLineA_derived {line : LineA} : TargetsDerived { s with lineA := line } := h
theorem setBuf_derived {b : Fin 2} {x : Buffer} : TargetsDerived (s.setBuf b x) := h
theorem setPage_derived {k : Fin 32} {g : Page} : TargetsDerived (s.setPage k g) := h
theorem setJob_derived {j : Option Job} : TargetsDerived (s.setJob j) := h
theorem withWorked_derived {v : Vector Bool 4} : TargetsDerived (s.withWorked v) := h
theorem withRg_derived {g : Regroup} (hg : g.map = s.rg.map) : TargetsDerived { s with rg := g } :=
  derived_of_frame h ⟨rfl, rfl, rfl, rfl, rfl, hg, rfl⟩
theorem regroupCause_derived {timed : Bool} : TargetsDerived (regroupCause timed s) :=
  derived_of_frame h (by simp [regroupCause_map])

/-! ## The mute unit and the floor unit -/

/-- A mute record changed in its UNMUTE_ASK flag alone (R85). -/
theorem withAsk_derived {j : Fin 26} {ask : Bool} :
    TargetsDerived (s.withRecs (put s.mute.recs j { s.mute.recs[j] with ask := ask })) := by
  have hstill : TargetsStill s (s.withRecs (put s.mute.recs j { s.mute.recs[j] with ask := ask })) := by
    refine ⟨fun i => holdSet_of_classes ?_ rfl rfl fun _ => rfl, rfl, rfl, rfl, rfl, fun _ => rfl⟩
    simp only [State.withRecs, put_get]
    split
    · rename_i hi
      rw [hi]
      exact ⟨rfl, rfl, rfl⟩
    · exact ⟨rfl, rfl, rfl⟩
  exact hstill.derived h

theorem toggleAsk_derived {m : Fin 16} : TargetsDerived (toggleAsk m s) := by
  simp only [toggleAsk]
  split
  · exact post_derived _ _ (withAsk_derived h)
  · exact h

theorem clearAsks_derived {test : Fin 16 → Bool} {cause : AskCause} : TargetsDerived (clearAsks test cause s) := by
  have hstill : TargetsStill s (clearAsks test cause s) :=
    ⟨clearAsks_holdSet test cause s, by simp, by simp, by simp, by simp, by simp⟩
  exact hstill.derived h

theorem askMic_derived {m : Fin 16} : TargetsDerived (askMic m s).state := by
  simp only [askMic]
  split_ifs
  · exact h
  · exact h
  · exact h
  · exact (setFloor_spec ..).1
  · exact (setFloor_spec ..).1

theorem withdrawMic_derived {m : Fin 16} : TargetsDerived (withdrawMic m s).state := by
  simp only [withdrawMic]
  split
  · exact (setFloor_spec ..).1
  · exact h

theorem endGrant_derived {event : FloorEvent} {m : Fin 16} : TargetsDerived (endGrant event m s).state := by
  simp only [endGrant]
  split
  · exact (setFloor_spec ..).1
  · exact h

theorem makeGrant_derived {p : Fin 4} {m : Fin 16} : TargetsDerived (makeGrant p m s).state := by
  simp only [makeGrant]
  split
  · exact (setFloor_spec ..).1
  · split
    · exact (setFloor_spec ..).1
    · exact h

theorem grantMic_derived {m : Fin 16} : TargetsDerived (grantMic m s).state := by
  simp only [grantMic]
  split_ifs
  · exact h
  · exact makeGrant_derived h
  · exact h

theorem grantOldest_derived {p : Fin 4} : TargetsDerived (grantOldest p s).state := by
  unfold grantOldest
  split
  · exact h
  · exact makeGrant_derived h

theorem talkFloor_derived {m : Fin 16} : TargetsDerived (talkFloor m s) := by
  simp only [talkFloor]
  split_ifs
  · exact h
  · exact endGrant_derived h
  · exact withdrawMic_derived h
  · exact askMic_derived h

/-- A floor request on a source leaves targets derived as its operation on a microphone does. -/
theorem onSource_derived {f : Fin 16 → State → Reply} (hf : ∀ m, TargetsDerived (f m s).state) {n : Nat} :
    TargetsDerived (onSource n f s).state := by
  unfold onSource
  split
  · exact hf _
  · exact h

theorem onSlot_derived {f : Fin 4 → State → Reply} (hf : ∀ p, TargetsDerived (f p s).state) {n : Nat} :
    TargetsDerived (onSlot n f s).state := by
  unfold onSlot
  split
  · exact hf _
  · exact h

theorem floorWork_derived {p : Fin 4} : TargetsDerived (floorWork s p) := ite_derived h (setFloor_spec ..).1

theorem pieceAhead_derived {p : Fin 4} {due : Bool} : TargetsDerived (pieceAhead p due s) :=
  ite_derived h (withWorked_derived (floorWork_derived h))

theorem takePieces_derived : TargetsDerived (takePieces s) :=
  withWorked_derived (foldl_derived (fun _ _ ht => floorWork_derived ht) h)

theorem gateEvaluation_derived {p : Fin 4} : TargetsDerived (gateEvaluation s p) := ite_derived h (evaluateOn_derived)

theorem gateHoldExpiry_derived {m : Fin 16} : TargetsDerived (gateHoldExpiry m s) := by
  have hand (p : Fin 4) (t : State) (ht : TargetsDerived t) : TargetsDerived (handCount p t) := derived_of_frame ht (by simp)
  exact ite_derived h (hand _ _ (evaluateOn_derived))

/-! ## The links -/

/-- A link's record changed without a change of its state. -/
theorem setLink_derived {i : Fin 16} {l : LinkRec} (hl : l.state = (s.links[i]).state) : TargetsDerived (s.setLink i l) := by
  have hstate (m : Fin 16) : ((s.setLink i l).links[m]).state = (s.links[m]).state := by
    simp only [State.setLink, put_get]
    split
    · rename_i hm
      rw [hm, hl]
    · rfl
  have hstill : TargetsStill s (s.setLink i l) :=
    ⟨fun _ => holdSet_of_classes ⟨rfl, rfl, rfl⟩ rfl rfl hstate, rfl, rfl, rfl, rfl, fun _ => rfl⟩
  exact hstill.derived h

theorem refuseDoze_derived {cause : LinkCause} {i : Fin 16} : TargetsDerived (refuseDoze cause i s) :=
  post_derived _ _ (setLink_derived h rfl)

theorem failAttempt_derived {i : Fin 16} : TargetsDerived (failAttempt i s) := by
  simp only [failAttempt]
  split
  · exact enterFault_derived
  · exact setLink_derived h rfl

theorem linkAction_derived {req : LinkReq} {i : Fin 16} : TargetsDerived (linkAction req i s).1 := by
  cases req with
  | nop =>
    simp only [linkAction, linkNop]
    split
    · exact setLink_derived h rfl
    · exact h
  | up =>
    simp only [linkAction, linkUp]
    split
    · split
      · exact enterTraining_derived
      · exact h
    · exact h
    · exact setLink_derived h rfl
    · exact enterRetrain_derived
    · exact enterDown_derived
    · exact enterDown_derived
    · split
      · exact enterDown_derived
      · exact h
  | doze =>
    simp only [linkAction, linkDoze]
    split
    · exact setLink_derived h rfl
    · exact h
  | detach =>
    simp only [linkAction, linkDetach]
    split_ifs
    · exact enterDetached_derived
    · exact setLink_derived h rfl
    · exact h
  | retrain =>
    simp only [linkAction, linkRetrain]
    split
    · exact enterRetrain_derived
    · exact h

/-! ## Pod messages (R125) -/

theorem takeHello_derived {locked : Bool} {kind : Byte} {buttons : Vector Bool 3} {slide : Option Slide} {i : Fin 16} :
    TargetsDerived (takeHello locked kind buttons slide i s) := by
  unfold takeHello
  split
  · exact ite_derived h enterActive_derived
  · exact ite_derived h enterActive_derived
  · exact enterRetrain_derived
  · exact h

theorem actPress_derived {b : Button} {m : Fin 16} : TargetsDerived (actPress b m s) := by
  cases b with
  | mute => exact (settleHolds_spec ..).1
  | talk =>
    simp only [actPress]
    split
    · exact talkFloor_derived h
    · exact toggleAsk_derived h
  | all => exact ite_derived h (settleHolds_spec ..).1

theorem takeButton_derived {b : Button} {seq : Bool} {i : Fin 16} : TargetsDerived (takeButton b seq i s) := by
  simp only [takeButton]
  split
  · exact h
  · split
    · exact actPress_derived (setLink_derived h (l := { s.links[i] with lastBit := seq }) rfl)
    · exact enterRetrain_derived
    · exact h

theorem takeDozeAck_derived {i : Fin 16} : TargetsDerived (takeDozeAck i s) := ite_derived h enterDoze_derived
theorem takeDozeNak_derived {i : Fin 16} : TargetsDerived (takeDozeNak i s) := ite_derived h (refuseDoze_derived h)
theorem takeDetachAck_derived {i : Fin 16} : TargetsDerived (takeDetachAck i s) := ite_derived h enterDetached_derived
theorem takeFaultReport_derived {code : Byte} {i : Fin 16} : TargetsDerived (takeFaultReport code i s) :=
  ite_derived h enterFault_derived
theorem takeWake_derived {i : Fin 16} : TargetsDerived (takeWake i s) := ite_derived h enterRetrain_derived

theorem takeMessage_derived {locked : Bool} {msg : PodMessage} {i : Fin 16} : TargetsDerived (takeMessage locked msg i s) := by
  cases msg with
  | hello kind buttons slide => exact takeHello_derived h
  | button b seq => exact takeButton_derived h
  | dozeAck => exact takeDozeAck_derived h
  | dozeNak => exact takeDozeNak_derived h
  | detachAck => exact takeDetachAck_derived h
  | faultReport code => exact takeFaultReport_derived h
  | wake => exact takeWake_derived h

theorem upstreamArrival_derived {i : Fin 16} {bytes : List Byte} : TargetsDerived (upstreamArrival i bytes s) := by
  have hrun (l : LinkRec) : l.advanceRun.state = l.state := by unfold LinkRec.advanceRun; split <;> rfl
  simp only [upstreamArrival]
  split
  · split
    · have hs := setLink_derived h (i := i) (hrun { s.links[i] with
        arrival := some { good := frameGood bytes, samples := tab fun j => sampleWord bytes j.val } })
      split
      · exact takeMessage_derived hs
      · exact hs
    · exact setLink_derived h rfl
  · exact h

/-! ## The links at a boundary, and the timed rows (R127 to R137) -/

theorem badFrameRun_derived {i : Fin 16} : TargetsDerived (badFrameRun i s) := ite_derived h enterRetrain_derived
theorem attemptFail_derived {i : Fin 16} : TargetsDerived (attemptFail i s) := ite_derived h (failAttempt_derived h)
theorem dozeTimeout_derived {i : Fin 16} : TargetsDerived (dozeTimeout i s) := ite_derived h (refuseDoze_derived h)
theorem detachTimeout_derived {i : Fin 16} : TargetsDerived (detachTimeout i s) := ite_derived h enterFault_derived
theorem autoUpEvent_derived {i : Fin 16} : TargetsDerived (autoUpEvent i s) := ite_derived h enterTraining_derived

theorem residencyMet_derived {i : Fin 16} : TargetsDerived (residencyMet i s) := by
  simp only [residencyMet]
  split_ifs
  · exact enterDown_derived
  · exact setLink_derived h rfl
  · exact h

theorem autoUpBoundary_derived {i : Fin 16} : TargetsDerived (autoUpBoundary i s) := by
  simp only [autoUpBoundary]
  split_ifs
  · exact setLink_derived h rfl
  · exact enterTraining_derived
  · exact setLink_derived h rfl
  · exact h

theorem judgeFrame_derived {i : Fin 16} : TargetsDerived (judgeFrame i s) := by
  simp only [judgeFrame]
  split_ifs
  · exact h
  · exact setLink_derived h rfl
  · exact setLink_derived h rfl
  · exact enterRetrain_derived
  · exact setLink_derived h rfl
  · exact h

theorem linkTimeouts_derived {i : Fin 16} : TargetsDerived (linkTimeouts i s) := by
  have hdoze : TargetsDerived (dozeExpiry i s) := ite_derived h (refuseDoze_derived h)
  have hdetach : TargetsDerived (detachExpiry i (dozeExpiry i s)) := ite_derived hdoze enterFault_derived
  exact ite_derived hdetach (failAttempt_derived hdetach)

theorem residencyBoundary_derived {before : LinkRec} {i : Fin 16} : TargetsDerived (residencyBoundary before i s) :=
  ite_derived h enterDown_derived

theorem linkBoundary_derived {i : Fin 16} : TargetsDerived (linkBoundary s i) := by
  rw [linkBoundary]
  have hraised := setLink_derived h (i := i) (l := (s.links[i]).raiseTimers) rfl
  generalize s.setLink i (s.links[i]).raiseTimers = t at hraised ⊢
  exact residencyBoundary_derived (linkTimeouts_derived (judgeFrame_derived (autoUpBoundary_derived hraised)))

end
end Sys2Proof.Machine
end

section
/-! SUPPORT. Envelope targets under every command (R57 to R59): O24. -/

namespace Sys2Proof.Machine
open Host

section
variable {s : State} (h : TargetsDerived s)
include h

/-! ## Requests of chapter 9 (R146 to R158) -/

theorem followShown_derived {p : Port} {c : Cursor} {content : Option (List Nat)} :
    TargetsDerived (followShown p c content s) := by
  cases p with
  | a => exact ite_derived h (withLineA_derived h)
  | b => exact h

theorem doSelect_derived {p : Port} {t v k : Nat} : TargetsDerived (doSelect p t v k s).state := by
  unfold doSelect
  split
  · exact setPort_derived h
  · exact h

theorem commitBatch_derived {p : Port} {b : Batch} {t : State} (ht : commitBatch p b s = some t) : TargetsDerived t := by
  simp only [commitBatch] at ht
  split_ifs at ht
  · cases ht
    exact regroupCause_derived (withRg_derived h (g := { s.rg with changes := s.rg.changes ++ [{ port := p, batch := b }] }) rfl)
  · cases ht
    exact setPort_derived h

theorem enterLive_derived {p : Port} {e : Entry} {t : State} (ht : enterLive p e s = .ok t) : TargetsDerived t := by
  simp only [enterLive] at ht
  split at ht
  · cases ht
  · split at ht
    · split at ht
      · cases ht
        exact setPort_derived h
      · cases ht
    · split at ht
      · rename_i hc
        cases ht
        exact commitBatch_derived h hc
      · cases ht

theorem enterBuffer_derived {p : Port} {b : Fin 2} {key : TableId × Nat} {skip : Bool} {done : Status} {f : Buffer → Buffer} :
    TargetsDerived (enterBuffer p b key skip done f s).state := by
  simp only [enterBuffer]
  split_ifs
  · exact h
  · exact h
  · exact advance_derived h
  · exact advance_derived (setBuf_derived h)

theorem enterEntry_derived {p : Port} {v : View} {e : Entry} {done : Status} :
    TargetsDerived (enterEntry p v e done s).state := by
  cases v with
  | live =>
    simp only [enterEntry]
    split
    · exact advance_derived h
    · split
      · rename_i hu
        exact advance_derived (enterLive_derived h hu)
      · exact h
  | sb b => exact enterBuffer_derived h

theorem doEnter_derived {p : Port} {ops : List Nat} {keep : Option Set26} : TargetsDerived (doEnter p ops keep s).state := by
  have hclip (k : Nat) : TargetsDerived (clearClip k s) := derived_of_frame h (by simp [clearClip])
  simp only [doEnter]
  split
  · exact h
  · split
    · exact advance_derived h
    · split
      · exact advance_derived (hclip _)
      · exact advance_derived h
    · split
      · exact h
      · exact enterBuffer_derived h
    · exact enterEntry_derived h

theorem doMask_derived {p : Port} {n : Nat} : TargetsDerived (doMask p n s).state := by
  unfold doMask
  split
  · exact setPort_derived h
  · exact h

theorem doBegin_derived {p : Port} : TargetsDerived (doBegin p s).state := by
  unfold doBegin
  split
  · exact h
  · exact setPort_derived h

theorem doCommit_derived {p : Port} : TargetsDerived (doCommit p s).state := by
  unfold doCommit
  split
  · exact h
  · split
    · rename_i hc
      exact commitBatch_derived (setPort_derived h) hc
    · exact h

theorem doAbandon_derived {p : Port} : TargetsDerived (doAbandon p s).state := by
  unfold doAbandon
  split
  · exact setPort_derived h
  · exact h

theorem doWall_derived {p : Port} {w : Nat} {o : Override} : TargetsDerived (doWall p w o s).state := by
  unfold doWall
  split
  · exact h
  · split
    · rename_i hu
      exact enterLive_derived h hu
    · exact h

theorem doLower_derived {p : Port} {named : Profile} : TargetsDerived (doLower p named s).state := by
  simp only [doLower]
  split
  · exact setPort_derived h
  · exact h

theorem doNotices_derived {p : Port} : TargetsDerived (doNotices p s).state := by cases p <;> exact h

theorem doFlags_derived {p : Port} {f : PortFlag} {on : Bool} : TargetsDerived (doFlags p f on s).state := by
  cases p <;> exact h

/-! ## Requests of chapters 5 and 8 -/

theorem doHold_derived {p : Port} {t : Target} : TargetsDerived (doHold p t s).state := by
  unfold doHold
  split
  · exact (settleHolds_spec ..).1
  · exact h

theorem doFree_derived {p : Port} {t : Target} : TargetsDerived (doFree p t s).state := by
  unfold doFree
  split
  · split
    · exact (settleHolds_spec ..).1
    · exact h
  · exact h

omit h in
theorem freeEverything_derived {p : Port} {s : State} : TargetsDerived (freeEverything p s) := by
  cases p <;> exact (settleHolds_spec ..).1

theorem doGroupMute_derived {g : Nat} {on : Bool} : TargetsDerived (doGroupMute g on s).state := by
  unfold doGroupMute
  split
  · exact (settleHolds_spec ..).1
  · exact h

theorem doQuiet_derived {n : Nat} {on : Bool} : TargetsDerived (doQuiet n on s).state := by
  unfold doQuiet
  split
  · split
    · dsimp only
      split
      · exact h
      · exact (settleHolds_spec ..).1
    · exact h
  · exact h

theorem doDismiss_derived {t : Target} : TargetsDerived (doDismiss t s).state := by
  unfold doDismiss
  split
  · split
    · exact clearAsks_derived h
    · exact h
  · exact clearAsks_derived h
  · exact h

theorem doClearQ_derived {n : Nat} : TargetsDerived (doClearQ n s).state := by
  have hqueue (p : Fin 4) : TargetsDerived (clearQueue p s).state := (setFloor_spec ..).1
  exact onSlot_derived h hqueue

theorem doLink_derived {n : Nat} {req : LinkReq} : TargetsDerived (doLink n req s).state := by
  unfold doLink
  split
  · exact h
  · rename_i i _
    exact linkAction_derived (setLink_derived h (l := { s.links[i] with requested := req }) rfl)

/-! ## Requests of chapter 10 (R164 to R169) -/

theorem startJob_derived {op : EngineOp} {k : Fin 32} {b : Option (Fin 2)} {record : Option PowerOn} :
    TargetsDerived (startJob op k b record s) := setJob_derived h

theorem lockBuf_derived {b : Fin 2} {l : Lock} : TargetsDerived (lockBuf b l s) := setBuf_derived h

theorem loadPage_derived {k : Fin 32} {b : Fin 2} : TargetsDerived (loadPage k b s).state := by
  unfold loadPage
  split_ifs
  · exact h
  · exact h
  · exact h
  · exact startJob_derived (lockBuf_derived h)

theorem captureBuf_derived {b : Fin 2} : TargetsDerived (captureBuf b s).state := by
  unfold captureBuf
  split
  · exact h
  · exact lockBuf_derived h

theorem storeBuf_derived {b : Fin 2} {k : Fin 32} : TargetsDerived (storeBuf b k s).state := by
  unfold storeBuf
  split_ifs
  · exact h
  · exact h
  · exact h
  · exact startJob_derived (lockBuf_derived h)
  · exact startJob_derived (lockBuf_derived h)

theorem amendPage_derived {b : Fin 2} {k : Fin 32} : TargetsDerived (amendPage b k s).state := by
  unfold amendPage
  split_ifs
  · exact h
  · exact h
  · exact h
  · exact h
  · exact startJob_derived (lockBuf_derived h)

theorem erasePage_derived {k : Fin 32} : TargetsDerived (erasePage k s).state := by
  simp only [erasePage]
  split
  · exact h
  · exact setPage_derived (startJob_derived h)

theorem applyBuf_derived {b : Fin 2} : TargetsDerived (applyBuf b s).state := by
  simp only [applyBuf]
  split_ifs
  · exact h
  · exact h
  · exact h
  · exact regroupCause_derived (withRg_derived (lockBuf_derived h)
      (g := { (lockBuf b .apply s).rg with applyMark := some b, applyDue := true }) rfl)

theorem onPageBuf_derived {f : Fin 32 → Fin 2 → State → Reply} (hf : ∀ k b, TargetsDerived (f k b s).state) {k b : Nat} :
    TargetsDerived (onPageBuf k b f s).state := by
  unfold onPageBuf
  split
  · exact hf _ _
  · exact h

theorem onBuf_derived {f : Fin 2 → State → Reply} (hf : ∀ b, TargetsDerived (f b s).state) {b : Nat} :
    TargetsDerived (onBuf b f s).state := by
  unfold onBuf
  split
  · exact hf _
  · exact h

theorem onPage_derived {f : Fin 32 → State → Reply} (hf : ∀ k, TargetsDerived (f k s).state) {k : Nat} :
    TargetsDerived (onPage k f s).state := by
  unfold onPage
  split
  · exact hf _
  · exact h

/-! ## Requests served, lines and records (R144, R154, R157) -/

theorem body_derived {p : Port} {r : Request} {keep : Option Set26} : TargetsDerived (r.body p keep s).state := by
  cases r with
  | select t v k => exact doSelect_derived h
  | showEntry => exact followShown_derived (advance_derived h)
  | enter ops => exact doEnter_derived h
  | mask n => exact doMask_derived h
  | beginBatch => exact doBegin_derived h
  | commit => exact doCommit_derived h
  | abandon => exact doAbandon_derived h
  | wall w o => exact doWall_derived h
  | notices => exact doNotices_derived h
  | flags f on => exact doFlags_derived h
  | lower n => exact doLower_derived h
  | hold t => exact doHold_derived h
  | free t => exact doFree_derived h
  | freeAll => exact freeEverything_derived
  | gmute g => exact doGroupMute_derived h
  | gunmute g => exact doGroupMute_derived h
  | quiet n on => exact doQuiet_derived h
  | dismiss t => exact doDismiss_derived h
  | ask n => exact onSource_derived h fun _ => askMic_derived h
  | withdraw n => exact onSource_derived h fun _ => withdrawMic_derived h
  | release n => exact onSource_derived h fun _ => endGrant_derived h
  | grant n => exact onSource_derived h fun _ => grantMic_derived h
  | grantNext n => exact onSlot_derived h fun _ => grantOldest_derived h
  | revoke n => exact onSource_derived h fun _ => endGrant_derived h
  | clearQ n => exact doClearQ_derived h
  | link i req => exact doLink_derived h
  | load k b => exact onPageBuf_derived h fun _ _ => loadPage_derived h
  | capture b => exact onBuf_derived h fun _ => captureBuf_derived h
  | store b k => exact onPageBuf_derived h fun _ _ => storeBuf_derived h
  | amend b k => exact onPageBuf_derived h fun _ _ => amendPage_derived h
  | erase k => exact onPage_derived h fun _ => erasePage_derived h
  | apply b => exact onBuf_derived h fun _ => applyBuf_derived h
  | clear => exact h

theorem serve_derived {p : Port} {code : Byte} {cls : ReqClass} {body : Option Set26 → State → Reply}
    (hb : ∀ k, TargetsDerived (body k (received p s)).state) : TargetsDerived (serve p code cls body s) := by
  simp only [serve]
  split
  · exact respond_derived _ _ _ _ _ (hb _)
  · exact respond_derived _ _ _ _ _ (received_derived p s h)

theorem request_derived {p : Port} {r : Request} : TargetsDerived (request p r s) :=
  serve_derived h fun _ => body_derived (received_derived p s h)

theorem refuseRequest_derived {p : Port} {code : Byte} {st : Status} : TargetsDerived (refuseRequest p code st s) :=
  respond_derived _ _ _ _ _ (received_derived p s h)

omit h in
/-- Whatever the targets were, a start-up event derives them (R68). -/
theorem startUp_derived {cause : StartCause} {pins : Pins} {s : State} : TargetsDerived (startUp cause pins s) := by
  rw [startUp_eq]
  exact startState_derived _ _ _ _ _ _ _

theorem requestClear_derived {p : Port} : TargetsDerived (requestClear p s) := by
  unfold requestClear
  split
  · exact startUp_derived
  · exact request_derived h

theorem wireRequest_derived {p : Port} {name : ReqName} {ops : List Nat} : TargetsDerived (wireRequest p name ops s) := by
  unfold wireRequest
  split
  · exact refuseRequest_derived h
  · split
    · exact requestClear_derived h
    · exact request_derived h
    · exact serve_derived h fun _ => received_derived _ s h

theorem takeWords_derived {words : List (List Byte)} : TargetsDerived (takeWords words s) := by
  unfold takeWords
  split
  · exact h
  · split
    · exact wireRequest_derived h
    · exact refuseRequest_derived h

theorem endOfLine_derived : TargetsDerived (endOfLine s) := by
  simp only [endOfLine]
  split
  · split
    · have hline := withLineA_derived h (line := s.lineA.endLine ‹List Byte›)
      split_ifs
      · exact refuseRequest_derived hline
      · exact refuseRequest_derived hline
      · exact takeWords_derived hline
    · exact h
  · exact h

theorem takeRecord_derived {code : Byte} {ops : List Byte} : TargetsDerived (takeRecord code ops s) := by
  unfold takeRecord
  split
  · split
    · exact wireRequest_derived h
    · exact refuseRequest_derived h
  · exact refuseRequest_derived h

theorem portBWrite_derived {a : Fin 128} {bytes : List Byte} : TargetsDerived (portBWrite a bytes s) := by
  unfold portBWrite
  split
  · split
    · exact h
    · exact refuseRequest_derived h
    · split_ifs
      · exact refuseRequest_derived h
      · exact refuseRequest_derived h
      · exact takeRecord_derived h
  · exact h

theorem lineSent_derived : TargetsDerived (lineSent s) := by
  unfold lineSent
  split
  · exact h
  · dsimp only
    split <;> exact h

theorem portBRead_derived {a : Fin 128} {count : Nat} : TargetsDerived (portBRead a count s) := by
  unfold portBRead
  split <;> exact h

/-! ## Scene completions (R165 to R168) -/

theorem endJob_derived {j : Job} {event : SceneEvent} : TargetsDerived (endJob j event s) := by
  unfold endJob
  cases j.buffer with
  | none => exact post_derived _ _ h
  | some b => exact post_derived _ _ h

theorem programPage_derived {j : Job} {event : SceneEvent} {c : Contents} {verified : Bool} :
    TargetsDerived (programPage j event c verified s) := by
  have hbroken : TargetsDerived (breakPage j.page j.kept s) := h
  unfold programPage
  split
  · exact endJob_derived (setPage_derived h)
  · exact endJob_derived hbroken

theorem loadComplete_derived {readOk : Bool} : TargetsDerived (loadComplete readOk s) := by
  unfold loadComplete
  split
  · split
    · dsimp only
      split
      · exact endJob_derived (setBuf_derived h)
      · exact endJob_derived (setBuf_derived (setPage_derived h))
    · exact h
  · exact h

theorem storeComplete_derived {verified : Bool} : TargetsDerived (storeComplete verified s) := by
  unfold storeComplete
  split
  · split
    · exact programPage_derived h
    · exact h
  · exact h

theorem amendComplete_derived {readOk verified : Bool} : TargetsDerived (amendComplete readOk verified s) := by
  unfold amendComplete
  split
  · split
    · dsimp only
      split
      · exact programPage_derived h
      · exact endJob_derived (setPage_derived h)
    · exact h
  · exact h

theorem eraseComplete_derived : TargetsDerived (eraseComplete s) := by
  unfold eraseComplete
  split
  · split
    · exact endJob_derived (setPage_derived h)
    · exact h
  · exact h

theorem eraseStage_derived : TargetsDerived (eraseStage s) := by
  unfold eraseStage
  split
  · exact ite_derived h (setJob_derived (setPage_derived h))
  · exact h

theorem captureCopy_derived {b : Fin 2} : TargetsDerived (captureCopy b s) :=
  ite_derived h (post_derived _ _ (setBuf_derived h))

/-! ## Walls, the switch and idle batches -/

theorem senseChange_derived {w : Fin 3} {level : WallState} : TargetsDerived (senseChange w level s) := by
  have hwall (walls : Vector WallRec 3) (n : State → Notice) :
      TargetsDerived (({ s with walls := walls } : State).post [n { s with walls := walls }]) := post_derived _ _ h
  simp only [senseChange]
  split
  · exact hwall _ fun t => t.wallNotice w
  · exact regroupCause_derived (hwall _ fun t => t.wallNotice w)

theorem sampleWall_derived {sense : Sense} {w : Fin 3} : TargetsDerived (sampleWall sense s w) := by
  have hcount (n : Nat) : TargetsDerived (s.setWallCount w n) := h
  simp only [sampleWall]
  split_ifs
  · exact hcount 0
  · exact hcount _
  · exact senseChange_derived h

theorem wallSenseChange_derived {w : Fin 3} : TargetsDerived (wallSenseChange w s) := ite_derived h (senseChange_derived h)

omit h in
/-- Whatever the targets were, a switch derives them (R30, R59). -/
theorem switchNow_derived {s : State} : TargetsDerived (switchNow s) := by
  rw [switchNow_settled]
  exact (settleHolds_spec ..).1

theorem regroupSwitch_derived : TargetsDerived (regroupSwitch s) := ite_derived h switchNow_derived

theorem regroupDone_derived : TargetsDerived (regroupDone s) :=
  ite_derived h (post_derived _ _ (withRg_derived h (g := s.rg.settle) rfl))

theorem abandonBatch_derived {p : Port} {ob : OpenBatch} : TargetsDerived (abandonBatch p ob s) :=
  postTo_derived (setPort_derived h)

theorem idleBoundary_derived {p : Port} : TargetsDerived (idleBoundary p s) := by
  unfold idleBoundary
  split
  · split
    · exact abandonBatch_derived h
    · exact setPort_derived h
  · exact h

theorem batchIdleTimeout_derived {p : Port} : TargetsDerived (batchIdleTimeout p s) := by
  unfold batchIdleTimeout
  split
  · exact ite_derived h (abandonBatch_derived h)
  · exact h

/-! ## The clock (R4, R36) -/

/-- A sample period moves the envelopes' values, never their targets (R55). -/
theorem samplePeriod_derived {tdm : Vector SlotWord 8} {chan : Vector SlotWord 2} : TargetsDerived (samplePeriod tdm chan s) := by
  obtain ⟨u, ⟨hu, -, henv, -⟩, heq⟩ := samplePeriod_eq_portPeriod tdm chan s
  have hmix : TargetsStill s u := by
    refine ⟨fun i => ?_, ?_, ?_, ?_, ?_, fun i => (henv i).1⟩
    · exact holdSet_congr (by rw [hu]) (by rw [hu]) (by rw [hu]) i
    · rw [hu]
    · rw [hu]
    · rw [hu]
    · rw [hu]
  have hports (t : State) (ht : TargetsDerived t) : TargetsDerived (portPeriod tdm chan t) := ht
  rw [heq]
  exact hports u (hmix.derived h)

theorem boundaryBegun_derived {sense : Sense} : TargetsDerived (boundaryBegun sense s) := by
  unfold boundaryBegun
  exact derived_of_frame h ⟨rfl, rfl, rfl, rfl, rfl, rfl, rfl⟩

theorem boundaryLinks_derived {sense : Sense} : TargetsDerived (boundaryLinks sense s) := by
  unfold boundaryLinks
  exact foldl_derived (fun _ _ ht => linkBoundary_derived ht) (boundaryBegun_derived h)

theorem handover_derived : TargetsDerived (handover s) := derived_of_frame h (by simp [handover])

/-- The frames judged are gone from the link records, whose states stand. -/
theorem closeFrames_derived : TargetsDerived (closeFrames s) := by
  have hstate (m : Fin 16) : ((closeFrames s).links[m]).state = (s.links[m]).state := by rw [closeFrames_link]
  have hstill : TargetsStill s (closeFrames s) :=
    ⟨fun _ => holdSet_of_classes (by simp [closeFrames]) rfl rfl hstate, rfl, by simp [closeFrames], by simp [closeFrames],
      congrArg Regroup.map (closeFrames_rg s), by simp [closeFrames]⟩
  exact hstill.derived h

theorem boundarySampled_derived {sense : Sense} : TargetsDerived (boundarySampled sense s) := by
  unfold boundarySampled
  exact foldl_derived (fun _ _ ht => sampleWall_derived ht)
    (closeFrames_derived (handover_derived (boundaryLinks_derived h)))

theorem boundaryDecisions_derived : TargetsDerived (boundaryDecisions s) :=
  takePieces_derived (foldl_derived (fun _ _ ht => gateEvaluation_derived ht) h)

theorem boundaryDecided_derived {sense : Sense} : TargetsDerived (boundaryDecided sense s) := by
  have hsnap (t : State) (ht : TargetsDerived t) : TargetsDerived (takeSnapshot t) := ht
  unfold boundaryDecided
  exact hsnap _ (boundaryDecisions_derived (boundarySampled_derived h))

/-- The configuration work of a boundary: each of its parts keeps targets derived, or derives them. -/
theorem boundaryTables_derived : TargetsDerived (boundaryTables s) := by
  have hidle := idleBoundary_derived (p := .b) (idleBoundary_derived (p := .a) h)
  have happlied := applyCommitted_derived .b (applyCommitted_derived .a hidle)
  have hstep (t : State) (ht : TargetsDerived t) : TargetsDerived (readBusStep t) := ht
  have hend (t : State) (ht : TargetsDerived t) : TargetsDerived (regroupBoundaryEnd t) := ht
  have htested := regroupDone_derived (regroupSwitch_derived (hstep _ happlied))
  exact captureCopy_derived (captureCopy_derived (hend _ htested))

theorem frameBoundary_derived {sense : Sense} {early : Bool} : TargetsDerived (frameBoundary sense early s) := by
  have hdown (v : Vector Indicator 16) : TargetsDerived (startDownstream v (boundaryDecided sense s)) :=
    boundaryDecided_derived h
  have hworked : TargetsDerived (boundaryWorked sense early s) := by
    unfold boundaryWorked
    exact boundaryTables_derived (hdown _)
  rw [frameBoundary_eq, followCompare_frame]
  exact withLineA_derived hworked

/-! ## Every command -/

theorem running_derived {f : State → State} {t : State} (hf : TargetsDerived (f s)) (ht : running f s = .next t) :
    TargetsDerived t := by
  cases hh : s.held with
  | false => exact eq_of_running hh ht ▸ settleLine_derived _ hf
  | true => exact eq_of_running_held hh ht ▸ h

theorem exec_request_derived {c : Instr} {p : Port} {r : Request} {t : State} (hc : portRequest c = some (p, r))
    (ht : exec c s = .next t) : TargetsDerived t := by
  by_cases hr : r = .clear
  · subst hr
    have hclear : c = .clear p := by cases c <;> simp_all [portRequest]
    subst hclear
    exact running_derived h (requestClear_derived h) ht
  · rw [exec_request c p r s hc hr] at ht
    exact running_derived h (request_derived h) ht

theorem exec_derived {c : Instr} {t : State} (ht : exec c s = .next t) : TargetsDerived t := by
  cases hc : portRequest c with
  | some pr => exact exec_request_derived h hc ht
  | none =>
    cases c with
    | startUp cause sense address => exact (Outcome.next.inj ht) ▸ settleLine_derived _ startUp_derived
    | resetAsserted => exact (Outcome.next.inj ht) ▸ derived_of_frame h ⟨rfl, rfl, rfl, rfl, rfl, rfl, rfl⟩
    | samplePeriod tdm line => exact running_derived h (samplePeriod_derived h) ht
    | frameBoundary sense early => exact running_derived h (frameBoundary_derived h) ht
    | badFrameRun i => exact running_derived h (badFrameRun_derived h) ht
    | wallSenseChange w => exact running_derived h (wallSenseChange_derived h) ht
    | gateHoldExpiry m => exact running_derived h (gateHoldExpiry_derived h) ht
    | queueExpiry m => exact running_derived h (pieceAhead_derived h) ht
    | speechWarn m => exact running_derived h (pieceAhead_derived h) ht
    | speechExpiry m => exact running_derived h (pieceAhead_derived h) ht
    | attemptFail i => exact running_derived h (attemptFail_derived h) ht
    | dozeHandshakeTimeout i => exact running_derived h (dozeTimeout_derived h) ht
    | detachHandshakeTimeout i => exact running_derived h (detachTimeout_derived h) ht
    | residencyMet i => exact running_derived h (residencyMet_derived h) ht
    | autoUp i => exact running_derived h (autoUpEvent_derived h) ht
    | batchApplication p => exact running_derived h (applyCommitted_derived p h) ht
    | batchIdleTimeout p => exact running_derived h (batchIdleTimeout_derived h) ht
    | regroupSwitch => exact running_derived h (regroupSwitch_derived h) ht
    | regroupDone => exact running_derived h (regroupDone_derived h) ht
    | upstreamFrameArrival i bytes => exact running_derived h (upstreamArrival_derived h) ht
    | hello i kind buttons slide => exact running_derived h (takeHello_derived h) ht
    | buttonMute i seq => exact running_derived h (takeButton_derived h) ht
    | buttonTalk i seq => exact running_derived h (takeButton_derived h) ht
    | buttonAll i seq => exact running_derived h (takeButton_derived h) ht
    | dozeAck i => exact running_derived h (takeDozeAck_derived h) ht
    | dozeNak i => exact running_derived h (takeDozeNak_derived h) ht
    | detachAck i => exact running_derived h (takeDetachAck_derived h) ht
    | faultReport i code => exact running_derived h (takeFaultReport_derived h) ht
    | wake i => exact running_derived h (takeWake_derived h) ht
    | portACharacterReceived c => exact running_derived h (withLineA_derived h) ht
    | portALineEnd => exact running_derived h (endOfLine_derived h) ht
    | portALineSent => exact running_derived h (lineSent_derived h) ht
    | portBWriteTransaction a bytes => exact running_derived h (portBWrite_derived h) ht
    | portBReadTransaction a count => exact running_derived h (portBRead_derived h) ht
    | loadComplete ok => exact running_derived h (loadComplete_derived h) ht
    | captureCopy b => exact running_derived h (captureCopy_derived h) ht
    | storeComplete ok => exact running_derived h (storeComplete_derived h) ht
    | amendComplete ok verified => exact running_derived h (amendComplete_derived h) ht
    | eraseComplete => exact running_derived h (eraseComplete_derived h) ht
    | eraseStage => exact running_derived h (eraseStage_derived h) ht
    | _ => exact nomatch hc

end

/-- Settles O24: every operation of the part either moves nothing that a target depends on, or ends by deriving every target. -/
theorem everyStepKeepsTargetsDerived : Obligations.EveryStepKeepsTargetsDerived := by
  intro s t h ht
  unfold step at ht
  split at ht
  · cases ht
    exact h
  · rename_i c rest _
    have hrest : TargetsDerived { s with pending := rest } := h
    exact exec_derived hrest ht

end Sys2Proof.Machine
end

section
/-! SUPPORT. A ramp's course over whole steps (R55, R56). -/

namespace Sys2Proof.Machine

theorem rampStep_pos (code : Nat) : 0 < rampStep code := by
  unfold rampStep
  split_ifs <;> omega

theorem rampLength_le_iff {distance step n : Nat} (hstep : 0 < step) : rampLength distance step ≤ n ↔ distance ≤ n * step := by
  rw [rampLength, Nat.div_le_iff_le_mul_add_pred hstep, Nat.mul_comm]
  omega

/-- Where a ramp stands after `n` steps: `n` whole steps on, cut at its target. -/
theorem stepToward_iterate (value target step n : Nat) : (stepToward · target step)^[n] value =
    if value ≤ target then min (value + n * step) target else max (value - n * step) target := by
  induction n with
  | zero => simp only [Function.iterate_zero, id_eq]; split <;> omega
  | succ n ih =>
    rw [Function.iterate_succ_apply', ih, Nat.succ_mul]
    unfold stepToward
    split <;> split <;> omega

theorem env_iterate (e : Env) (n : Nat) :
    Env.step^[n] e = { e with value := (stepToward · e.target (rampStep e.code))^[n] e.value } := by
  induction n with
  | zero => rfl
  | succ n ih => rw [Function.iterate_succ_apply', ih, Function.iterate_succ_apply']; rfl

/-- Settles O9: after `n` steps the value stands `n` whole steps on, cut at the target, which is the target exactly where those
steps cover the distance. -/
theorem rampTakesItsLength : Obligations.RampTakesItsLength := by
  intro e n
  have hlength := rampLength_le_iff (distance := max (e.value - e.target) (e.target - e.value)) (n := n) (rampStep_pos e.code)
  simp only [env_iterate, stepToward_iterate, hlength]
  refine ⟨trivial, trivial, ?_, ?_, ?_⟩ <;> split <;> omega

end Sys2Proof.Machine
end

section
/-! SUPPORT. Requests that place and release holds (R71 to R76, R80, R82): O29, O30, O31, O32 and O33. -/

namespace Sys2Proof.Machine
open Host

/-! ## An event of the mute unit -/

/-- The event that leads from `s` to `t` changes hold sets in the mute record alone, and no UNMUTE_ASK flag. -/
structure MuteEvent (s t : State) : Prop where
  port : ∀ q : Port, t.port q = s.port q
  asks : ∀ m : Fin 16, (t.mute.recs[micSource m]).ask = (s.mute.recs[micSource m]).ask
  gates : t.gates = s.gates
  env : t.env = s.env

theorem MuteEvent.refl (s : State) : MuteEvent s s := ⟨fun _ => rfl, fun _ => rfl, rfl, rfl⟩

/-- What follows a change of hold sets, after an event that changes the mute record alone (R59, R60, R71, R85, R99). -/
theorem MuteEvent.follows {s t : State} (h : MuteEvent s t) : HoldsFollow s (settleHolds s t) := by
  obtain ⟨-, -, -, -, hold, hgate⟩ := settleHolds_spec s t
  have hheld (i : Fin 26) : (settleHolds s t).heldSource i = t.heldSource i := heldSource_congr hold i
  have hends (m : Fin 16) : askEnds s t m = ((s.mute.recs[micSource m]).ask && losesHolds s (settleHolds s t) m) := by
    simp only [askEnds, losesHolds, hheld, Bool.and_assoc, h.asks]
  refine ⟨fun q => ?_, fun m => ?_, fun m => ?_, retarget_follows (by rw [followHolds_env, h.env])⟩
  · have hholds : holdsPosted s (settleHolds s t) = holdsNotices s t := by
      simp only [holdsPosted, hold]
      rfl
    have hasks : asksCleared s (settleHolds s t) = (mics.filter (askEnds s t)).map fun m => Notice.unmute m false .cleared := by
      simp only [asksCleared, ← hends]
      rfl
    rw [hholds, hasks, settleHolds, retarget_port, followHolds, clearAsks_port, post_port, closeHeld_port, postAll_append,
      h.port]
  · rw [settleHolds_recs, hends, ← h.asks]
    exact ask_cleared _ _
  · rw [hgate m, h.gates]
    simp only [takesHold, hheld, Bool.and_eq_true, Bool.not_eq_true', and_assoc, Gate.isOpen, decide_eq_true_eq]
    rfl

theorem targetOf_held {s : State} {i : Fin 26} (h : s.heldSource i = true) : s.targetOf i = 0 := if_pos h

/-! ## A port's class over a set of sources (R72) -/

theorem overSet_rec (set : Set26) (f : MuteRec → MuteRec) (s : State) (i : Fin 26) :
    (overSet set f s).mute.recs[i] = if set[i] then f s.mute.recs[i] else s.mute.recs[i] := by
  simp only [overSet, State.withRecs, tab_get]

/-- The port's class is turned on the sources of the set, and no other class on any. -/
theorem overSet_setClass (p : Port) (on : Bool) (set : Set26) (s : State) (i : Fin 26) :
    let r := s.mute.recs[i]
    (overSet set (MuteRec.setClass p on) s).mute.recs[i] =
      { r with chair := if p = .a ∧ set[i] = true then on else r.chair
               far := if p = .b ∧ set[i] = true then on else r.far } := by
  rw [overSet_rec]
  cases p <;> split <;> simp_all [MuteRec.setClass]

theorem overSet_event {s t : State} (h : MuteEvent s t) {p : Port} {on : Bool} {set : Set26} :
    MuteEvent s (overSet set (MuteRec.setClass p on) t) where
  port q := by rw [overSet, withRecs_port, h.port]
  asks m := by rw [overSet_setClass, ← h.asks m]
  gates := by rw [overSet, withRecs_gates, h.gates]
  env := by rw [overSet, withRecs_env, h.env]

/-- A change of the mute record that keeps its UNMUTE_ASK flags. -/
theorem newMute_event {s : State} {mu : Mute}
    (h : ∀ m : Fin 16, (mu.recs[micSource m]).ask = (s.mute.recs[micSource m]).ask) : MuteEvent s { s with mute := mu } :=
  ⟨fun q => by cases q <;> rfl, h, rfl, rfl⟩

/-- The state that settles after a port's class is turned over a set of sources. -/
theorem MuteEvent.settled_overSet {s t u : State} {p : Port} {on : Bool} {set : Set26} (h : MuteEvent s t)
    (hu : u = settleHolds s (overSet set (MuteRec.setClass p on) t)) :
    (∀ i : Fin 26, (u.mute.recs[i]).priv = (t.mute.recs[i]).priv
      ∧ (u.mute.recs[i]).chair = (if p = .a ∧ set[i] = true then on else (t.mute.recs[i]).chair)
      ∧ (u.mute.recs[i]).far = (if p = .b ∧ set[i] = true then on else (t.mute.recs[i]).far))
    ∧ u.mute.groupMuted = t.mute.groupMuted ∧ u.mute.quiet = t.mute.quiet ∧ HoldsFollow s u := by
  subst hu
  obtain ⟨-, hclasses, hgroups, hquiet, -⟩ := settleHolds_spec s (overSet set (MuteRec.setClass p on) t)
  obtain ⟨hgroupsKept, hquietKept⟩ : (overSet set (MuteRec.setClass p on) t).mute.groupMuted = t.mute.groupMuted
      ∧ (overSet set (MuteRec.setClass p on) t).mute.quiet = t.mute.quiet := by simp only [overSet, State.withRecs, and_self]
  exact ⟨fun i => by simpa only [overSet_setClass] using hclasses i, hgroups.trans hgroupsKept, hquiet.trans hquietKept,
    (overSet_event h).follows⟩

theorem targetSet_received (p : Port) (t : Target) (s : State) : (received p s).targetSet t = s.targetSet t := by
  have hpart (m : Fin 16) : (received p s).micPart m = s.micPart m := micPart_congr (by simp) (by simp) m
  simp only [State.targetSet, received_rg, hpart]

/-- Settles O29: the records are those of a class turned on over the target, and a source that carries a class has target 0. -/
theorem holdPlacesThePortsClass : Obligations.HoldPlacesThePortsClass := by
  intro p tg s set hready hset
  have hbody : (Request.hold tg).body p (s.port p).keep (received p s) = (placeHolds p set (received p s)).okReply := by
    simp only [Request.body, doHold, targetSet_received, hset]
  obtain ⟨hclasses, hgroups, hquiet, hfollow⟩ := (MuteEvent.refl _).settled_overSet (placeHolds.eq_def p set (received p s))
  have hderived : TargetsDerived (placeHolds p set (received p s)) := (settleHolds_spec ..).1
  refine ⟨placeHolds p set (received p s), exec_takes (r := .hold tg) rfl Request.noConfusion hready hbody rfl, fun i => ?_,
    by rw [hgroups, received_mute], by rw [hquiet, received_mute], hfollow, hderived, fun i hi => ?_⟩
  · obtain ⟨hpriv, hchair, hfar⟩ := hclasses i
    rw [hpriv, hchair, hfar, received_mute]
    cases p <;> cases set[i] <;> simp
  · obtain ⟨-, hchair, hfar⟩ := hclasses i
    rw [hderived i]
    refine targetOf_held ?_
    rw [State.heldSource, HoldSet.any, State.holdSet, hchair, hfar]
    cases p <;> simp [hi]

theorem anyHeldBy_iff {s : State} {p : Port} {set : Set26} : s.anyHeldBy p set = true ↔
    ∃ i : Fin 26, set[i] = true ∧ (if p = .a then (s.mute.recs[i]).chair else (s.mute.recs[i]).far) = true := by
  simp only [State.anyHeldBy, sources, List.any_eq_true, List.mem_finRange, true_and, Bool.and_eq_true]
  cases p <;> rfl

/-- Settles O30: the two outcomes are those of the test whether a source of the target carries the class. -/
theorem freeReleasesThePortsClass : Obligations.FreeReleasesThePortsClass := by
  intro p tg s set hready hset
  have hbody : (Request.free tg).body p (s.port p).keep (received p s) =
      if (received p s).anyHeldBy p set then (releaseHolds p set (received p s)).okReply else (received p s).refuse .notHeld := by
    simp only [Request.body, doFree, targetSet_received, hset]
  refine ⟨fun hcarried => ?_, fun hnone => ?_⟩
  · have hany : (received p s).anyHeldBy p set = true := by simpa only [anyHeldBy_iff, received_mute] using hcarried
    rw [if_pos hany] at hbody
    obtain ⟨hclasses, hgroups, hquiet, hfollow⟩ := (MuteEvent.refl _).settled_overSet (releaseHolds.eq_def p set (received p s))
    refine ⟨releaseHolds p set (received p s), exec_takes (r := .free tg) rfl Request.noConfusion hready hbody rfl,
      fun i => ?_, by rw [hgroups, received_mute], by rw [hquiet, received_mute], hfollow⟩
    obtain ⟨hpriv, hchair, hfar⟩ := hclasses i
    rw [hpriv, hchair, hfar, received_mute]
    cases p <;> cases set[i] <;> simp
  · have hany : ¬(received p s).anyHeldBy p set = true := by
      rw [anyHeldBy_iff, received_mute]
      rintro ⟨i, hi, hcarries⟩
      exact Bool.false_ne_true ((hnone i hi).symm.trans hcarries)
    rw [if_neg hany] at hbody
    exact exec_refuses (r := .free tg) rfl Request.noConfusion hready hbody rfl

/-! ## FREEALL (R75, R76) -/

theorem freeEverything_event (p : Port) (s : State) : ∃ t, MuteEvent s t ∧ freeEverything p s = settleHolds s t
    ∧ (∀ i : Fin 26, (t.mute.recs[i]).priv = (s.mute.recs[i]).priv
      ∧ (t.mute.recs[i]).chair = (if p = .a then false else (s.mute.recs[i]).chair) ∧ (t.mute.recs[i]).far = false)
    ∧ t.mute.groupMuted = (if p = .a then same 8 false else s.mute.groupMuted)
    ∧ t.mute.quiet = if p = .a then same 4 false else s.mute.quiet := by
  cases p
  case a => exact ⟨_, newMute_event fun m => by simp, rfl, by simp, rfl, rfl⟩
  case b => exact ⟨_, newMute_event fun m => by simp, rfl, by simp, rfl, rfl⟩

/-- FREEALL as either port's command: what is left in the mute record, and what follows. -/
theorem exec_freeAll {p : Port} {s : State} (hready : Ready s p .conference) :
    ∃ u, exec (.freeAll p) s = .next (answered p .freeAll .ok [] u)
      ∧ (∀ i : Fin 26, (u.mute.recs[i]).priv = (s.mute.recs[i]).priv
        ∧ (u.mute.recs[i]).chair = (if p = .a then false else (s.mute.recs[i]).chair) ∧ (u.mute.recs[i]).far = false)
      ∧ u.mute.groupMuted = (if p = .a then same 8 false else s.mute.groupMuted)
      ∧ u.mute.quiet = (if p = .a then same 4 false else s.mute.quiet)
      ∧ HoldsFollow (received p s) u := by
  obtain ⟨t, hevent, heq, hclasses, hgroups, hquiet⟩ := freeEverything_event p (received p s)
  obtain ⟨-, hkept, hgroupsKept, hquietKept, -⟩ := settleHolds_spec (received p s) t
  simp only [received_mute] at hclasses hgroups hquiet
  refine ⟨settleHolds (received p s) t, exec_takes (r := .freeAll) rfl Request.noConfusion hready (heq ▸ rfl) rfl,
    fun i => ?_, hgroupsKept.trans hgroups, hquietKept.trans hquiet, hevent.follows⟩
  obtain ⟨hpriv, hchair, hfar⟩ := hkept i
  rw [hpriv, hchair, hfar]
  exact hclasses i

/-- Settles O31: the two ports' cases of `exec_freeAll`. -/
theorem freeAllByPort : Obligations.FreeAllByPort := by
  intro s
  refine ⟨fun hready => ?_, fun hready => ?_⟩
  · obtain ⟨u, hexec, hclasses, hgroups, hquiet, hfollow⟩ := exec_freeAll hready
    refine ⟨u, hexec, hgroups, hquiet, fun i => ?_, hfollow⟩
    obtain ⟨hpriv, hchair, hfar⟩ := hclasses i
    exact ⟨hchair, hfar, hpriv⟩
  · obtain ⟨u, hexec, hclasses, hgroups, hquiet, hfollow⟩ := exec_freeAll hready
    refine ⟨u, hexec, hgroups, hquiet, fun i => ?_, hfollow⟩
    obtain ⟨hpriv, hchair, hfar⟩ := hclasses i
    exact ⟨hfar, hchair, hpriv⟩

/-! ## Groups (R70, R80) -/

theorem groupHeld_iff {s : State} {i : Fin 26} :
    s.groupHeld i = true ↔ ∃ k : Fin 8, (s.live.grp[k])[i] = true ∧ s.mute.groupMuted[k] = true := by
  simp only [State.groupHeld, List.any_eq_true, List.mem_finRange, true_and, Bool.and_eq_true, and_comm]

theorem setGroupMuted_event (g : Fin 8) (on : Bool) (s : State) : ∃ t, MuteEvent s t ∧ setGroupMuted g on s = settleHolds s t
    ∧ t.mute = { s.mute with groupMuted := put s.mute.groupMuted g on } ∧ t.live = s.live :=
  ⟨{ s with mute := { s.mute with groupMuted := put s.mute.groupMuted g on } }, newMute_event fun _ => rfl, rfl, rfl, rfl⟩

/-- A group's muted flag set or cleared: what is left, and what follows. -/
theorem setGroupMuted_spec (g : Fin 8) (on : Bool) (s : State) :
    let u := setGroupMuted g on s
    u.mute.groupMuted = s.mute.groupMuted.set g.val on
    ∧ (∀ i : Fin 26, (u.holdSet i).group = true ↔
        ∃ k : Fin 8, (s.live.grp[k])[i] = true ∧ (if k = g then on else s.mute.groupMuted[k]) = true)
    ∧ u.mute.quiet = s.mute.quiet
    ∧ (∀ i : Fin 26, (u.mute.recs[i]).priv = (s.mute.recs[i]).priv ∧ (u.mute.recs[i]).chair = (s.mute.recs[i]).chair
        ∧ (u.mute.recs[i]).far = (s.mute.recs[i]).far)
    ∧ HoldsFollow s u := by
  obtain ⟨t, hevent, heq, hmute, hlive⟩ := setGroupMuted_event g on s
  obtain ⟨-, hclasses, hgroups, hquiet, hold, -⟩ := settleHolds_spec s t
  rw [hmute] at hclasses hgroups hquiet
  have hgroup (i : Fin 26) : ((settleHolds s t).holdSet i).group = t.groupHeld i := by rw [hold i]; rfl
  rw [heq]
  refine ⟨hgroups, fun i => ?_, hquiet, hclasses, hevent.follows⟩
  rw [hgroup, groupHeld_iff]
  simp only [hmute, hlive, put_get]

/-- Settles O32: GROUP follows the muted flags, of which that of `g` alone is written. -/
theorem groupMuteSetsAndClears : Obligations.GroupMuteSetsAndClears := by
  intro p g s hready
  have hbody (on : Bool) : doGroupMute g.val on (received p s) = (setGroupMuted g on (received p s)).okReply := by
    rw [doGroupMute, index?_val]
  have hspec (on : Bool) := setGroupMuted_spec g on (received p s)
  simp only [received_mute, received_live] at hspec
  refine ⟨?_, ?_⟩
  · obtain ⟨hgroups, hheld, hquiet, hclasses, hfollow⟩ := hspec true
    refine ⟨_, exec_takes (r := .gmute g.val) rfl Request.noConfusion hready (hbody true) rfl, hgroups, fun i => ?_,
      ⟨hquiet, hclasses⟩, hfollow⟩
    rw [hheld i]
    refine exists_congr fun k => and_congr_right fun _ => ?_
    by_cases hk : k = g <;> simp [hk]
  · obtain ⟨hgroups, hheld, hquiet, hclasses, hfollow⟩ := hspec false
    refine ⟨_, exec_takes (r := .gunmute g.val) rfl Request.noConfusion hready (hbody false) rfl, hgroups, fun i => ?_,
      ⟨hquiet, hclasses⟩, hfollow⟩
    rw [hheld i]
    refine exists_congr fun k => ?_
    by_cases hk : k = g <;> simp [hk]

/-! ## QUIET (R82) -/

theorem quietSet_mic (s : State) (q : Fin 4) (m : Fin 16) :
    (s.quietSet q)[micSource m] = true ↔ s.micPart m = q ∧ s.isChair m = false := by
  simp only [State.quietSet, tab_get, sourceMic_micSource, Bool.and_eq_true, decide_eq_true_eq, Bool.not_eq_true']

theorem quietSet_notMic (s : State) (q : Fin 4) {i : Fin 26} (h : 16 ≤ i.val) : (s.quietSet q)[i] = false := by
  have hnone : sourceMic i = none := dif_neg (by omega)
  simp only [State.quietSet, tab_get, hnone]

theorem quietSet_received (p : Port) (q : Fin 4) (s : State) : (received p s).quietSet q = s.quietSet q := by
  have hpart (m : Fin 16) : (received p s).micPart m = s.micPart m := micPart_congr (by simp) (by simp) m
  simp only [State.quietSet, State.isChair, received_live, hpart]

theorem turnQuiet_event (q : Fin 4) (on : Bool) (s : State) : ∃ t, MuteEvent s t
    ∧ turnQuiet q on s = settleHolds s (overSet (s.quietSet q) (MuteRec.setClass .a on) t)
    ∧ t.mute = { s.mute with quiet := put s.mute.quiet q on } :=
  ⟨{ s with mute := { s.mute with quiet := put s.mute.quiet q on } }, newMute_event fun _ => rfl, rfl, rfl⟩

/-- Settles O33: a flag that changes turns CHAIR over the partition's non-chair microphones. -/
theorem quietActsOnNonChairs : Obligations.QuietActsOnNonChairs := by
  intro p q on s hready hlead
  have hbody : (Request.quiet q.val on).body p (s.port p).keep (received p s) =
      { state := if s.mute.quiet[q] = on then received p s else turnQuiet q on (received p s), status := .ok,
        data := [if on then 1 else 0] } := by
    simp only [Request.body, doQuiet, index?_val, received_rg, hlead, if_true, received_mute, bit]
  refine ⟨fun hsame => ?_, fun hchanges => ?_⟩
  · rw [if_pos hsame] at hbody
    exact exec_takes (r := .quiet q.val on) rfl Request.noConfusion hready hbody rfl
  · rw [if_neg hchanges] at hbody
    obtain ⟨t, hevent, heq, hmute⟩ := turnQuiet_event q on (received p s)
    obtain ⟨hclasses, hgroups, hquiet, hfollow⟩ := hevent.settled_overSet heq
    rw [hmute, received_mute] at hgroups hquiet
    simp only [hmute, received_mute, quietSet_received, true_and, reduceCtorEq, false_and, if_false] at hclasses
    refine ⟨turnQuiet q on (received p s), exec_takes (r := .quiet q.val on) rfl Request.noConfusion hready hbody rfl,
      hquiet, fun m => ?_, fun i hi => ?_, fun i => ?_, hgroups, hfollow⟩
    · obtain ⟨-, hchair, -⟩ := hclasses (micSource m)
      simpa only [quietSet_mic] using hchair
    · obtain ⟨-, hchair, -⟩ := hclasses i
      simpa only [quietSet_notMic s q hi, Bool.false_eq_true, if_false] using hchair
    · obtain ⟨hpriv, -, hfar⟩ := hclasses i
      exact ⟨hpriv, hfar⟩

end Sys2Proof.Machine
end

section
/-! SUPPORT. DISMISS (R85, R86): O34. -/

namespace Sys2Proof.Machine
open Host

theorem doDismiss_mics {tg : Target} {s : State} {set : Set26} (hset : s.targetSet tg = some set)
    (hmic : ∀ n, tg = .source n → n < 16) : doDismiss tg s = (dismissAsks set s).okReply := by
  cases tg with
  | source n => simp only [doDismiss, hset, hmic n rfl, if_true]
  | partition n => simp only [doDismiss, hset]
  | allMics => simp only [doDismiss, hset]

/-- DISMISS moves the mute record and posts its notices, no more (R86). -/
theorem dismissAsks_frame (set : Set26) (s : State) : dismissAsks set s =
    State.post { s with mute := (dismissAsks set s).mute }
      ((mics.filter fun m => set[micSource m] && (s.mute.recs[micSource m]).ask).map fun m => .unmute m false .dismiss) := rfl

/-- Settles O34: DISMISS clears the flags of its target alone, and flags are no part of a hold set. -/
theorem dismissClearsAsks : Obligations.DismissClearsAsks := by
  intro p tg s set hready hset hmic
  have hbody : (Request.dismiss tg).body p (s.port p).keep (received p s) = (dismissAsks set (received p s)).okReply :=
    doDismiss_mics (by rw [targetSet_received, hset]) hmic
  refine ⟨dismissAsks set (received p s), exec_takes (r := .dismiss tg) rfl Request.noConfusion hready hbody rfl, ?_,
    fun m => ?_, fun i => ?_⟩
  · exact (dismissAsks_frame set (received p s)).trans (by simp only [received_mute])
  · rw [dismissAsks, clearAsks_rec, received_mute, Bool.and_comm]
    exact ask_cleared _ _
  · exact (clearAsks_holdSet ..).trans (holdSet_congr (received_mute ..) (received_live ..) (received_links ..) i)

end Sys2Proof.Machine
end

section
/-! SUPPORT. Requests refused for their class, for an operand out of its range, or outside a CHAIRED partition (R72, R80, R82, R86,
R105, R144, R146, R155, R157, R164): O48. -/

namespace Sys2Proof.Machine
open Host

/-! ## The class (R144) -/

theorem eq_clear_of_portRequest {c : Instr} {p : Port} (h : portRequest c = some (p, .clear)) : c = .clear p := by
  cases c <;> simp_all [portRequest]

theorem requestClear_denied {p : Port} {s : State} (h : allows (s.port p).profile .system = false) :
    requestClear p s = request p .clear s := if_neg (by simp [h])

theorem exec_denied {c : Instr} {p : Port} {r : Request} {s : State} (hc : portRequest c = some (p, r)) (hh : s.held = false)
    (hden : allows (s.port p).profile r.reqClass = false) : exec c s = .next (refused p r.name .access s) := by
  have hanswer : running (request p r) s = .next (refused p r.name .access s) := by
    rw [running_next _ s hh, request_denied p r s hden]
    rfl
  by_cases hr : r = .clear
  · subst hr
    rw [eq_clear_of_portRequest hc, ← hanswer]
    simp only [exec, execClear, running_next _ s hh, requestClear_denied hden]
  · rw [exec_request c p r s hc hr, hanswer]

/-! ## Operands out of range -/

theorem index?_none {n k : Nat} (h : n ≤ k) : index? n k = none := dif_neg (Nat.not_lt.2 h)

section
variable {p : Port} {s : State} {n : Nat}

theorem doSelect_outOfRange {t v k : Nat} (h : tableOf t = none ∨ viewOf v = none
      ∨ ∃ tb, tableOf t = some tb ∧ (entryCount tb ≤ k ∨ (isStatus tb = true ∧ v ≠ 0))) :
    doSelect p t v k s = s.refuse .badOperand := by
  have hcursor : cursorOf t v k = none := by
    rcases h with h | h | ⟨tb, htb, hk | ⟨hstatus, hv⟩⟩
    · simp only [cursorOf, h]
    · simp only [cursorOf, h]
      cases tableOf t <;> rfl
    · cases hview : viewOf v <;> simp [cursorOf, htb, hview, Nat.not_lt.2 hk]
    · have hlive : viewOf v ≠ some .live := by
        rw [viewOf, if_neg hv]
        split_ifs <;> simp
      cases hview : viewOf v with
      | none => simp [cursorOf, htb, hview]
      | some view =>
        have hne : view ≠ .live := fun hl => hlive (hl ▸ hview)
        simp [cursorOf, htb, hview, hstatus, hne]
  simp only [doSelect, hcursor]

theorem doMask_outOfRange (h : 2 ^ 26 ≤ n) : doMask p n s = s.refuse .badOperand := by
  have hset : sourceSet n = none := if_neg (Nat.not_lt.2 h)
  simp only [doMask, hset]

theorem doWall_outOfRange {o : Override} (h : 3 ≤ n) : doWall p n o s = s.refuse .badOperand := by
  simp only [doWall, index?_none h]

theorem doGroupMute_outOfRange {on : Bool} (h : 8 ≤ n) : doGroupMute n on s = s.refuse .badOperand := by
  simp only [doGroupMute, index?_none h]

theorem doLink_outOfRange {req : LinkReq} (h : 16 ≤ n) : doLink n req s = s.refuse .badOperand := by
  simp only [doLink, index?_none h]

theorem doDismiss_badTarget {tg : Target} (h : s.targetSet tg = none) : doDismiss tg s = s.refuse .badOperand := by
  cases tg <;> simp only [doDismiss, h]

theorem doDismiss_notMic (h : 16 ≤ n) : doDismiss (.source n) s = s.refuse .badOperand := by
  cases hset : s.targetSet (.source n) with
  | none => exact doDismiss_badTarget hset
  | some set => simp only [doDismiss, hset, if_neg (Nat.not_lt.2 h)]

/-- A number that names no slot in use. -/
theorem doQuiet_outOfRange {on : Bool} (h : ∀ hn : n < 4, isLead s.rg.map ⟨n, hn⟩ = false) :
    doQuiet n on s = s.refuse .badOperand := by
  by_cases hn : n < 4
  · simp [doQuiet, index?, hn, h hn]
  · simp only [doQuiet, index?_none (Nat.not_lt.1 hn)]

theorem onPageBuf_outOfRange {k b : Nat} {f : Fin 32 → Fin 2 → State → Reply} (h : 32 ≤ k ∨ 2 ≤ b) :
    onPageBuf k b f s = s.refuse .badOperand := by
  rcases h with h | h
  · simp only [onPageBuf, index?_none h]
  · cases hk : index? 32 k <;> simp only [onPageBuf, hk, index?_none h]

theorem onBuf_outOfRange {f : Fin 2 → State → Reply} (h : 2 ≤ n) : onBuf n f s = s.refuse .badOperand := by
  simp only [onBuf, index?_none h]

theorem onPage_outOfRange {f : Fin 32 → State → Reply} (h : 32 ≤ n) : onPage n f s = s.refuse .badOperand := by
  simp only [onPage, index?_none h]

/-! ## Floor requests (R105) -/

theorem onSource_outOfRange {f : Fin 16 → State → Reply} (h : 16 ≤ n) : onSource n f s = s.refuse .badOperand := by
  simp only [onSource, State.floorSource, index?_none h]

theorem onSource_notChaired {m : Fin 16} {f : Fin 16 → State → Reply} (h : s.mode (s.micPart m) ≠ .chaired) :
    onSource m.val f s = s.refuse .wrongMode := by
  simp only [onSource, State.floorSource, index?_val, if_neg h]

theorem onSlot_outOfRange {f : Fin 4 → State → Reply} (h : ∀ hn : n < 4, isLead s.rg.map ⟨n, hn⟩ = false) :
    onSlot n f s = s.refuse .badOperand := by
  by_cases hn : n < 4
  · simp [onSlot, State.floorSlot, index?, hn, h hn]
  · simp only [onSlot, State.floorSlot, index?_none (Nat.not_lt.1 hn)]

theorem onSlot_notChaired {q : Fin 4} {f : Fin 4 → State → Reply} (hlead : isLead s.rg.map q = true) (h : s.mode q ≠ .chaired) :
    onSlot q.val f s = s.refuse .wrongMode := by
  simp only [onSlot, State.floorSlot, index?_val, hlead, if_true, if_neg h]

/-- The five requests on a microphone's floor entry make the same checks. -/
theorem sourceRequest_body {r : Request} (h : r = .ask n ∨ r = .withdraw n ∨ r = .release n ∨ r = .grant n ∨ r = .revoke n)
    (keep : Option Set26) : r ≠ .clear ∧ ∃ f, r.body p keep = onSource n f := by
  rcases h with rfl | rfl | rfl | rfl | rfl <;> exact ⟨Request.noConfusion, _, rfl⟩

theorem slotRequest_body {r : Request} (h : r = .grantNext n ∨ r = .clearQ n) (keep : Option Set26) :
    r ≠ .clear ∧ ∃ f, r.body p keep = onSlot n f := by
  rcases h with rfl | rfl <;> exact ⟨Request.noConfusion, _, rfl⟩

theorem received_mode (q : Fin 4) : (received p s).mode q = s.mode q :=
  mode_congr (received_live p s) (congrArg Regroup.map (received_rg p s)) q

theorem received_micPart (m : Fin 16) : (received p s).micPart m = s.micPart m :=
  micPart_congr (received_live p s) (congrArg Regroup.map (received_rg p s)) m

end

/-- Settles O48: each request's own check refuses the operand, before its state is looked at. -/
theorem refusedRequestsChangeNothing : Obligations.RefusedRequestsChangeNothing := by
  intro c p r s hc hh
  refine ⟨exec_denied hc hh, fun hallow => ⟨fun hrange => ?_, fun hmode => ?_⟩⟩
  · have hbad (hn : r ≠ .clear) (hb : r.body p (s.port p).keep (received p s) = (received p s).refuse .badOperand) :
        exec c s = .next (refused p r.name .badOperand s) := exec_refuses hc hn ⟨hh, hallow⟩ hb rfl
    rcases hrange with ⟨t, v, k, rfl, h⟩ | ⟨n, rfl, h⟩ | ⟨n, o, rfl, h⟩ | ⟨x, hr, h⟩ | ⟨n, rfl, h⟩ | ⟨n, hr, h⟩ | ⟨n, on, rfl, h⟩
      | ⟨n, hr, h⟩ | ⟨n, hr, h⟩ | ⟨n, req, rfl, h⟩ | ⟨k, b, hr, h⟩ | ⟨b, hr, h⟩ | ⟨k, rfl, h⟩
    · exact hbad Request.noConfusion (doSelect_outOfRange h)
    · exact hbad Request.noConfusion (doMask_outOfRange h)
    · exact hbad Request.noConfusion (doWall_outOfRange h)
    · have hset : (received p s).targetSet x = none := (targetSet_received p x s).trans h
      rcases hr with rfl | rfl | rfl
      · exact hbad Request.noConfusion (by simp only [Request.body, doHold, hset])
      · exact hbad Request.noConfusion (by simp only [Request.body, doFree, hset])
      · exact hbad Request.noConfusion (doDismiss_badTarget hset)
    · exact hbad Request.noConfusion (doDismiss_notMic h)
    · rcases hr with rfl | rfl <;> exact hbad Request.noConfusion (doGroupMute_outOfRange h)
    · exact hbad Request.noConfusion (doQuiet_outOfRange (by simpa only [received_rg] using h))
    · obtain ⟨hn, f, hbody⟩ := sourceRequest_body (p := p) hr (s.port p).keep
      exact hbad hn (hbody ▸ onSource_outOfRange h)
    · obtain ⟨hn, f, hbody⟩ := slotRequest_body (p := p) hr (s.port p).keep
      exact hbad hn (hbody ▸ onSlot_outOfRange (by simpa only [received_rg] using h))
    · exact hbad Request.noConfusion (doLink_outOfRange h)
    · rcases hr with rfl | rfl | rfl <;> exact hbad Request.noConfusion (onPageBuf_outOfRange h)
    · rcases hr with rfl | rfl <;> exact hbad Request.noConfusion (onBuf_outOfRange h)
    · exact hbad Request.noConfusion (onPage_outOfRange h)
  · have hwrong (hn : r ≠ .clear) (hb : r.body p (s.port p).keep (received p s) = (received p s).refuse .wrongMode) :
        exec c s = .next (refused p r.name .wrongMode s) := exec_refuses hc hn ⟨hh, hallow⟩ hb rfl
    rcases hmode with ⟨m, hr, h⟩ | ⟨q, hr, hlead, h⟩
    · obtain ⟨hn, f, hbody⟩ := sourceRequest_body (p := p) hr (s.port p).keep
      exact hwrong hn (hbody ▸ onSource_notChaired (by rwa [received_micPart, received_mode]))
    · obtain ⟨hn, f, hbody⟩ := slotRequest_body (p := p) hr (s.port p).keep
      exact hwrong hn (hbody ▸ onSlot_notChaired (by rwa [received_rg]) (by rwa [received_mode]))

end Sys2Proof.Machine
end

section
/-! SUPPORT. What the events of one link leave alone (R87, R118, R140): O47. -/

namespace Sys2Proof.Machine
open Host

/-- From `s` to `t` no link but `i` moved, each port took notices, of the audio plane the noise trackers alone moved, and nothing
else but the mute unit, gates, envelopes, floor records and Port A's line. -/
structure LinkEvent (i : Fin 16) (s t : State) : Prop where
  others : ∀ j : Fin 16, j ≠ i → t.links[j] = s.links[j]
  heard : Heard s t
  noise : t.audio = { s.audio with noise := t.audio.noise }
  frame : t = { s with links := t.links, mute := t.mute, gates := t.gates, env := t.env, floors := t.floors, audio := t.audio,
                       portA := t.portA, portB := t.portB, lineA := t.lineA }

namespace LinkEvent
variable {i : Fin 16} {s t u : State}

theorem refl (i : Fin 16) (s : State) : LinkEvent i s s := ⟨fun _ _ => rfl, .refl s, rfl, rfl⟩

theorem trans (h : LinkEvent i s t) (k : LinkEvent i t u) : LinkEvent i s u where
  others j hj := (k.others j hj).trans (h.others j hj)
  heard := h.heard.trans k.heard
  noise := k.noise.trans (congrArg (fun a : Audio => { a with noise := u.audio.noise }) h.noise)
  frame := k.frame.trans (congrArg (fun x : State => { x with
    links := u.links, mute := u.mute, gates := u.gates, env := u.env, floors := u.floors, audio := u.audio
    portA := u.portA, portB := u.portB, lineA := u.lineA }) h.frame)

theorem ite {c : Prop} [Decidable c] (h : LinkEvent i s t) (k : LinkEvent i s u) : LinkEvent i s (if c then t else u) := by
  split <;> assumption

/-! ## One unit's record replaced -/

theorem setLink (i : Fin 16) (l : LinkRec) (s : State) : LinkEvent i s (s.setLink i l) :=
  ⟨fun _ hj => put_other _ _ _ _ hj, .of_ports (setLink_port s i l), rfl, rfl⟩

theorem units (i : Fin 16) (s : State) (mu : Mute) (g : Vector Gate 16) (e : Vector Env 26) (f : Vector FloorRec 4) :
    LinkEvent i s { s with mute := mu, gates := g, env := e, floors := f } :=
  ⟨fun _ _ => rfl, .of_ports fun q => by cases q <;> rfl, rfl, rfl⟩

theorem post (i : Fin 16) (s : State) (ns : List Notice) : LinkEvent i s (s.post ns) :=
  ⟨fun _ _ => rfl, .post s ns, rfl, rfl⟩

theorem restartNoise (i : Fin 16) (s : State) : LinkEvent i s (s.restartNoise i) :=
  ⟨fun _ _ => rfl, .of_ports fun q => by cases q <;> rfl, rfl, rfl⟩

theorem settleLine (i : Fin 16) (s : State) : LinkEvent i s (Machine.settleLine s) where
  others j _ := by rw [settleLine_links]
  heard := .of_ports (settleLine_port s)
  noise := by rw [settleLine_audio]
  frame := by
    have h := settleLine_frame s
    generalize Machine.settleLine s = t at h ⊢
    rw [h]

/-! ## Operations of the mute unit and the floor unit -/

theorem retarget (i : Fin 16) (before s : State) : LinkEvent i s (Machine.retarget before s) :=
  units i s s.mute s.gates _ s.floors

theorem clearAsks (i : Fin 16) (test : Fin 16 → Bool) (cause : AskCause) (s : State) :
    LinkEvent i s (Machine.clearAsks test cause s) := (units i s _ s.gates s.env s.floors).trans (post i _ _)

theorem closeHeld (i : Fin 16) (before s : State) : LinkEvent i s (Machine.closeHeld before s) :=
  units i s s.mute _ s.env s.floors

theorem settleHolds (i : Fin 16) (before s : State) : LinkEvent i s (Machine.settleHolds before s) :=
  (((closeHeld i before s).trans (post i _ _)).trans (clearAsks i _ _ _)).trans (retarget i _ _)

theorem setFloor (i : Fin 16) (p : Fin 4) (c : FloorChange) (s : State) : LinkEvent i s (Machine.setFloor p c s) :=
  ((units i s s.mute s.gates s.env _).trans (post i _ _)).trans (retarget i _ _)

/-- A change of the link's state, in the parts of `moveLink_parts` (R140). -/
theorem moveLink (i : Fin 16) (l : LinkRec) (cause : LinkCause) (code : Option Byte) (f : MuteRec → MuteRec)
    (clears removes : Bool) (s : State) : LinkEvent i s (Machine.moveLink i l cause code f clears removes s) := by
  have hmoved : LinkEvent i s (linkMoved i l cause code f s) :=
    ((setLink i l s).trans (post i _ _)).trans (units i _ _ _ _ _)
  have hsettled (t : State) : LinkEvent i t (linkSettled i clears s t) :=
    ((closeHeld i s t).trans (post i _ _)).trans (clearAsks i _ _ _)
  have hderived := (hmoved.trans (hsettled _)).trans (retarget i s _)
  rw [moveLink_parts]
  exact ite (hderived.trans (setFloor i _ _ _)) hderived

end LinkEvent

/-! ## Pod messages (R125) -/

section
variable (i : Fin 16) (s : State)

theorem askMic_event (m : Fin 16) : LinkEvent i s (askMic m s).state := by
  simp only [askMic]
  split_ifs
  · exact .refl i s
  · exact .refl i s
  · exact .refl i s
  · exact .setFloor i _ _ s
  · exact .setFloor i _ _ s

theorem withdrawMic_event (m : Fin 16) : LinkEvent i s (withdrawMic m s).state := by
  simp only [withdrawMic]
  split
  · exact .setFloor i _ _ s
  · exact .refl i s

theorem endGrant_event (event : FloorEvent) (m : Fin 16) : LinkEvent i s (endGrant event m s).state := by
  simp only [endGrant]
  split
  · exact .setFloor i _ _ s
  · exact .refl i s

theorem talkFloor_event (m : Fin 16) : LinkEvent i s (talkFloor m s) :=
  .ite (.refl i s) (.ite (endGrant_event i s _ m) (.ite (withdrawMic_event i s m) (askMic_event i s m)))

theorem toggleAsk_event (m : Fin 16) : LinkEvent i s (toggleAsk m s) :=
  .ite ((LinkEvent.units i s _ s.gates s.env s.floors).trans (.post i _ _)) (.refl i s)

theorem actPress_event (b : Button) (m : Fin 16) : LinkEvent i s (actPress b m s) := by
  cases b with
  | mute => exact (LinkEvent.units i s _ s.gates s.env s.floors).trans (.settleHolds i s _)
  | talk => exact .ite (talkFloor_event i s m) (toggleAsk_event i s m)
  | all => exact .ite ((LinkEvent.units i s _ s.gates s.env s.floors).trans (.settleHolds i s _)) (.refl i s)

theorem takeHello_event (locked : Bool) (kind : Byte) (buttons : Vector Bool 3) (slide : Option Slide) :
    LinkEvent i s (takeHello locked kind buttons slide i s) := by
  have hactive : LinkEvent i s (enterActive kind buttons (slide.getD .disengaged) i s) :=
    (LinkEvent.restartNoise i s).trans (.moveLink i _ _ _ _ _ _ _)
  unfold takeHello
  split
  · exact .ite hactive (.refl i s)
  · exact .ite hactive (.refl i s)
  · exact .moveLink i _ _ _ _ _ _ s
  · exact .refl i s

theorem takeButton_event (b : Button) (seq : Bool) : LinkEvent i s (takeButton b seq i s) := by
  have hbit := LinkEvent.setLink i { s.links[i] with lastBit := seq } s
  simp only [takeButton]
  split
  · exact .refl i s
  · split
    · exact hbit.trans (actPress_event i _ b i)
    · exact hbit.trans (.moveLink i _ _ _ _ _ _ _)
    · exact .refl i s

theorem refuseDoze_event (cause : LinkCause) : LinkEvent i s (refuseDoze cause i s) :=
  (LinkEvent.setLink i _ s).trans (.post i _ _)

theorem takeDozeAck_event : LinkEvent i s (takeDozeAck i s) := .ite (.moveLink i _ _ _ _ _ _ s) (.refl i s)
theorem takeDozeNak_event : LinkEvent i s (takeDozeNak i s) := .ite (refuseDoze_event i s _) (.refl i s)
theorem takeDetachAck_event : LinkEvent i s (takeDetachAck i s) := .ite (.moveLink i _ _ _ _ _ _ s) (.refl i s)
theorem takeFaultReport_event (code : Byte) : LinkEvent i s (takeFaultReport code i s) :=
  .ite (.moveLink i _ _ _ _ _ _ s) (.refl i s)
theorem takeWake_event : LinkEvent i s (takeWake i s) := .ite (.moveLink i _ _ _ _ _ _ s) (.refl i s)

theorem takeMessage_event (locked : Bool) (msg : PodMessage) : LinkEvent i s (takeMessage locked msg i s) := by
  cases msg with
  | hello kind buttons slide => exact takeHello_event i s locked kind buttons slide
  | button b seq => exact takeButton_event i s b seq
  | dozeAck => exact takeDozeAck_event i s
  | dozeNak => exact takeDozeNak_event i s
  | detachAck => exact takeDetachAck_event i s
  | faultReport code => exact takeFaultReport_event i s code
  | wake => exact takeWake_event i s

theorem upstreamArrival_event (bytes : List Byte) : LinkEvent i s (upstreamArrival i bytes s) := by
  simp only [upstreamArrival]
  split
  · split
    · split
      · exact (LinkEvent.setLink i _ s).trans (takeMessage_event i _ _ _)
      · exact .setLink i _ s
    · exact .setLink i _ s
  · exact .refl i s

/-! ## The timed rows (R128, R130, R131, R134, R136, R137) -/

theorem badFrameRun_event : LinkEvent i s (badFrameRun i s) :=
  .ite ((LinkEvent.setLink i _ s).trans (.moveLink i _ _ _ _ _ _ _)) (.refl i s)

theorem failAttempt_event : LinkEvent i s (failAttempt i s) :=
  .ite ((LinkEvent.setLink i _ s).trans (.moveLink i _ _ _ _ _ _ _)) (.setLink i _ s)

theorem attemptFail_event : LinkEvent i s (attemptFail i s) := .ite (failAttempt_event i s) (.refl i s)
theorem dozeTimeout_event : LinkEvent i s (dozeTimeout i s) := .ite (refuseDoze_event i s _) (.refl i s)
theorem detachTimeout_event : LinkEvent i s (detachTimeout i s) := .ite (.moveLink i _ _ _ _ _ _ s) (.refl i s)

theorem residencyMet_event : LinkEvent i s (residencyMet i s) := by
  have hmet := LinkEvent.setLink i { s.links[i] with residency := Config.residencyTop } s
  exact .ite (.ite (hmet.trans (.moveLink i _ _ _ _ _ _ _)) hmet) (.refl i s)

theorem autoUpEvent_event : LinkEvent i s (autoUpEvent i s) := .ite (.moveLink i _ _ _ _ _ _ s) (.refl i s)

end

/-- A command whose effect is an event of link `i` moves Port A's line besides, and in reset nothing. -/
theorem linkEvent_of_running {f : State → State} {i : Fin 16} {s t : State} (hf : LinkEvent i s (f s))
    (h : running f s = .next t) : LinkEvent i s t := by
  cases hh : s.held
  · rw [eq_of_running hh h]
    exact hf.trans (.settleLine i _)
  · rw [eq_of_running_held hh h]
    exact .refl i s

/-- Settles O47: each command of a link is a `LinkEvent` of that link. -/
theorem linkEventsFrame : Obligations.LinkEventsFrame := by
  intro c i s t ht hc
  have hevent : LinkEvent i s t := by
    rcases hc with ⟨b, rfl⟩ | ⟨k, b, x, rfl⟩ | ⟨q, rfl⟩ | ⟨q, rfl⟩ | ⟨q, rfl⟩ | rfl | rfl | rfl | ⟨x, rfl⟩ | rfl | rfl | rfl | rfl
      | rfl | rfl | rfl
    · exact linkEvent_of_running (upstreamArrival_event i s b) ht
    · exact linkEvent_of_running (takeHello_event i s _ k b x) ht
    · exact linkEvent_of_running (takeButton_event i s .mute q) ht
    · exact linkEvent_of_running (takeButton_event i s .talk q) ht
    · exact linkEvent_of_running (takeButton_event i s .all q) ht
    · exact linkEvent_of_running (takeDozeAck_event i s) ht
    · exact linkEvent_of_running (takeDozeNak_event i s) ht
    · exact linkEvent_of_running (takeDetachAck_event i s) ht
    · exact linkEvent_of_running (takeFaultReport_event i s x) ht
    · exact linkEvent_of_running (takeWake_event i s) ht
    · exact linkEvent_of_running (badFrameRun_event i s) ht
    · exact linkEvent_of_running (attemptFail_event i s) ht
    · exact linkEvent_of_running (dozeTimeout_event i s) ht
    · exact linkEvent_of_running (detachTimeout_event i s) ht
    · exact linkEvent_of_running (residencyMet_event i s) ht
    · exact linkEvent_of_running (autoUpEvent_event i s) ht
  refine ⟨hevent.others, hevent.frame, fun q => ?_, hevent.noise⟩
  obtain ⟨ns, hport⟩ := hevent.heard q
  rw [hport]
  exact postAll_frame _ _

end Sys2Proof.Machine
end

section
/-! SUPPORT. The LINK requests (R137 to R140): O43. -/

namespace Sys2Proof.Machine
open Host

/-! ## A link's record replaced without a change of its state -/

section
variable {i : Fin 16} {l : LinkRec} {s : State} (hl : l.state = (s.links[i]).state)
include hl

theorem setLink_state (m : Fin 16) : ((s.setLink i l).links[m]).state = (s.links[m]).state := by
  by_cases hm : m = i
  · rw [hm, setLink_link, hl]
  · rw [State.setLink, put_other _ _ _ _ hm]

theorem setLink_holdSet (j : Fin 26) : (s.setLink i l).holdSet j = s.holdSet j :=
  holdSet_of_classes ⟨rfl, rfl, rfl⟩ rfl rfl (setLink_state hl)

/-- The notices of a change of state are those that the state before the record's replacement gives (R140). -/
theorem LinkPosts.of_setLink {u : State} {cause : LinkCause} {code : Option Byte} (h : LinkPosts (s.setLink i l) u i cause code) :
    LinkPosts s u i cause code := fun q => by
  have hposted : linkPosted (s.setLink i l) u i cause code = linkPosted s u i cause code := by
    simp only [linkPosted, holdsPosted, asksCleared, losesHolds, State.heldSource, setLink_holdSet hl, setLink_state hl]
    rfl
  rw [h q, setLink_port, hposted]

end

/-! ## A LINK request as a command (R138) -/

/-- A link's record with its requested field written (R138). -/
def LinkRec.asked (req : LinkReq) (l : LinkRec) : LinkRec := { l with requested := req }

section
variable (req : LinkReq) (l : LinkRec)

@[simp] theorem asked_state : (l.asked req).state = l.state := rfl
@[simp] theorem asked_armed : (l.asked req).armed = l.armed := rfl
@[simp] theorem asked_residency : (l.asked req).residency = l.residency := rfl

end

/-- The state after a LINK request on port `p` that leaves `x` as link `i`'s record and moves no other unit. -/
def linkRequested (p : Port) (i : Fin 16) (x : LinkRec) (s : State) : State :=
  { received p s with links := s.links.set i.val x }

section
variable {p : Port} {i : Fin 16} {s : State}

theorem setLink_received (x : LinkRec) : (received p s).setLink i x = linkRequested p i x s := by
  simp only [State.setLink, linkRequested, received_links, put]

theorem linkRequested_link (x : LinkRec) : (linkRequested p i x s).links[i] = x := by
  rw [← setLink_received, setLink_link]

theorem linkRequested_setLink (x y : LinkRec) : (linkRequested p i x s).setLink i y = linkRequested p i y s := by
  simp only [State.setLink, linkRequested, put, Vector.set_set]

theorem linkRequested_micPart (x : LinkRec) (m : Fin 16) : (linkRequested p i x s).micPart m = s.micPart m :=
  received_micPart m

theorem linkRequested_insideFrame (x : LinkRec) : (linkRequested p i x s).insideFrame = decide (s.periods ≠ 0) := by
  simp only [State.insideFrame, linkRequested, received_periods]

theorem linkRequested_autoUp (x : LinkRec) : (linkRequested p i x s).autoUp = s.autoUp := received_autoUp p s

theorem doLink_eq (req : LinkReq) (t : State) : doLink i.val req t =
    let a := linkAction req i (t.setLink i ((t.links[i]).asked req))
    { state := a.1, status := .ok, data := [dispositionCode a.2, linkStateCode (a.1.links[i]).state] } := by
  rw [doLink, index?_val]
  rfl

/-- A LINK request is answered with the disposition that the table of R139 gives on the requested field written. -/
theorem exec_link {c : Instr} {req : LinkReq} {u : State} {d : Disposition} (hc : portRequest c = some (p, .link i.val req))
    (hready : Ready s p .config) (h : linkAction req i (linkRequested p i ((s.links[i]).asked req) s) = (u, d)) :
    exec c s = .next (answered p .link .ok [dispositionCode d, linkStateCode (u.links[i]).state] u) :=
  exec_takes hc Request.noConfusion hready (by rw [Request.body, doLink_eq, received_links, setLink_received, h]) rfl

/-- A change of state made by a LINK request posts what R140 lists. -/
theorem linkRequested_posts {x l : LinkRec} {f : MuteRec → MuteRec} {clears removes : Bool} (hx : x.state = (s.links[i]).state)
    (hf : ∀ r, (f r).ask = r.ask) (hc : clears = l.state.out) (hr : removes = (l.state.out || decide (l.state = .doze))) :
    LinkPosts (received p s) (moveLink i l .request none f clears removes (linkRequested p i x s)) i .request none := by
  rw [← setLink_received]
  exact (moveLink_posts i l .request none f clears removes _ hf hc hr).of_setLink (by rw [hx, received_links])

end

/-- Entry to DOWN at a request, whose first boundary is the next FRAME_BOUNDARY (R137, log 29). -/
theorem enterDown_request_eq (cause : LinkCause) (i : Fin 16) (s : State) : enterDown cause false i s =
    moveLink i ((s.links[i]).downed false s.autoUp[i]) cause none MuteRec.dropPrivacy true true s := by
  simp only [enterDown, LinkRec.downed, Bool.and_false, Bool.false_and]
  rfl

/-! ## The cells of R139 that change the state -/

/-- A LINK request is TAKEN, moves link `i` to the state `st` with what goes with it (R140), and leaves what `done` says. -/
def LinkMoves (p : Port) (i : Fin 16) (req : LinkReq) (st : LinkState) (done : State → Prop) (s : State) : Prop :=
  ∃ u, linkAction req i (linkRequested p i ((s.links[i]).asked req) s) = (u, .taken)
    ∧ (u.links[i]).state = st ∧ (u.links[i]).requested = req ∧ LinkPosts (received p s) u i .request none ∧ done u

section
variable {p : Port} {i : Fin 16} {s : State}

/-- A cell whose action is a change of state to the record `x`. -/
theorem linkMoves_of_moveLink {req : LinkReq} {st : LinkState} {done : State → Prop} (x : LinkRec) (f : MuteRec → MuteRec)
    (clears removes : Bool) (hst : x.state = st) (hreq : x.requested = req) (hf : ∀ r, (f r).ask = r.ask) (hc : clears = st.out)
    (hr : removes = (st.out || decide (st = .doze)))
    (h : linkAction req i (linkRequested p i ((s.links[i]).asked req) s) =
      (moveLink i x .request none f clears removes (linkRequested p i ((s.links[i]).asked req) s), .taken))
    (hdone : done (moveLink i x .request none f clears removes (linkRequested p i ((s.links[i]).asked req) s))) :
    LinkMoves p i req st done s := by
  subst hst
  refine ⟨_, h, ?_, ?_, linkRequested_posts rfl hf hc hr, hdone⟩
  · rw [moveLink_links, put_same]
  · rw [moveLink_links, put_same, hreq]

theorem up_trains (hst : (s.links[i]).state = .down) (harm : (s.links[i]).armed = true) :
    LinkMoves p i .up .training (fun u => (u.links[i]).attemptTimer = 0 ∧ (u.links[i]).run = 0 ∧ (u.links[i]).lock = false
      ∧ (u.links[i]).attemptCount = (s.links[i]).attemptCount) s := by
  refine linkMoves_of_moveLink (((s.links[i]).asked .up).trained (decide (s.periods ≠ 0))) id false false rfl rfl (fun _ => rfl)
    rfl rfl ?_ ?_
  · simp only [linkAction, linkUp, linkRequested_link, asked_state, asked_armed, hst, harm, if_true, enterTraining_eq,
      linkRequested_insideFrame]
  · rw [moveLink_links, put_same]
    exact ⟨rfl, rfl, rfl, rfl⟩

theorem dropDoze_requested (l : LinkRec) : l.dropDoze.requested = l.requested := by
  unfold LinkRec.dropDoze
  split <;> rfl

/-- The two cells that enter RETRAIN (R133). -/
theorem retrains_of_action {req : LinkReq} (h : linkAction req i (linkRequested p i ((s.links[i]).asked req) s) =
      (enterRetrain .request i (linkRequested p i ((s.links[i]).asked req) s), .taken)) :
    LinkMoves p i req .retrain (fun u =>
      (u.links[i]).retrainCount = min ((s.links[i]).retrainCount + 1) (max 65535 (s.links[i]).retrainCount)
      ∧ (u.links[i]).handshake = (if (s.links[i]).handshake = .detach then .detach else .none)
      ∧ (u.links[i]).attemptTimer = 0 ∧ (u.links[i]).run = 0 ∧ (u.links[i]).lock = false ∧ u.floors = s.floors) s := by
  obtain ⟨hcount, -, hhs⟩ := retrained_spec (decide (s.periods ≠ 0)) ((s.links[i]).asked req)
  refine linkMoves_of_moveLink (((s.links[i]).asked req).retrained (decide (s.periods ≠ 0))) id false false rfl
    (dropDoze_requested _) (fun _ => rfl) rfl rfl ?_ ?_
  · rw [h, enterRetrain_eq, linkRequested_link, linkRequested_insideFrame]
  · rw [moveLink_links, put_same, moveLink_floors, if_neg Bool.false_ne_true]
    exact ⟨hcount, hhs, rfl, rfl, rfl, received_floors p s⟩

/-- What a change of state out of use leaves of the link's microphone: no PRIVACY, no UNMUTE_ASK, no floor entry. -/
def LeavesUse (i : Fin 16) (s u : State) : Prop :=
  (u.mute.recs[micSource i]).priv = false ∧ (u.mute.recs[micSource i]).ask = false
  ∧ ∀ r : FloorRec, u.floors[s.micPart i] = r → r.granted i = false ∧ r.queued i = false

theorem moveLink_leavesUse (x l : LinkRec) (cause : LinkCause) (code : Option Byte) :
    LeavesUse i s (moveLink i l cause code MuteRec.dropPrivacy true true (linkRequested p i x s)) := by
  obtain ⟨hpriv, hask⟩ := moveLink_out_rec i l cause code (linkRequested p i x s)
  have hgone := moveLink_gone i l cause code MuteRec.dropPrivacy true (linkRequested p i x s)
  simp only [FloorGone, settleLine_floors, settleLine_micPart, moveLink_micPart, linkRequested_micPart] at hgone
  rw [settleLine_mute] at hpriv hask
  exact ⟨hpriv, hask, hgone⟩

/-- The states from which UP returns a link to DOWN (R139). -/
theorem linkUp_downs (hst : (s.links[i]).state = .retrain ∨ (s.links[i]).state = .detached
      ∨ ((s.links[i]).state = .fault ∧ (s.links[i]).residency = 250)) :
    linkUp i s = (enterDown .request false i s, .taken) := by
  rcases hst with hst | hst | ⟨hst, hres⟩
  · simp only [linkUp, hst]
  · simp only [linkUp, hst]
  · simp only [linkUp, hst, hres, Config.residencyTop, if_true]

theorem up_downs (hst : (s.links[i]).state = .retrain ∨ (s.links[i]).state = .detached
      ∨ ((s.links[i]).state = .fault ∧ (s.links[i]).residency = 250)) :
    LinkMoves p i .up .down (fun u => (u.links[i]).armed = (s.autoUp[i] && decide ((s.links[i]).state ≠ .detached))
      ∧ (u.links[i]).autoPending = (u.links[i]).armed ∧ (u.links[i]).autoWait = false ∧ (u.links[i]).dozeRefused = false
      ∧ (u.links[i]).attemptCount = 0 ∧ (u.links[i]).handshake = .none ∧ (u.links[i]).identity = none ∧ LeavesUse i s u) s := by
  refine linkMoves_of_moveLink (((s.links[i]).asked .up).downed false s.autoUp[i]) MuteRec.dropPrivacy true true rfl rfl
    (fun _ => rfl) rfl rfl ?_ ?_
  · rw [linkAction, linkUp_downs (by simpa only [linkRequested_link, asked_state, asked_residency] using hst),
      enterDown_request_eq, linkRequested_link, linkRequested_autoUp]
  · have hleaves := moveLink_leavesUse (p := p) (i := i) (s := s) ((s.links[i]).asked .up)
      (((s.links[i]).asked .up).downed false s.autoUp[i]) .request none
    rw [moveLink_links, put_same]
    exact ⟨rfl, rfl, Bool.and_false _, rfl, rfl, rfl, rfl, hleaves⟩

theorem detach_detaches (hst : (s.links[i]).state = .down) : LinkMoves p i .detach .detached (LeavesUse i s) s := by
  refine linkMoves_of_moveLink { ((s.links[i]).asked .detach).noHandshake with
      state := .detached, lock := false, autoPending := false, autoWait := false } MuteRec.dropPrivacy true true rfl rfl
    (fun _ => rfl) rfl rfl ?_ (moveLink_leavesUse ..)
  simp only [linkAction, linkDetach, linkRequested_link, asked_state, hst, if_true, enterDetached_eq]

/-! ## The other cells (R139) -/

theorem nop_arms (hst : (s.links[i]).state = .down) : linkNop i s = (s.setLink i { s.links[i] with armed := true }, .taken) :=
  if_pos hst

theorem nop_ignored (hst : (s.links[i]).state ≠ .down) : linkNop i s = (s, .ignored) := if_neg hst

theorem up_clears_refusal (hst : (s.links[i]).state = .active) :
    linkUp i s = (s.setLink i { s.links[i] with dozeRefused := false }, .taken) := by simp only [linkUp, hst]

theorem up_retrains (hst : (s.links[i]).state = .doze) : linkUp i s = (enterRetrain .request i s, .taken) := by
  simp only [linkUp, hst]

theorem up_ignored (h : ((s.links[i]).state = .down ∧ (s.links[i]).armed = false) ∨ (s.links[i]).state = .training) :
    linkUp i s = (s, .ignored) := by
  rcases h with ⟨hst, harm⟩ | hst
  · simp only [linkUp, hst, harm, Bool.false_eq_true, if_false]
  · simp only [linkUp, hst]

theorem up_recorded (hst : (s.links[i]).state = .fault) (hres : (s.links[i]).residency ≠ 250) :
    linkUp i s = (s, .recorded) := by
  simp only [linkUp, hst]
  exact if_neg hres

/-- A handshake opened inside a frame does not count that frame (R127, log 29). -/
theorem openHandshake_requested (h : Handshake) (x : LinkRec) : openHandshake h i (linkRequested p i x s) =
    linkRequested p i { x with handshake := h, hsTimer := 0, hsFresh := decide (s.periods ≠ 0) } s := by
  rw [openHandshake, linkRequested_setLink, linkRequested_link, linkRequested_insideFrame]

theorem doze_opens (hst : (s.links[i]).state = .active) (href : (s.links[i]).dozeRefused = false)
    (hhs : (s.links[i]).handshake = .none) : linkDoze i s = (openHandshake .doze i s, .taken) := if_pos ⟨hst, href, hhs⟩

theorem doze_ignored (h : (s.links[i]).state ≠ .active ∨ (s.links[i]).dozeRefused = true ∨ (s.links[i]).handshake ≠ .none) :
    linkDoze i s = (s, .ignored) := by
  refine if_neg fun ⟨hst, href, hhs⟩ => ?_
  rcases h with h | h | h
  · exact h hst
  · exact Bool.false_ne_true (href.symm.trans h)
  · exact h hhs

theorem inUse_iff (st : LinkState) : st.inUse = true ↔ st = .training ∨ st = .active ∨ st = .doze ∨ st = .retrain :=
  decide_eq_true_iff

theorem detach_opens (hst : (s.links[i]).state.inUse = true) (hhs : (s.links[i]).handshake ≠ .detach) :
    linkDetach i s = (openHandshake .detach i s, .taken) := by
  have hdown : (s.links[i]).state ≠ .down := fun h => by
    rw [h] at hst
    exact absurd hst (by decide)
  exact (if_neg hdown).trans (if_pos ⟨hst, hhs⟩)

theorem detach_ignored (h : (s.links[i]).state = .detached ∨ (s.links[i]).state = .fault
      ∨ ((s.links[i]).state ≠ .down ∧ (s.links[i]).handshake = .detach)) : linkDetach i s = (s, .ignored) := by
  have hdown : (s.links[i]).state ≠ .down := by
    rcases h with hst | hst | ⟨hst, -⟩
    · rw [hst]; decide
    · rw [hst]; decide
    · exact hst
  refine (if_neg hdown).trans (if_neg fun ⟨huse, hhs⟩ => ?_)
  rcases h with hst | hst | ⟨-, hdetach⟩
  · exact absurd huse (by rw [hst]; decide)
  · exact absurd huse (by rw [hst]; decide)
  · exact hhs hdetach

theorem retrain_retrains (hst : (s.links[i]).state = .active) (hhs : (s.links[i]).handshake ≠ .detach) :
    linkRetrain i s = (enterRetrain .request i s, .taken) := if_pos ⟨hst, hhs⟩

theorem retrain_ignored (h : (s.links[i]).state ≠ .active ∨ (s.links[i]).handshake = .detach) :
    linkRetrain i s = (s, .ignored) := if_neg fun ⟨hst, hhs⟩ => h.elim (fun h => h hst) hhs

end

/-- Settles O43: each cell of R139's table by its lemma, answered as `exec_link` says. -/
theorem linkRequestsByState : Obligations.LinkRequestsByState := by
  intro p i s hready l code put answers ignored moves opens leaves
  have hcode (st : LinkState) : code st = linkStateCode st := by cases st <;> rfl
  have hanswers {c : Instr} {req : LinkReq} {u : State} {d : Disposition} {k : Nat}
      (hc : portRequest c = some (p, .link i.val req)) (hd : dispositionCode d = k)
      (h : linkAction req i (linkRequested p i (l.asked req) s) = (u, d)) : answers c k u := by
    subst hd
    simp only [answers, hcode]
    exact exec_link hc hready h
  have hmoves {c : Instr} {req : LinkReq} {st : LinkState} {done : State → Prop}
      (hc : portRequest c = some (p, .link i.val req)) (h : LinkMoves p i req st done s) : moves c req st done := by
    obtain ⟨u, hact, hrest⟩ := h
    exact ⟨u, hanswers hc rfl hact, hrest⟩
  have hasked {req : LinkReq} : (linkRequested p i (l.asked req) s).links[i] = l.asked req := linkRequested_link _
  have hrecord {req : LinkReq} (g : LinkRec → LinkRec) : ((linkRequested p i (l.asked req) s).setLink i
      (g (linkRequested p i (l.asked req) s).links[i]), Disposition.taken) = (linkRequested p i (g (l.asked req)) s, .taken) := by
    rw [linkRequested_setLink, hasked]
  have hopens {req : LinkReq} (h : Handshake) : (openHandshake h i (linkRequested p i (l.asked req) s), Disposition.taken) =
      (opens h req, .taken) := by
    rw [openHandshake_requested]
    rfl
  refine ⟨fun hst => ?_, fun hst => ?_, fun hst harm => ?_, fun hno => ?_, fun hst => ?_, fun hst => ?_, fun hst => ?_,
    fun hst hres => ?_, fun hst href hhs => ?_, fun hno => ?_, fun hst => ?_, fun hst hhs => ?_, fun hno => ?_, fun hst hhs => ?_,
    fun hno => ?_⟩
  · exact hanswers rfl rfl ((nop_arms (by rwa [hasked])).trans (hrecord fun x => { x with armed := true }))
  · exact hanswers rfl rfl (nop_ignored (by rwa [hasked]))
  · exact hmoves rfl (up_trains hst harm)
  · exact hanswers rfl rfl (up_ignored (by rwa [hasked]))
  · exact hanswers rfl rfl ((up_clears_refusal (by rwa [hasked])).trans (hrecord fun x => { x with dozeRefused := false }))
  · obtain ⟨u, hact, hstate, hreq, hposts, hcount, -, htimer, -⟩ :=
      retrains_of_action (p := p) (i := i) (req := .up) (s := s) (up_retrains (by rwa [hasked]))
    exact hmoves rfl ⟨u, hact, hstate, hreq, hposts, hcount, htimer⟩
  · exact hmoves rfl (up_downs hst)
  · exact hanswers rfl rfl (up_recorded (by rwa [hasked]) (by rwa [hasked]))
  · exact hanswers rfl rfl ((doze_opens (by rwa [hasked]) (by rwa [hasked]) (by rwa [hasked])).trans (hopens .doze))
  · exact hanswers rfl rfl (doze_ignored (by rwa [hasked]))
  · exact hmoves rfl (detach_detaches hst)
  · exact hanswers rfl rfl ((detach_opens (by rwa [hasked, asked_state, inUse_iff]) (by rwa [hasked])).trans (hopens .detach))
  · exact hanswers rfl rfl (detach_ignored (by rwa [hasked]))
  · obtain ⟨u, hact, hstate, hreq, hposts, hcount, hnone, hrest⟩ :=
      retrains_of_action (p := p) (i := i) (req := .retrain) (s := s) (retrain_retrains (by rwa [hasked]) (by rwa [hasked]))
    rw [if_neg hhs] at hnone
    exact hmoves rfl ⟨u, hact, hstate, hreq, hposts, hcount, hnone, hrest⟩
  · exact hanswers rfl rfl (retrain_ignored (by rwa [hasked]))

end Sys2Proof.Machine
end

section
/-! SUPPORT. The presses (R77, R82, R83, R85, R87, R117, R125, R126, R132): O35. -/

namespace Sys2Proof.Machine
open Host

/-! ## What follows a change of hold sets, from another state before and to another after -/

/-- A record of a link replaced without a change of its state, before the event, makes no difference to what follows it. -/
theorem HoldsFollow.of_setLink {i : Fin 16} {l : LinkRec} {s u : State} (hl : l.state = (s.links[i]).state)
    (h : HoldsFollow (s.setLink i l) u) : HoldsFollow s u := by
  obtain ⟨hport, hask, hgate, henv⟩ := h
  simp only [holdsPosted, asksCleared, losesHolds, takesHold, State.heldSource, setLink_holdSet hl, setLink_port]
    at hport hask hgate
  refine ⟨hport, hask, hgate, fun j => ?_⟩
  have hj := henv j
  rw [setLink_holdSet hl] at hj
  exact hj

theorem settleLine_targetOf (s : State) (j : Fin 26) : (settleLine s).targetOf j = s.targetOf j :=
  targetOf_congr (settleLine_mute s) (settleLine_live s) (settleLine_links s) (settleLine_gates s) (settleLine_floors s)
    (congrArg Regroup.map (settleLine_rg s)) j

/-- Port A's line is no part of what follows a change of hold sets. -/
theorem HoldsFollow.settleLine {s u : State} (h : HoldsFollow s u) : HoldsFollow s (settleLine u) := by
  obtain ⟨hport, hask, hgate, henv⟩ := h
  refine ⟨fun q => ?_, fun m => ?_, fun m => ?_, fun j => ?_⟩
  · simpa only [holdsPosted, asksCleared, losesHolds, State.heldSource, settleLine_holdSet, settleLine_port] using hport q
  · simpa only [losesHolds, State.heldSource, settleLine_holdSet, settleLine_mute] using hask m
  · have htakes : takesHold s (Machine.settleLine u) m = takesHold s u m := by
      simp only [takesHold, State.heldSource, settleLine_holdSet]
    rw [settleLine_gates, htakes]
    exact hgate m
  · rw [settleLine_env, settleLine_targetOf, settleLine_holdSet, settleLine_live, henv j]
    simp only [settleLine_micPart, State.lead, settleLine_live]

/-! ## A press by the state of its link (R126) -/

/-- The state with a press's sequence bit taken as the last accepted one. -/
def accepted (m : Fin 16) (seq : Bool) (s : State) : State := s.setLink m { s.links[m] with lastBit := seq }

/-- The command of a press (R125). -/
def pressOf (b : Button) (m : Fin 16) (seq : Bool) : Instr :=
  match b with
  | .mute => .buttonMute m seq
  | .talk => .buttonTalk m seq
  | .all => .buttonAll m seq

section
variable {b : Button} {m : Fin 16} {seq : Bool} {s : State}

theorem exec_press (hh : s.held = false) : exec (pressOf b m seq) s = .next (settleLine (takeButton b seq m s)) := by
  rw [← running_next _ s hh]
  cases b <;> rfl

theorem takeButton_ignored (h : (s.links[m]).lastBit = seq ∨ ((s.links[m]).state ≠ .active ∧ (s.links[m]).state ≠ .doze)) :
    takeButton b seq m s = s := by
  unfold takeButton
  by_cases hbit : (s.links[m]).lastBit = seq
  · exact if_pos hbit
  · obtain ⟨hactive, hdoze⟩ := h.resolve_left hbit
    refine (if_neg hbit).trans ?_
    split
    · exact absurd ‹_› hactive
    · exact absurd ‹_› hdoze
    · rfl

theorem takeButton_active (hst : (s.links[m]).state = .active) (hbit : (s.links[m]).lastBit ≠ seq) :
    takeButton b seq m s = actPress b m (accepted m seq s) := by
  simp only [takeButton, if_neg hbit, hst, accepted]

theorem takeButton_doze (hst : (s.links[m]).state = .doze) (hbit : (s.links[m]).lastBit ≠ seq) :
    takeButton b seq m s = enterRetrain .button m (accepted m seq s) := by
  simp only [takeButton, if_neg hbit, hst, accepted]

/-! ## A press that wakes the link (R132) -/

theorem put_self {α : Type} {n : Nat} (v : Vector α n) (i : Fin n) : put v i v[i] = v := Vector.set_getElem_self i.isLt

theorem clearAsks_none {test : Fin 16 → Bool} (cause : AskCause) (t : State) (h : ∀ x, test x = false) :
    (clearAsks test cause t).mute = t.mute := by
  have hrecs : (clearAsks test cause t).mute.recs = t.mute.recs := by
    refine Vector.ext fun k hk => ?_
    simp only [clearAsks, State.withRecs, post_mute, tab, Vector.getElem_ofFn, h, Bool.false_eq_true, if_false]
    split <;> rfl
  calc (clearAsks test cause t).mute = { t.mute with recs := (clearAsks test cause t).mute.recs } := rfl
    _ = t.mute := by rw [hrecs]

/-- LINK stands on a microphone whose link is not ACTIVE, whatever its state (R70). -/
theorem linkMoved_id_holdSet {l : LinkRec} {cause : LinkCause} (hs : (s.links[m]).state ≠ .active) (hl : l.state ≠ .active)
    (j : Fin 26) : (linkMoved m l cause none id s).holdSet j = s.holdSet j := by
  have hmute : (linkMoved m l cause none id s).mute = s.mute := by
    simp only [linkMoved, State.withRecs, id, put_self, post_mute, setLink_mute]
  have hlink : (linkMoved m l cause none id s).linkHeld j = s.linkHeld j := by
    unfold State.linkHeld
    cases sourceMic j with
    | none => rfl
    | some x =>
      simp only [linkMoved_links, put_get]
      split
      · rename_i hx
        rw [hx, decide_eq_true hs, decide_eq_true hl]
      · rfl
  have hgroup : (linkMoved m l cause none id s).groupHeld j = s.groupHeld j := groupHeld_congr (by rw [hmute]) rfl j
  simp only [State.holdSet, hmute, hlink, hgroup]

/-- A change of state that starts and ends outside ACTIVE moves no hold and no flag. -/
theorem moveLink_id_mute {l : LinkRec} {cause : LinkCause} (hs : (s.links[m]).state ≠ .active) (hl : l.state ≠ .active) :
    (moveLink m l cause none id false false s).mute = s.mute := by
  have hheld (j : Fin 26) := heldSource_congr (linkMoved_id_holdSet (cause := cause) hs hl) j
  have hnone (x : Fin 16) : askTest m false s (linkMoved m l cause none id s) x = false := by
    simp only [askTest, askEnds, hheld, Bool.false_eq_true, if_false, Bool.and_assoc, Bool.and_not_self, Bool.and_false]
  rw [moveLink_parts]
  simp only [Bool.false_eq_true, if_false, retarget_mute]
  rw [linkSettled, clearAsks_none _ _ hnone]
  simp only [linkMoved, State.withRecs, id, put_self, post_mute, closeHeld_mute, setLink_mute]

end

/-! ## TALK (R85, R87, R117) -/

theorem toggleAsk_spec (m : Fin 16) (s : State) :
    let asks := s.heldSource (micSource m) && !(s.mute.recs[micSource m]).priv
    ((toggleAsk m s).mute.recs[micSource m]).ask =
      (if asks then !(s.mute.recs[micSource m]).ask else (s.mute.recs[micSource m]).ask)
    ∧ (∀ i : Fin 26, (toggleAsk m s).holdSet i = s.holdSet i)
    ∧ (toggleAsk m s).links = s.links ∧ (toggleAsk m s).floors = s.floors
    ∧ ∀ p : Port, (toggleAsk m s).port p = (s.port p).postAll
        (if asks then [.unmute m (!(s.mute.recs[micSource m]).ask) .pod] else []) := by
  intro asks
  by_cases hasks : asks = true
  · have heq : toggleAsk m s = (s.withRecs (put s.mute.recs (micSource m) { s.mute.recs[micSource m] with
        ask := !(s.mute.recs[micSource m]).ask })).post [.unmute m (!(s.mute.recs[micSource m]).ask) .pod] := if_pos hasks
    rw [if_pos hasks, if_pos hasks, heq]
    refine ⟨congrArg MuteRec.ask (put_same ..), fun i => holdSet_of_classes ?_ rfl rfl fun _ => rfl, rfl, rfl,
      fun p => by rw [post_port, withRecs_port]⟩
    rw [post_mute, State.withRecs, put_get]
    split
    · rename_i hi
      rw [hi]
      exact ⟨rfl, rfl, rfl⟩
    · exact ⟨rfl, rfl, rfl⟩
  · have heq : toggleAsk m s = s := if_neg hasks
    rw [if_neg hasks, if_neg hasks, heq]
    exact ⟨rfl, fun _ => rfl, rfl, rfl, fun _ => rfl⟩

/-- TALK in a CHAIRED partition acts by the first of its cases (R117). -/
theorem talkFloor_chair {m : Fin 16} {s : State} (h : s.isChair m = true) : talkFloor m s = s := if_pos h

section
variable {m : Fin 16} {s : State} (hchair : s.isChair m = false)
include hchair

theorem talkFloor_granted (hg : (s.floors[s.micPart m]).granted m = true) : talkFloor m s =
    setFloor (s.micPart m) ((s.floors[s.micPart m]).ungrant m, [.floor (s.micPart m) m .released]) s := by
  simp only [talkFloor, State.floorOf, endGrant, hchair, hg, Bool.false_eq_true, if_false, if_true]

theorem talkFloor_queued (hg : (s.floors[s.micPart m]).granted m = false) (hq : (s.floors[s.micPart m]).queued m = true) :
    talkFloor m s = setFloor (s.micPart m) ((s.floors[s.micPart m]).unqueue m, [.floor (s.micPart m) m .withdrawn]) s := by
  simp only [talkFloor, State.floorOf, withdrawMic, hchair, hg, hq, Bool.false_eq_true, if_false, if_true]

theorem talkFloor_asks (hst : (s.links[m]).state = .active) (hg : (s.floors[s.micPart m]).granted m = false)
    (hq : (s.floors[s.micPart m]).queued m = false) : talkFloor m s =
      if (s.lead (s.micPart m)).autoGrant = true ∧ (s.floors[s.micPart m]).queue = []
          ∧ (s.floors[s.micPart m]).grants.length < (s.lead (s.micPart m)).speakerLimit
      then setFloor (s.micPart m) ((s.floors[s.micPart m]).addGrant m, [.floor (s.micPart m) m .granted]) s
      else setFloor (s.micPart m) ((s.floors[s.micPart m]).enqueue m, [.floor (s.micPart m) m .queued]) s := by
  simp only [talkFloor, askMic, State.floorOf, hchair, hg, hq, hst, ne_eq, not_true_eq_false, Bool.or_self, Bool.false_eq_true,
    if_false, Bool.and_eq_true, List.isEmpty_iff, decide_eq_true_eq, and_assoc]
  split <;> rfl

end

/-! ## MUTE (R77) -/

/-- The state with a microphone's PRIVACY toggled, before what follows it. -/
def privacyToggled (m : Fin 16) (s : State) : State :=
  s.withRecs (put s.mute.recs (micSource m) { s.mute.recs[micSource m] with priv := !(s.mute.recs[micSource m]).priv })

theorem togglePrivacy_eq (m : Fin 16) (s : State) : togglePrivacy m s = settleHolds s (privacyToggled m s) := rfl

theorem privacyToggled_rec (m : Fin 16) (s : State) (i : Fin 26) : (privacyToggled m s).mute.recs[i] =
    { s.mute.recs[i] with priv := if i = micSource m then !(s.mute.recs[i]).priv else (s.mute.recs[i]).priv } := by
  rw [privacyToggled, State.withRecs, put_get]
  split
  · rename_i hi
    rw [hi]
  · rfl

theorem privacyToggled_event (m : Fin 16) (s : State) : MuteEvent s (privacyToggled m s) :=
  ⟨withRecs_port s _, fun x => by rw [privacyToggled_rec], rfl, rfl⟩

theorem togglePrivacy_spec (m : Fin 16) (s : State) :
    let u := togglePrivacy m s
    (u.mute.recs[micSource m]).priv = !(s.mute.recs[micSource m]).priv
    ∧ (∀ i : Fin 26, (i ≠ micSource m → (u.mute.recs[i]).priv = (s.mute.recs[i]).priv)
      ∧ (u.mute.recs[i]).chair = (s.mute.recs[i]).chair ∧ (u.mute.recs[i]).far = (s.mute.recs[i]).far)
    ∧ u.mute.groupMuted = s.mute.groupMuted ∧ u.mute.quiet = s.mute.quiet ∧ HoldsFollow s u
    ∧ u.links = s.links ∧ u.floors = s.floors := by
  intro u
  obtain ⟨-, hclasses, hgroups, hquiet, -⟩ := settleHolds_spec s (privacyToggled m s)
  rw [← togglePrivacy_eq] at hclasses hgroups hquiet
  simp only [privacyToggled_rec] at hclasses
  refine ⟨?_, fun i => ⟨fun hi => ?_, (hclasses i).2⟩, hgroups, hquiet, (privacyToggled_event m s).follows,
    settleHolds_links .., settleHolds_floors ..⟩
  · exact (hclasses (micSource m)).1.trans (if_pos rfl)
  · exact (hclasses i).1.trans (if_neg hi)

/-! ## ALL (R83) -/

theorem turnQuiet_spec (q : Fin 4) (on : Bool) (s : State) :
    let u := turnQuiet q on s
    u.mute.quiet = put s.mute.quiet q on
    ∧ (∀ x : Fin 16, (u.mute.recs[micSource x]).chair =
        if s.micPart x = q ∧ s.isChair x = false then on else (s.mute.recs[micSource x]).chair)
    ∧ (∀ i : Fin 26, 16 ≤ i.val → (u.mute.recs[i]).chair = (s.mute.recs[i]).chair)
    ∧ (∀ i : Fin 26, (u.mute.recs[i]).priv = (s.mute.recs[i]).priv ∧ (u.mute.recs[i]).far = (s.mute.recs[i]).far)
    ∧ u.mute.groupMuted = s.mute.groupMuted ∧ HoldsFollow s u ∧ u.links = s.links ∧ u.floors = s.floors := by
  intro u
  obtain ⟨t, hevent, heq, hmute⟩ := turnQuiet_event q on s
  obtain ⟨hclasses, hgroups, hquiet, hfollow⟩ := hevent.settled_overSet heq
  simp only [hmute, true_and, reduceCtorEq, false_and, if_false] at hclasses hgroups hquiet
  have hlinks : u.links = s.links := by simp [u, turnQuiet, overSet]
  have hfloors : u.floors = s.floors := by simp [u, turnQuiet, overSet]
  refine ⟨hquiet, fun x => ?_, fun i hi => ?_, fun i => ?_, hgroups, hfollow, hlinks, hfloors⟩
  · obtain ⟨-, hchair, -⟩ := hclasses (micSource x)
    simpa only [quietSet_mic] using hchair
  · obtain ⟨-, hchair, -⟩ := hclasses i
    simpa only [quietSet_notMic s q hi, Bool.false_eq_true, if_false] using hchair
  · obtain ⟨hpriv, -, hfar⟩ := hclasses i
    exact ⟨hpriv, hfar⟩

/-! ## The statement -/

/-- A press that wakes a link in DOZE enters RETRAIN with its bit taken (R126, R132). -/
theorem press_wakes {m : Fin 16} {seq : Bool} {s : State} (hst : (s.links[m]).state = .doze) :
    let t := settleLine (enterRetrain .button m (accepted m seq s))
    (t.links[m]).state = .retrain ∧ (t.links[m]).lastBit = seq
    ∧ (t.links[m]).retrainCount = min ((s.links[m]).retrainCount + 1) (max 65535 (s.links[m]).retrainCount)
    ∧ t.mute = s.mute ∧ t.floors = s.floors ∧ LinkPosts s t m .button none := by
  intro t
  have hlink : (accepted m seq s).links[m] = { s.links[m] with lastBit := seq } := setLink_link ..
  obtain ⟨hstate, hcount, -, -, -, -, -, hfloors, hposts⟩ := enterRetrain_retrains .button m (accepted m seq s)
  rw [hlink] at hcount
  refine ⟨hstate, ?_, hcount, ?_, hfloors, LinkPosts.of_setLink (l := { s.links[m] with lastBit := seq }) rfl hposts⟩
  · have hkept : t.links[m] = ((accepted m seq s).links[m]).retrained (accepted m seq s).insideFrame := by
      rw [settleLine_links, enterRetrain_link]
    rw [hkept, hlink]
    simp only [LinkRec.retrained, LinkRec.beginAttempt, LinkRec.dropDoze]
    split <;> rfl
  · have hdoze : ((accepted m seq s).links[m]).state ≠ .active := by
      rw [hlink, hst]
      decide
    rw [settleLine_mute, enterRetrain_eq, moveLink_id_mute hdoze (by decide : LinkState.retrain ≠ .active)]
    rfl

/-- Settles O35: a press acts by the state of its link, and in ACTIVE as its button does. -/
theorem acceptedPressesInActive : Obligations.AcceptedPressesInActive := by
  intro m seq s hh l q r s1 set
  refine ⟨fun c hc => ?_, fun hst hnew => ?_⟩
  · obtain ⟨b, rfl⟩ : ∃ b, c = pressOf b m seq := by
      rcases hc with rfl | rfl | rfl
      · exact ⟨.mute, rfl⟩
      · exact ⟨.talk, rfl⟩
      · exact ⟨.all, rfl⟩
    refine ⟨fun hno => by rw [exec_press hh, takeButton_ignored hno], fun hnew hst => ?_⟩
    exact ⟨_, by rw [exec_press hh, takeButton_doze hst hnew], press_wakes hst⟩
  have hpress (b : Button) : exec (pressOf b m seq) s = .next (settleLine (actPress b m s1)) := by
    rw [exec_press hh, takeButton_active hst hnew]
    rfl
  have hbit {u : State} (h : u.links = s1.links) : ((settleLine u).links[m]).lastBit = seq := by
    rw [settleLine_links, h]
    exact congrArg LinkRec.lastBit (setLink_link ..)
  have hfollows {u : State} (h : HoldsFollow s1 u) : HoldsFollow s (settleLine u) :=
    HoldsFollow.settleLine (h.of_setLink (l := { s.links[m] with lastBit := seq }) rfl)
  have hchaired {u : State} (hmode : s.mode q = .chaired) (h : talkFloor m s1 = u) :
      exec (.buttonTalk m seq) s = .next (settleLine u) :=
    (hpress .talk).trans (congrArg (fun u => Outcome.next (settleLine u)) ((if_pos hmode).trans h))
  refine ⟨?_, fun hmode => ?_, fun hmode => ⟨fun hchair => ?_, fun hchair hg => ?_, fun hchair hg hq => ?_, fun hchair hg hq => ?_⟩,
    fun hchair => ?_, fun hchair => ?_⟩
  · obtain ⟨hpriv, hothers, hgroups, hquiet, hfollow, hlinks, hfloors⟩ := togglePrivacy_spec m s1
    refine ⟨_, hpress .mute, hbit hlinks, ?_⟩
    rw [settleLine_mute, settleLine_floors]
    exact ⟨hpriv, (hothers _).2.1, (hothers _).2.2, fun i hi => ⟨(hothers i).1 hi, (hothers i).2⟩, hgroups, hquiet,
      hfollows hfollow, hfloors⟩
  · intro asks
    obtain ⟨hask, hholds, hlinks, hfloors, hports⟩ := toggleAsk_spec m s1
    have htalk : actPress .talk m s1 = toggleAsk m s1 := if_neg hmode
    have hhold (i : Fin 26) : s1.holdSet i = s.holdSet i := setLink_holdSet (l := { s.links[m] with lastBit := seq }) rfl i
    rw [heldSource_congr hhold] at hask hports
    refine ⟨_, htalk ▸ hpress .talk, hbit hlinks, ?_⟩
    simp only [settleLine_mute, settleLine_floors, settleLine_holdSet, settleLine_port]
    exact ⟨hfloors, hask, fun i => (hholds i).trans (hhold i),
      fun p => (hports p).trans (congrArg (PortRec.postAll · _) (setLink_port s m _ p))⟩
  · exact hchaired hmode (talkFloor_chair (s := s1) hchair)
  · exact hchaired hmode (talkFloor_granted (s := s1) hchair hg)
  · exact hchaired hmode (talkFloor_queued (s := s1) hchair hg hq)
  · have hactive : (s1.links[m]).state = .active := (congrArg LinkRec.state (setLink_link ..)).trans hst
    exact (hchaired hmode (talkFloor_asks (s := s1) hchair hactive hg hq)).trans (congrArg Outcome.next (apply_ite settleLine ..))
  · exact (hpress .all).trans (congrArg (fun u => Outcome.next (settleLine u)) (if_neg (Bool.eq_false_iff.1 hchair)))
  · obtain ⟨hquiet, hmics, hothers, hkept, hgroups, hfollow, hlinks, hfloors⟩ := turnQuiet_spec q (!s.mute.quiet[q]) s1
    have hall : actPress .all m s1 = turnQuiet q (!s.mute.quiet[q]) s1 := if_pos hchair
    refine ⟨_, hall ▸ hpress .all, hbit hlinks, ?_⟩
    rw [settleLine_mute, settleLine_floors]
    exact ⟨hquiet, hmics, hothers, hkept, hgroups, hfollows hfollow, hfloors⟩

end Sys2Proof.Machine
end

section
/-! SUPPORT. Gates under every operation (R90, R91, R94, R99): what opens no gate and takes no microphone to another partition. -/

namespace Sys2Proof.Machine
open Host

/-! ## Gates that are closed alone, and partitions that stand -/

/-- The maps are maps of R20, and no batch in a committed list needs a switch. -/
def TablesSound (s : State) : Prop := MapsLegal s ∧ CommittedPlain s

/-- On sound tables the way from `s` to `t` leaves them sound and takes no microphone to another partition. -/
def TablesKept (s t : State) : Prop := TablesSound s → TablesSound t ∧ ∀ m : Fin 16, t.micPart m = s.micPart m

/-- From `s` to `t` no gate opened, and each microphone that took its first hold has its gate CLOSED (R99). -/
structure GatesClose (s t : State) : Prop where
  gates : ∀ m : Fin 16, t.gates[m] = s.gates[m] ∨ (t.gates[m]).state = .closed
  held : ∀ m : Fin 16, t.heldSource (micSource m) = true → s.heldSource (micSource m) = true ∨ (t.gates[m]).state = .closed

/-- From `s` to `t` no gate opened, and no microphone went to another partition: what every operation does but an evaluation, a
switch and a start-up event. -/
structure GatesShut (s t : State) : Prop extends GatesClose s t where
  tables : TablesKept s t

theorem MapsLegal.of_rg {s t : State} (h : MapsLegal s) (hr : t.rg = s.rg) : MapsLegal t := by
  unfold MapsLegal at *
  rwa [hr]

/-- Tables stand where the live tables, the map in force and the committed batches do, and the pending map stays one of R20. -/
theorem TablesKept.of_frame {s t : State} (hl : t.live = s.live) (hmap : t.rg.map = s.rg.map) (hmaps : MapsLegal s → MapsLegal t)
    (hc : ∀ p, (t.port p).committed = (s.port p).committed) : TablesKept s t := fun ⟨hlegal, hplain⟩ =>
  ⟨⟨hmaps hlegal, fun p b hb => hl ▸ hplain p b (hc p ▸ hb)⟩, micPart_congr hl hmap⟩

theorem TablesKept.trans {s t u : State} (h : TablesKept s t) (k : TablesKept t u) : TablesKept s u := fun hs => by
  obtain ⟨ht, hst⟩ := h hs
  obtain ⟨hu, htu⟩ := k ht
  exact ⟨hu, fun m => (htu m).trans (hst m)⟩

theorem HoldsKept.tables {s t : State} (h : HoldsKept s t) (hmaps : MapsLegal s → MapsLegal t) : TablesKept s t :=
  .of_frame h.live h.map hmaps h.committed

namespace GatesClose
variable {s t u : State}

/-- Gates and holds that stand as they were. -/
theorem of_still (hg : t.gates = s.gates) (hh : ∀ m : Fin 16, t.heldSource (micSource m) = s.heldSource (micSource m)) :
    GatesClose s t := ⟨fun m => .inl (by rw [hg]), fun m h => .inl ((hh m).symm.trans h)⟩

theorem closed (h : GatesClose s t) {m : Fin 16} (hm : (s.gates[m]).state = .closed) : (t.gates[m]).state = .closed := by
  rcases h.gates m with hg | hc
  · rw [hg, hm]
  · exact hc

theorem trans (h : GatesClose s t) (k : GatesClose t u) : GatesClose s u where
  gates m := by
    rcases k.gates m with hg | hc
    · rw [hg]
      exact h.gates m
    · exact .inr hc
  held m hu := by
    rcases k.held m hu with ht | hc
    · exact (h.held m ht).imp_right k.closed
    · exact .inr hc

/-- The gates of microphones that take their first hold are closed, and the others stand. -/
theorem of_gates (h : ∀ m : Fin 16, t.gates[m] =
    if takesHold s t m = true ∧ (s.gates[m]).state ≠ .closed then { state := .closed, counter := 0 } else s.gates[m]) :
    GatesClose s t where
  gates m := by
    rw [h]
    split
    · exact .inr rfl
    · exact .inl rfl
  held m ht := by
    cases hs : s.heldSource (micSource m) with
    | true => exact .inl rfl
    | false =>
      refine .inr ?_
      rw [h]
      split
      · rfl
      · next hno => exact not_not.1 fun hc => hno ⟨(takesHold_iff ..).2 ⟨hs, ht⟩, hc⟩

/-- What follows a change of hold sets opens no gate, and closes those of the microphones that take their first hold (R99). -/
theorem settleHolds (h : ∀ m : Fin 16, t.gates[m] = s.gates[m] ∨ (t.gates[m]).state = .closed) :
    GatesClose s (Machine.settleHolds s t) := by
  obtain ⟨-, -, -, -, hold, hgate⟩ := settleHolds_spec s t
  refine ⟨fun m => ?_, fun m ht => ?_⟩
  · rw [hgate]
    split
    · exact .inr rfl
    · exact h m
  · rw [heldSource_congr hold] at ht
    cases hs : s.heldSource (micSource m) with
    | true => exact .inl rfl
    | false =>
      refine .inr ?_
      rw [hgate]
      split
      · rfl
      · next hno => exact not_not.1 fun hc => hno ⟨hs, ht, decide_eq_true hc⟩

end GatesClose

namespace GatesShut
variable {s t u : State}

theorem refl (s : State) : GatesShut s s := ⟨.of_still rfl fun _ => rfl, fun h => ⟨h, fun _ => rfl⟩⟩

theorem trans (h : GatesShut s t) (k : GatesShut t u) : GatesShut s u :=
  ⟨h.toGatesClose.trans k.toGatesClose, h.tables.trans k.tables⟩

theorem foldl {α : Type} {f : State → α → State} (h : ∀ s x, GatesShut s (f s x)) (l : List α) (s : State) :
    GatesShut s (l.foldl f s) := by
  induction l generalizing s with
  | nil => exact .refl s
  | cons x l ih => exact (h s x).trans (ih (f s x))

theorem ite {c : Prop} [Decidable c] (h : GatesShut s t) (k : GatesShut s u) : GatesShut s (if c then t else u) := by
  split <;> assumption

/-- The same for the state of a request's reply. -/
theorem iteReply {c : Prop} [Decidable c] {a b : Reply} (h : GatesShut s a.state) (k : GatesShut s b.state) :
    GatesShut s (if c then a else b).state := by
  split <;> assumption

/-- Holds, gates, the regroup machine and the committed batches stand, and every link keeps its state. -/
theorem of_kept (h : HoldsKept s t) (hlinks : ∀ i : Fin 16, (t.links[i]).state = (s.links[i]).state)
    (hmaps : MapsLegal s → MapsLegal t) : GatesShut s t :=
  ⟨.of_still h.still.gates (heldSource_of_links h.still.mute h.live hlinks), h.tables hmaps⟩

/-- The units that gates and partitions depend on stand as they were. -/
theorem of_frame (k : t.mute = s.mute ∧ t.live = s.live ∧ t.links = s.links ∧ t.gates = s.gates ∧ t.rg = s.rg)
    (hc : ∀ p, (t.port p).committed = (s.port p).committed) : GatesShut s t := by
  obtain ⟨hmute, hlive, hlinks, hgates, hrg⟩ := k
  exact ⟨.of_still hgates (heldSource_of_links hmute hlive fun i => by rw [hlinks]),
    .of_frame hlive (congrArg Regroup.map hrg) (·.of_rg hrg) hc⟩

/-- `of_frame` for a state written out as `s` with other units replaced. -/
theorem of_units (h : t = { t with mute := s.mute, live := s.live, links := s.links, gates := s.gates, rg := s.rg
                                   portA := s.portA, portB := s.portB }) : GatesShut s t := by
  rw [h]
  exact of_frame ⟨rfl, rfl, rfl, rfl, rfl⟩ fun p => by cases p <;> rfl

/-- The regroup machine is replaced by one whose map in force stands. -/
theorem withRg {g : Regroup} (hmap : g.map = s.rg.map) (hmaps : MapsLegal s → MapsLegal { s with rg := g }) :
    GatesShut s { s with rg := g } :=
  .of_kept ⟨⟨rfl, rfl, rfl⟩, rfl, hmap, fun p => by cases p <;> rfl⟩ (fun _ => rfl) hmaps

end GatesShut

/-! ## The shared operations -/

section
variable (s : State)

theorem post_shut (ns : List Notice) : GatesShut s (s.post ns) := .of_kept (post_holds s ns) (fun _ => rfl) (·.of_rg rfl)

theorem setPort_shut (p : Port) (r : PortRec) (h : r.committed = (s.port p).committed) : GatesShut s (s.setPort p r) :=
  .of_frame (by simp) (setPort_holds s p r h).committed

theorem postTo_shut (p : Port) (n : Notice) : GatesShut s (s.postTo p n) := setPort_shut s p _ (portPost_committed ..)

theorem advance_shut (p : Port) : GatesShut s (s.advance p) := setPort_shut s p _ rfl

theorem received_shut (p : Port) : GatesShut s (received p s) :=
  .of_frame (by simp) fun q => by cases p <;> cases q <;> rfl

theorem respond_shut (p : Port) (code : Byte) (st : Status) (data : List Nat) : GatesShut s (respond p code st data s) :=
  .of_frame (by simp) fun q => by cases q <;> simp [State.port]

theorem settleLine_shut : GatesShut s (settleLine s) := .of_frame (by simp) fun q => by rw [settleLine_port]

theorem retarget_shut (before : State) : GatesShut s (retarget before s) :=
  .of_frame (by simp) fun q => by rw [retarget_port]

/-- A link's record replaced without a change of its state. -/
theorem setLink_shut (i : Fin 16) {l : LinkRec} (h : l.state = (s.links[i]).state) : GatesShut s (s.setLink i l) := by
  refine .of_kept ⟨setLink_still i l s, rfl, rfl, fun p => by rw [setLink_port]⟩ (fun j => ?_) (·.of_rg rfl)
  by_cases hj : j = i
  · rw [hj, setLink_link, h]
  · rw [State.setLink, put_other _ _ _ _ hj]

/-- A change of a link's state (R99, R140). -/
theorem moveLink_shut (i : Fin 16) (l : LinkRec) (cause : LinkCause) (code : Option Byte) (f : MuteRec → MuteRec)
    (clears removes : Bool) : GatesShut s (moveLink i l cause code f clears removes s) := by
  obtain ⟨-, -, -, hlive, hrg, -, hcommitted, -⟩ := moveLink_work i l cause code f clears removes s
  exact ⟨.of_gates (moveLink_gates i l cause code f clears removes s),
    .of_frame hlive (congrArg Regroup.map hrg) (·.of_rg hrg) hcommitted⟩

/-- A change of the mute records, with what follows it (R99). -/
theorem settleMute_shut (mu : Mute) : GatesShut s (settleHolds s { s with mute := mu }) :=
  ⟨.settleHolds fun _ => .inl rfl,
    .of_frame (by simp) (by simp) (·.of_rg (by simp)) fun p => by rw [settleHolds_committed]; cases p <;> rfl⟩

theorem clearAsks_shut (test : Fin 16 → Bool) (cause : AskCause) : GatesShut s (clearAsks test cause s) :=
  ⟨.of_still (by simp) fun m => heldSource_congr (clearAsks_holdSet test cause s) _,
    .of_frame (by simp) (by simp) (·.of_rg (by simp)) fun p => by rw [clearAsks_port, postAll_committed]⟩

theorem setFloor_shut (p : Fin 4) (c : FloorChange) : GatesShut s (setFloor p c s) :=
  .of_frame (by simp) fun q => by rw [setFloor_port, postAll_committed]

/-- A cause derives a pending map of R20, and moves the regroup machine alone (R25). -/
theorem regroupCause_shut (timed : Bool) : GatesShut s (regroupCause timed s) :=
  .of_kept (regroupCause_holds timed s) (fun i => by rw [regroupCause_links]) fun h => (regroupCause_sound h.1).2

end

/-! ## The floor unit -/

section
variable {s : State}

theorem askMic_shut (m : Fin 16) : GatesShut s (askMic m s).state :=
  .iteReply (.refl s) (.iteReply (.refl s) (.iteReply (.refl s) (.iteReply (setFloor_shut ..) (setFloor_shut ..))))

theorem withdrawMic_shut (m : Fin 16) : GatesShut s (withdrawMic m s).state := .iteReply (setFloor_shut ..) (.refl s)

theorem endGrant_shut (event : FloorEvent) (m : Fin 16) : GatesShut s (endGrant event m s).state :=
  .iteReply (setFloor_shut ..) (.refl s)

theorem makeGrant_shut (p : Fin 4) (m : Fin 16) : GatesShut s (makeGrant p m s).state := by
  refine .iteReply (setFloor_shut ..) ?_
  split
  · exact setFloor_shut ..
  · exact .refl s

theorem grantMic_shut (m : Fin 16) : GatesShut s (grantMic m s).state :=
  .iteReply (.refl s) (.iteReply (makeGrant_shut ..) (.refl s))

theorem grantOldest_shut (p : Fin 4) : GatesShut s (grantOldest p s).state := by
  unfold grantOldest
  split
  · exact .refl s
  · exact makeGrant_shut ..

theorem clearQueue_shut (p : Fin 4) : GatesShut s (clearQueue p s).state := setFloor_shut ..

theorem talkFloor_shut (m : Fin 16) : GatesShut s (talkFloor m s) :=
  .ite (.refl s) (.ite (endGrant_shut ..) (.ite (withdrawMic_shut ..) (askMic_shut ..)))

/-- A floor request on a source does what its operation on a microphone does. -/
theorem onSource_shut {f : Fin 16 → State → Reply} (h : ∀ m, GatesShut s (f m s).state) (n : Nat) :
    GatesShut s (onSource n f s).state := by
  unfold onSource
  split
  · exact h _
  · exact .refl s

theorem onSlot_shut {f : Fin 4 → State → Reply} (h : ∀ p, GatesShut s (f p s).state) (n : Nat) :
    GatesShut s (onSlot n f s).state := by
  unfold onSlot
  split
  · exact h _
  · exact .refl s

theorem withWorked_shut (v : Vector Bool 4) : GatesShut s (s.withWorked v) := .of_units rfl

theorem floorWork_shut (p : Fin 4) : GatesShut s (floorWork s p) := .ite (setFloor_shut ..) (.refl s)

theorem pieceAhead_shut (p : Fin 4) (due : Bool) : GatesShut s (pieceAhead p due s) :=
  .ite ((floorWork_shut p).trans (withWorked_shut _)) (.refl s)

theorem takePieces_shut : GatesShut s (takePieces s) :=
  (GatesShut.foldl (fun _ p => floorWork_shut p) slots s).trans (withWorked_shut _)

/-! ## The links and their messages (R125 to R139) -/

theorem refuseDoze_shut (cause : LinkCause) (i : Fin 16) : GatesShut s (refuseDoze cause i s) :=
  (setLink_shut s i (l := { (s.links[i]).noHandshake with dozeRefused := true }) rfl).trans (post_shut ..)

theorem failAttempt_shut (i : Fin 16) : GatesShut s (failAttempt i s) :=
  .ite ((setLink_shut s i (by rfl)).trans (moveLink_shut ..)) (setLink_shut s i rfl)

theorem enterTraining_shut (cause : LinkCause) (i : Fin 16) : GatesShut s (enterTraining cause i s) := moveLink_shut ..
theorem enterRetrain_shut (cause : LinkCause) (i : Fin 16) : GatesShut s (enterRetrain cause i s) := moveLink_shut ..
theorem enterDetached_shut (cause : LinkCause) (i : Fin 16) : GatesShut s (enterDetached cause i s) := moveLink_shut ..
theorem enterDown_shut (cause : LinkCause) (timed : Bool) (i : Fin 16) : GatesShut s (enterDown cause timed i s) :=
  moveLink_shut ..

theorem linkUp_shut (i : Fin 16) : GatesShut s (linkUp i s).1 := by
  simp only [linkUp]
  split
  · split
    · exact enterTraining_shut ..
    · exact .refl s
  · exact .refl s
  · exact setLink_shut s i rfl
  · exact enterRetrain_shut ..
  · exact enterDown_shut ..
  · exact enterDown_shut ..
  · split
    · exact enterDown_shut ..
    · exact .refl s

theorem linkAction_shut (req : LinkReq) (i : Fin 16) : GatesShut s (linkAction req i s).1 := by
  cases req with
  | nop =>
    simp only [linkAction, linkNop]
    split
    · exact setLink_shut s i rfl
    · exact .refl s
  | up => exact linkUp_shut i
  | doze =>
    simp only [linkAction, linkDoze]
    split
    · exact setLink_shut s i rfl
    · exact .refl s
  | detach =>
    simp only [linkAction, linkDetach]
    split_ifs
    · exact enterDetached_shut ..
    · exact setLink_shut s i rfl
    · exact .refl s
  | retrain =>
    simp only [linkAction, linkRetrain]
    split
    · exact enterRetrain_shut ..
    · exact .refl s

/-- An UNMUTE_ASK flag is no hold (R85). -/
theorem withAsk_shut (j : Fin 26) (ask : Bool) :
    GatesShut s (s.withRecs (put s.mute.recs j { s.mute.recs[j] with ask := ask })) := by
  have hold (i : Fin 26) : (s.withRecs (put s.mute.recs j { s.mute.recs[j] with ask := ask })).holdSet i = s.holdSet i := by
    refine holdSet_of_classes ?_ rfl rfl fun _ => rfl
    simp only [State.withRecs, put_get]
    split
    · next hi =>
      rw [hi]
      exact ⟨rfl, rfl, rfl⟩
    · exact ⟨rfl, rfl, rfl⟩
  exact ⟨.of_still rfl fun m => heldSource_congr hold _, .of_frame rfl rfl (·.of_rg rfl) fun p => by rw [withRecs_port]⟩

theorem toggleAsk_shut (m : Fin 16) : GatesShut s (toggleAsk m s) :=
  .ite ((withAsk_shut ..).trans (post_shut ..)) (.refl s)

theorem actPress_shut (b : Button) (m : Fin 16) : GatesShut s (actPress b m s) := by
  cases b with
  | mute => exact settleMute_shut ..
  | talk => exact .ite (talkFloor_shut m) (toggleAsk_shut m)
  | all => exact .ite (settleMute_shut ..) (.refl s)

theorem takeHello_shut (locked : Bool) (kind : Byte) (buttons : Vector Bool 3) (slide : Option Slide) (i : Fin 16) :
    GatesShut s (takeHello locked kind buttons slide i s) := by
  have hnoise (a : Audio) : GatesShut s { s with audio := a } := .of_units rfl
  have hactive (slide : Slide) : GatesShut s (enterActive kind buttons slide i s) := (hnoise _).trans (moveLink_shut ..)
  unfold takeHello
  split
  · exact .ite (hactive _) (.refl s)
  · exact .ite (hactive _) (.refl s)
  · exact moveLink_shut ..
  · exact .refl s

theorem takeButton_shut (b : Button) (seq : Bool) (i : Fin 16) : GatesShut s (takeButton b seq i s) := by
  have hbit := setLink_shut s i (l := { s.links[i] with lastBit := seq }) rfl
  refine .ite (.refl s) ?_
  split
  · exact hbit.trans (actPress_shut b i)
  · exact hbit.trans (moveLink_shut ..)
  · exact .refl s

theorem takeMessage_shut (locked : Bool) (msg : PodMessage) (i : Fin 16) : GatesShut s (takeMessage locked msg i s) := by
  cases msg with
  | hello kind buttons slide => exact takeHello_shut ..
  | button b seq => exact takeButton_shut ..
  | dozeAck => exact .ite (moveLink_shut ..) (.refl s)
  | dozeNak => exact .ite (refuseDoze_shut ..) (.refl s)
  | detachAck => exact .ite (moveLink_shut ..) (.refl s)
  | faultReport code => exact .ite (moveLink_shut ..) (.refl s)
  | wake => exact .ite (moveLink_shut ..) (.refl s)

theorem upstreamArrival_shut (i : Fin 16) (bytes : List Byte) : GatesShut s (upstreamArrival i bytes s) := by
  have hrun (l : LinkRec) : l.advanceRun.state = l.state := by unfold LinkRec.advanceRun; split <;> rfl
  simp only [upstreamArrival]
  refine .ite (.ite ?_ (setLink_shut s i rfl)) (.refl s)
  have harrived := setLink_shut s i (hrun { s.links[i] with
    arrival := some { good := frameGood bytes, samples := tab fun j => sampleWord bytes j.val } })
  split
  · exact harrived.trans (takeMessage_shut ..)
  · exact harrived

/-! ## The timed rows of the links (R128 to R137) -/

theorem badFrameRun_shut (i : Fin 16) : GatesShut s (badFrameRun i s) :=
  .ite ((setLink_shut s i (l := (s.links[i]).countBad) rfl).trans (moveLink_shut ..)) (.refl s)

theorem attemptFail_shut (i : Fin 16) : GatesShut s (attemptFail i s) := .ite (failAttempt_shut i) (.refl s)
theorem dozeTimeout_shut (i : Fin 16) : GatesShut s (dozeTimeout i s) := .ite (refuseDoze_shut ..) (.refl s)
theorem detachTimeout_shut (i : Fin 16) : GatesShut s (detachTimeout i s) := .ite (moveLink_shut ..) (.refl s)
theorem autoUpEvent_shut (i : Fin 16) : GatesShut s (autoUpEvent i s) := .ite (moveLink_shut ..) (.refl s)

theorem residencyMet_shut (i : Fin 16) : GatesShut s (residencyMet i s) := by
  have hmet := setLink_shut s i (l := { s.links[i] with residency := Config.residencyTop }) rfl
  exact .ite (.ite (hmet.trans (moveLink_shut ..)) hmet) (.refl s)

end

end Sys2Proof.Machine
end

section
/-! SUPPORT. Gates under every request, line and record, and under the scene unit (R99, R144 to R169): none opens a gate. -/

namespace Sys2Proof.Machine
open Host

section
variable {s : State}

/-! ## Batches (R24, R151, R152) -/

/-- A batch handed on waits for a switch as a cause, or joins a committed list, which it does where it needs none (R24). -/
theorem commitBatch_shut {p : Port} {b : Batch} {t : State} (ht : commitBatch p b s = some t) : GatesShut s t := by
  simp only [commitBatch] at ht
  split_ifs at ht with hmark hneeds
  · cases ht
    exact (GatesShut.withRg (g := { s.rg with changes := s.rg.changes ++ [{ port := p, batch := b }] }) rfl id).trans
      (regroupCause_shut _ false)
  · cases ht
    refine ⟨.of_still (by simp) (heldSource_of_links (by simp) (by simp) fun i => by rw [setPort_links]), fun h => ?_⟩
    obtain ⟨hlegal, hplain⟩ := h
    refine ⟨⟨hlegal.of_rg (by simp), fun q c hc => ?_⟩, micPart_congr (by simp) (by simp)⟩
    rw [setPort_live]
    by_cases hq : q = p
    · subst hq
      rw [setPort_port, List.mem_append, List.mem_singleton] at hc
      rcases hc with hc | rfl
      · exact hplain q c hc
      · exact Bool.eq_false_iff.2 hneeds
    · rw [setPort_other s p q _ hq] at hc
      exact hplain q c hc

theorem enterLive_shut {p : Port} {e : Entry} {t : State} (ht : enterLive p e s = .ok t) : GatesShut s t := by
  simp only [enterLive] at ht
  split at ht
  · cases ht
  · split at ht
    · split at ht
      · cases ht
        exact setPort_shut s p _ rfl
      · cases ht
    · split at ht
      · next hc =>
        cases ht
        exact commitBatch_shut hc
      · cases ht

/-! ## Requests of chapter 9 (R146 to R158) -/

theorem doSelect_shut (p : Port) (t v k : Nat) : GatesShut s (doSelect p t v k s).state := by
  unfold doSelect
  split
  · exact setPort_shut s p _ rfl
  · exact .refl s

theorem doShow_shut (p : Port) : GatesShut s (doShow p s).state := by
  have hshown (c : Cursor) (content : Option (List Nat)) (u : State) : GatesShut u (followShown p c content u) := by
    cases p with
    | a => exact .ite (.of_units rfl) (.refl u)
    | b => exact .refl u
  exact (advance_shut s p).trans (hshown ..)

theorem enterBuffer_shut (p : Port) (b : Fin 2) (key : TableId × Nat) (skip : Bool) (done : Status) (f : Buffer → Buffer) :
    GatesShut s (enterBuffer p b key skip done f s).state := by
  have hbuf (x : Buffer) : GatesShut s (s.setBuf b x) := .of_units rfl
  exact .iteReply (.refl s) (.iteReply (.refl s) (.iteReply (advance_shut s p) ((hbuf _).trans (advance_shut ..))))

theorem enterEntry_shut (p : Port) (v : View) (e : Entry) (done : Status) : GatesShut s (enterEntry p v e done s).state := by
  cases v with
  | live =>
    refine .iteReply (advance_shut s p) ?_
    split
    · next hu => exact (enterLive_shut hu).trans (advance_shut ..)
    · exact .refl s
  | sb b => exact enterBuffer_shut ..

theorem doEnter_shut (p : Port) (ops : List Nat) (keep : Option Set26) : GatesShut s (doEnter p ops keep s).state := by
  have hmix (x : Mix) : GatesShut s { s with mix := x } := .of_units rfl
  simp only [doEnter]
  split
  · exact .refl s
  · split
    · exact advance_shut s p
    · exact .iteReply ((hmix _).trans (advance_shut ..)) (advance_shut s p)
    · split
      · exact .refl s
      · exact enterBuffer_shut ..
    · exact enterEntry_shut ..

theorem doMask_shut (p : Port) (n : Nat) : GatesShut s (doMask p n s).state := by
  unfold doMask
  split
  · exact setPort_shut s p _ rfl
  · exact .refl s

theorem doBegin_shut (p : Port) : GatesShut s (doBegin p s).state := .iteReply (.refl s) (setPort_shut s p _ rfl)

theorem doCommit_shut (p : Port) : GatesShut s (doCommit p s).state := by
  unfold doCommit
  split
  · exact .refl s
  · split
    · next hc => exact (setPort_shut s p { s.port p with batch := none } rfl).trans (commitBatch_shut hc)
    · exact .refl s

theorem doAbandon_shut (p : Port) : GatesShut s (doAbandon p s).state := .iteReply (setPort_shut s p _ rfl) (.refl s)

theorem doWall_shut (p : Port) (w : Nat) (o : Override) : GatesShut s (doWall p w o s).state := by
  unfold doWall
  split
  · exact .refl s
  · split
    · next hu => exact enterLive_shut hu
    · exact .refl s

theorem doLower_shut (p : Port) (named : Profile) : GatesShut s (doLower p named s).state :=
  .iteReply (setPort_shut s p _ rfl) (.refl s)

theorem doNotices_shut (p : Port) : GatesShut s (doNotices p s).state := by
  cases p with
  | a => exact .of_units rfl
  | b => exact .refl s

theorem doFlags_shut (p : Port) (f : PortFlag) (on : Bool) : GatesShut s (doFlags p f on s).state := by
  cases p with
  | a => exact .of_units rfl
  | b => exact .refl s

/-! ## Requests of chapters 5 and 8 -/

theorem doHold_shut (p : Port) (t : Target) : GatesShut s (doHold p t s).state := by
  unfold doHold
  split
  · exact settleMute_shut ..
  · exact .refl s

theorem doFree_shut (p : Port) (t : Target) : GatesShut s (doFree p t s).state := by
  unfold doFree
  split
  · exact .iteReply (settleMute_shut ..) (.refl s)
  · exact .refl s

theorem freeEverything_shut (p : Port) : GatesShut s (freeEverything p s) := by
  cases p with
  | a => exact settleMute_shut ..
  | b => exact settleMute_shut ..

theorem doGroupMute_shut (g : Nat) (on : Bool) : GatesShut s (doGroupMute g on s).state := by
  unfold doGroupMute
  split
  · exact settleMute_shut ..
  · exact .refl s

theorem doQuiet_shut (n : Nat) (on : Bool) : GatesShut s (doQuiet n on s).state := by
  unfold doQuiet
  split
  · exact .iteReply (.ite (.refl s) (settleMute_shut ..)) (.refl s)
  · exact .refl s

theorem doDismiss_shut (t : Target) : GatesShut s (doDismiss t s).state := by
  unfold doDismiss
  split
  · exact .iteReply (clearAsks_shut ..) (.refl s)
  · exact clearAsks_shut ..
  · exact .refl s

theorem doLink_shut (n : Nat) (req : LinkReq) : GatesShut s (doLink n req s).state := by
  unfold doLink
  split
  · exact .refl s
  · next i _ => exact (setLink_shut s i (l := { s.links[i] with requested := req }) rfl).trans (linkAction_shut ..)

/-! ## Requests of chapter 10 (R164 to R169) -/

theorem withScene_shut (x : Scene) : GatesShut s { s with scene := x } := .of_units rfl

theorem loadPage_shut (k : Fin 32) (b : Fin 2) : GatesShut s (loadPage k b s).state :=
  .iteReply (.refl s) (.iteReply (.refl s) (.iteReply (.refl s) (withScene_shut _)))

theorem captureBuf_shut (b : Fin 2) : GatesShut s (captureBuf b s).state := .iteReply (.refl s) (withScene_shut _)

theorem storeBuf_shut (b : Fin 2) (k : Fin 32) : GatesShut s (storeBuf b k s).state :=
  .iteReply (.refl s) (.iteReply (.refl s) (.iteReply (.refl s) (withScene_shut _)))

theorem amendPage_shut (b : Fin 2) (k : Fin 32) : GatesShut s (amendPage b k s).state :=
  .iteReply (.refl s) (.iteReply (.refl s) (.iteReply (.refl s) (.iteReply (.refl s) (withScene_shut _))))

theorem erasePage_shut (k : Fin 32) : GatesShut s (erasePage k s).state := .iteReply (.refl s) (withScene_shut _)

theorem applyBuf_shut (b : Fin 2) : GatesShut s (applyBuf b s).state := by
  have hmarked : GatesShut (lockBuf b .apply s)
      { lockBuf b .apply s with rg := { (lockBuf b .apply s).rg with applyMark := some b, applyDue := true } } := .withRg rfl id
  exact .iteReply (.refl s) (.iteReply (.refl s) (.iteReply (.refl s)
    (((withScene_shut _).trans hmarked).trans (regroupCause_shut _ false))))

theorem onPageBuf_shut {f : Fin 32 → Fin 2 → State → Reply} (h : ∀ k b, GatesShut s (f k b s).state) (k b : Nat) :
    GatesShut s (onPageBuf k b f s).state := by
  unfold onPageBuf
  split
  · exact h ..
  · exact .refl s

theorem onBuf_shut {f : Fin 2 → State → Reply} (h : ∀ b, GatesShut s (f b s).state) (b : Nat) :
    GatesShut s (onBuf b f s).state := by
  unfold onBuf
  split
  · exact h _
  · exact .refl s

theorem onPage_shut {f : Fin 32 → State → Reply} (h : ∀ k, GatesShut s (f k s).state) (k : Nat) :
    GatesShut s (onPage k f s).state := by
  unfold onPage
  split
  · exact h _
  · exact .refl s

/-! ## Requests served (R144) -/

theorem body_shut (p : Port) (r : Request) (keep : Option Set26) : GatesShut s (r.body p keep s).state := by
  cases r with
  | select t v k => exact doSelect_shut ..
  | showEntry => exact doShow_shut p
  | enter ops => exact doEnter_shut ..
  | mask n => exact doMask_shut ..
  | beginBatch => exact doBegin_shut p
  | commit => exact doCommit_shut p
  | abandon => exact doAbandon_shut p
  | wall w o => exact doWall_shut ..
  | notices => exact doNotices_shut p
  | flags f on => exact doFlags_shut ..
  | lower n => exact doLower_shut ..
  | hold t => exact doHold_shut ..
  | free t => exact doFree_shut ..
  | freeAll => exact freeEverything_shut p
  | gmute g => exact doGroupMute_shut ..
  | gunmute g => exact doGroupMute_shut ..
  | quiet n on => exact doQuiet_shut ..
  | dismiss t => exact doDismiss_shut t
  | ask n => exact onSource_shut askMic_shut n
  | withdraw n => exact onSource_shut withdrawMic_shut n
  | release n => exact onSource_shut (endGrant_shut .released) n
  | grant n => exact onSource_shut grantMic_shut n
  | grantNext n => exact onSlot_shut grantOldest_shut n
  | revoke n => exact onSource_shut (endGrant_shut .revoked) n
  | clearQ n => exact onSlot_shut clearQueue_shut n
  | link i req => exact doLink_shut ..
  | load k b => exact onPageBuf_shut loadPage_shut k b
  | capture b => exact onBuf_shut captureBuf_shut b
  | store b k => exact onPageBuf_shut (fun k b => storeBuf_shut b k) k b
  | amend b k => exact onPageBuf_shut (fun k b => amendPage_shut b k) k b
  | erase k => exact onPage_shut erasePage_shut k
  | apply b => exact onBuf_shut applyBuf_shut b
  | clear => exact .refl s

theorem serve_shut (p : Port) (code : Byte) (cls : ReqClass) {body : Option Set26 → State → Reply}
    (h : ∀ keep, GatesShut (received p s) (body keep (received p s)).state) : GatesShut s (serve p code cls body s) := by
  have hreceived := received_shut s p
  simp only [serve]
  split
  · exact (hreceived.trans (h _)).trans (respond_shut ..)
  · exact hreceived.trans (respond_shut ..)

theorem request_shut (p : Port) (r : Request) : GatesShut s (request p r s) := serve_shut p _ _ (body_shut p r)

theorem refuseRequest_shut (p : Port) (code : Byte) (st : Status) : GatesShut s (refuseRequest p code st s) :=
  (received_shut s p).trans (respond_shut ..)

/-! ## Port A's lines, Port B's reads, and the store engine (R154 to R158, R165 to R168) -/

theorem withLineA_shut (line : LineA) : GatesShut s { s with lineA := line } := .of_units rfl

theorem lineSent_shut : GatesShut s (lineSent s) := by
  have hsent (line : LineA) (q : List Notice) (o : Bool) :
      GatesShut s { s with lineA := line, portA := { s.portA with queue := q, overflow := o } } :=
    .of_frame ⟨rfl, rfl, rfl, rfl, rfl⟩ fun p => by cases p <;> rfl
  unfold lineSent
  split
  · exact .refl s
  · dsimp only
    split
    · exact hsent ..
    · exact hsent ..
    · exact withLineA_shut _
    · exact withLineA_shut _

theorem portBRead_shut (a : Fin 128) (count : Nat) : GatesShut s (portBRead a count s) := by
  have hread (r : RecordB) (q : List Notice) (o : Bool) :
      GatesShut s { s with recB := r, portB := { s.portB with queue := q, overflow := o } } :=
    .of_frame ⟨rfl, rfl, rfl, rfl, rfl⟩ fun p => by cases p <;> rfl
  exact .ite (hread ..) (.refl s)

theorem endJob_shut (j : Job) (event : SceneEvent) : GatesShut s (endJob j event s) := by
  unfold endJob
  cases j.buffer with
  | none => exact (withScene_shut _).trans (post_shut ..)
  | some b => exact (withScene_shut _).trans (post_shut ..)

theorem programPage_shut (j : Job) (event : SceneEvent) (c : Contents) (verified : Bool) :
    GatesShut s (programPage j event c verified s) := by
  have hbroken : GatesShut s (breakPage j.page j.kept s) := .of_units rfl
  exact .ite ((withScene_shut _).trans (endJob_shut ..)) (hbroken.trans (endJob_shut ..))

theorem loadComplete_shut (readOk : Bool) : GatesShut s (loadComplete readOk s) := by
  unfold loadComplete
  split
  · split
    · exact .ite ((withScene_shut _).trans (endJob_shut ..)) ((withScene_shut _).trans (endJob_shut ..))
    · exact .refl s
  · exact .refl s

theorem storeComplete_shut (verified : Bool) : GatesShut s (storeComplete verified s) := by
  unfold storeComplete
  split
  · split
    · exact programPage_shut ..
    · exact .refl s
  · exact .refl s

theorem amendComplete_shut (readOk verified : Bool) : GatesShut s (amendComplete readOk verified s) := by
  unfold amendComplete
  split
  · split
    · exact .ite (programPage_shut ..) ((withScene_shut _).trans (endJob_shut ..))
    · exact .refl s
  · exact .refl s

theorem eraseComplete_shut : GatesShut s (eraseComplete s) := by
  unfold eraseComplete
  split
  · split
    · exact (withScene_shut _).trans (endJob_shut ..)
    · exact .refl s
  · exact .refl s

theorem eraseStage_shut : GatesShut s (eraseStage s) := by
  unfold eraseStage
  split
  · exact .ite (withScene_shut _) (.refl s)
  · exact .refl s

theorem captureCopy_shut (b : Fin 2) : GatesShut s (captureCopy b s) := .ite ((withScene_shut _).trans (post_shut ..)) (.refl s)

end
end Sys2Proof.Machine
end

section
/-! SUPPORT. Gates under an application, an evaluation, a switch and a start-up event (R29, R92 to R102, R152, R170). -/

namespace Sys2Proof.Machine
open Host

/-! ## Committed batches write no section (R24, R152) -/

/-- Two images in which every source and every bus stands in the same section. -/
def SectionsAlike (a b : Image) : Prop :=
  (∀ i : Fin 26, (a.src[i]).sect = (b.src[i]).sect) ∧ ∀ i : Fin 26, (a.bus[i]).sect = (b.bus[i]).sect

theorem isCause_congr {a b : Image} (h : SectionsAlike a b) (e : Entry) : e.isCause a = e.isCause b := by
  cases e with
  | src i r => simp only [Entry.isCause, h.1 i]
  | bus i r => simp only [Entry.isCause, h.2 i]
  | _ => rfl

theorem needsSwitch_congr {a b : Image} (h : SectionsAlike a b) (c : Batch) : c.needsSwitch a = c.needsSwitch b :=
  congrArg c.entries.any (funext (isCause_congr h))

/-- An entry that is no cause leaves every section. -/
theorem write_sections {img live : Image} (h : SectionsAlike img live) {e : Entry} (he : e.isCause live = false) :
    SectionsAlike (img.write e) live := by
  obtain ⟨hsrc, hbus⟩ := h
  cases e with
  | src i r =>
    refine ⟨fun j => ?_, hbus⟩
    simp only [Image.write, put_get]
    split
    · next hj =>
      rw [hj]
      exact not_not.1 (of_decide_eq_false he)
    · exact hsrc j
  | bus i r =>
    refine ⟨hsrc, fun j => ?_⟩
    simp only [Image.write, put_get]
    split
    · next hj =>
      rw [hj]
      exact not_not.1 (of_decide_eq_false he)
    · exact hbus j
  | _ => exact ⟨hsrc, hbus⟩

theorem writeAll_sections {live : Image} (es : List Entry) (h : ∀ e ∈ es, e.isCause live = false) {img : Image}
    (himg : SectionsAlike img live) : SectionsAlike (img.writeAll es) live := by
  induction es generalizing img with
  | nil => exact himg
  | cons e es ih =>
    exact ih (fun x hx => h x (List.mem_cons_of_mem _ hx)) (write_sections himg (h e (List.mem_cons_self ..)))

theorem SectionsAlike.micPart {s t : State} (h : SectionsAlike t.live s.live) (hmap : t.rg.map = s.rg.map) (m : Fin 16) :
    t.micPart m = s.micPart m := by simp only [State.micPart, State.partOf, h.1, hmap]

/-- Plain batches applied keep the partitions, and what stays committed stays plain. -/
theorem applyCommitted_tables (p : Port) (s : State) : TablesKept s (applyCommitted p s) := by
  rintro ⟨hlegal, hplain⟩
  obtain ⟨hlive, -, hempty, hother⟩ := applyCommitted_live p s
  have hrg := applyCommitted_rg p s
  have hsections : SectionsAlike (applyCommitted p s).live s.live := by
    rw [hlive]
    refine writeAll_sections _ (fun e he => ?_) ⟨fun _ => rfl, fun _ => rfl⟩
    obtain ⟨b, hb, he⟩ := List.mem_flatMap.1 he
    exact Bool.eq_false_iff.2 (List.any_eq_false.1 (hplain p b hb) e he)
  refine ⟨⟨hlegal.of_rg hrg, fun q c hc => ?_⟩, hsections.micPart (congrArg Regroup.map hrg)⟩
  rw [needsSwitch_congr hsections]
  by_cases hq : q = p
  · subst hq
    rw [hempty] at hc
    exact absurd hc List.not_mem_nil
  · exact hplain q c (hother q hq ▸ hc)

/-- Live tables placed without a switch open no gate (R99, R101). -/
theorem placeLive_close (img : Image) (s : State) : GatesClose s (placeLive img s) := by
  obtain ⟨f, a, b, hfloors⟩ := floorsAfterWrite_frame s (isLead s.rg.map) (gatesAfterWrite s { s with live := img })
  refine .settleHolds fun m => ?_
  have hgate : (floorsAfterWrite s (isLead s.rg.map) (gatesAfterWrite s { s with live := img })).gates[m]
      = (gatesAfterWrite s { s with live := img }).gates[m] := by rw [hfloors]
  rw [gatesAfterWrite, tab_get] at hgate
  split at hgate
  · exact .inr (congrArg Gate.state hgate)
  · exact .inl hgate

theorem applyBatch_close (p : Port) (b : Batch) (s : State) : GatesClose s (applyBatch p b s) := by
  have hplaced := placeLive_close (s.live.writeAll b.entries) s
  rw [applyBatch]
  split
  · exact hplaced.trans (postTo_shut ..).toGatesClose
  · exact hplaced

theorem applyCommitted_shut (p : Port) (s : State) : GatesShut s (applyCommitted p s) := by
  have hall (l : List Batch) (t : State) : GatesClose t (l.foldl (fun t b => applyBatch p b t) t) := by
    induction l generalizing t with
    | nil => exact (GatesShut.refl t).toGatesClose
    | cons b l ih => exact (applyBatch_close p b t).trans (ih _)
  have hemptied : GatesClose s (s.setPort p { s.port p with committed := [] }) :=
    .of_still (by simp) (heldSource_of_links (by simp) (by simp) fun i => by rw [setPort_links])
  exact ⟨hemptied.trans (hall _ _), applyCommitted_tables p s⟩

/-! ## One evaluation (R92 to R97) -/

section
variable {v : GateView} {gs : Gates}

/-- The open limit leaves a member's entry as the counters left it, or closes it (R95). -/
theorem closingPhase_cases (v : GateView) (gs : Gates) (m : Fin 16) :
    (closingPhase v gs)[m] = closeOne v gs m ∨ (closingPhase v gs)[m] = shutGate := by
  rw [← tab_get (closeOne v gs) m]
  exact (closeExcess_get ..).1

theorem closingPhase_keeps_closed {m : Fin 16} (hm : m ∈ v.members) (hc : (gs[m]).state = .closed) :
    ((closingPhase v gs)[m]).state = .closed := by
  rcases closingPhase_cases v gs m with h | h
  · rw [h, closeOne_closed hm hc, hc]
  · rw [h]
    rfl

/-- A CLOSED entry that is no candidate stays CLOSED. -/
theorem evaluateSlot_keeps_closed {m : Fin 16} (hc : (gs[m]).state = .closed) (hn : v.cand m = false) :
    ((evaluateSlot v gs)[m]).state = .closed := by
  by_cases hm : m ∈ v.members
  · have hclosing := closingPhase_keeps_closed hm hc
    rw [evaluateSlot, openingPhase_idle v _ m hm hn (by rw [hclosing]; exact GateState.noConfusion)]
    split
    · rfl
    · exact hclosing
  · rw [evaluateSlot_outside hm, hc]

/-- An entry that is LAST_ON after the closing phase was left so by the counters. -/
theorem closeOne_of_lastOn {m : Fin 16} (h : ((closingPhase v gs)[m]).state = .lastOn) : (closeOne v gs m).state = .lastOn := by
  rcases closingPhase_cases v gs m with he | he
  · rwa [← he]
  · rw [he] at h
    exact GateState.noConfusion h

/-- The counters leave LAST_ON, besides the one that becomes so, an entry that was LAST_ON before (R93, R94). -/
theorem lastOn_of_closeOne {m : Fin 16} (hm : m ∈ v.members) (h : (closeOne v gs m).state = .lastOn) :
    becomesLast v gs = some m ∨ (gs[m]).state = .lastOn := by
  cases he : expires v gs m with
  | true =>
    rw [closeOne_expires hm he] at h
    split at h
    · next hb => exact .inl hb
    · exact GateState.noConfusion h
  | false =>
    refine .inr ?_
    rw [closeOne_stays hm he] at h
    split at h
    · exact GateState.noConfusion h
    · cases hs : (gs[m]).state with
      | closed => exact GateState.noConfusion (hs.symm.trans ((congrArg Gate.state (stepCounter_closed hs)).symm.trans h))
      | opened =>
        rw [stepCounter_opened v m hs] at h
        exact GateState.noConfusion h
      | lastOn => rfl

/-- An evaluation leaves a LAST_ON member alone in not being CLOSED (R94): it opens no gate beside it, and the counters make no
other LAST_ON. -/
theorem evaluateSlot_lastAlone (halone : LastAlone v gs) : LastAlone v (evaluateSlot v gs) := by
  intro m hm x hx hlast
  by_cases hxm : m = x
  · exact .inl hxm
  refine .inr ?_
  cases ho : (openings v (closingPhase v gs)).opened with
  | true =>
    rw [evaluateSlot, openingPhase_eq, if_pos ho, tab_get] at hlast
    split at hlast
    · exact GateState.noConfusion hlast
    · next hno => exact absurd ⟨hm, hlast⟩ hno
  | false =>
    rw [evaluateSlot, openingPhase_none _ _ ho] at hlast ⊢
    rcases lastOn_of_closeOne hm (closeOne_of_lastOn hlast) with hb | hbefore
    · exact closingPhase_other hb hx (Ne.symm hxm)
    · exact closingPhase_keeps_closed hx ((halone m hm x hx hbefore).resolve_left hxm)

end

/-! ## What every operation keeps -/

/-- The second invariant of O25: sound tables, and every LAST_ON microphone alone in its partition. -/
def LastOnSound (s : State) : Prop := TablesSound s ∧ LastOnAlone s

/-- The way from `s` to `t` keeps both invariants of O25. -/
structure GatesSound (s t : State) : Prop where
  held : HeldGatesClosed s → HeldGatesClosed t
  alone : LastOnSound s → LastOnSound t

namespace GatesSound
variable {s t u : State}

theorem refl (s : State) : GatesSound s s := ⟨id, id⟩

theorem trans (h : GatesSound s t) (k : GatesSound t u) : GatesSound s u :=
  ⟨fun x => k.held (h.held x), fun x => k.alone (h.alone x)⟩

theorem foldl {α : Type} {f : State → α → State} (h : ∀ s x, GatesSound s (f s x)) (l : List α) (s : State) :
    GatesSound s (l.foldl f s) := by
  induction l generalizing s with
  | nil => exact .refl s
  | cons x l ih => exact (h s x).trans (ih (f s x))

theorem ite {c : Prop} [Decidable c] (h : GatesSound s t) (k : GatesSound s u) : GatesSound s (if c then t else u) := by
  split <;> assumption

end GatesSound

/-- An operation that opens no gate and keeps the partitions keeps both. -/
theorem GatesShut.sound {s t : State} (h : GatesShut s t) : GatesSound s t where
  held hs m hm := (h.held m hm).elim (fun hm => h.closed (hs m hm)) id
  alone := by
    rintro ⟨htables, halone⟩
    obtain ⟨hkept, hpart⟩ := h.tables htables
    refine ⟨hkept, fun m x hne hmx hlast => h.closed (halone m x hne ?_ ?_)⟩
    · rw [← hpart, hmx, hpart]
    · rcases h.gates m with hg | hc
      · rwa [← hg]
      · exact GateState.noConfusion (hlast.symm.trans hc)

/-- An evaluation opens the gates of candidates alone, which carry no hold (R91, R92). -/
theorem evaluateOn_sound (s : State) (p : Fin 4) (peak noise : Fin 16 → Nat) :
    GatesSound s (evaluateOn (s.gateView p peak noise) s) := by
  have hgates : (evaluateOn (s.gateView p peak noise) s).gates = evaluateSlot (s.gateView p peak noise) s.gates := by
    rw [evaluateOn, retarget_gates]
  have hheld (m : Fin 16) : (evaluateOn (s.gateView p peak noise) s).heldSource (micSource m) = s.heldSource (micSource m) :=
    heldSource_of_links (by simp) (by simp) (fun i => by rw [evaluateOn_links]) m
  have htables : TablesKept s (evaluateOn (s.gateView p peak noise) s) :=
    .of_frame (by simp) (by simp) (·.of_rg (by simp)) fun q => by cases q <;> simp [State.port]
  refine ⟨fun hs m hm => ?_, fun ⟨hsound, halone⟩ => ?_⟩
  · rw [hheld] at hm
    rw [hgates]
    refine evaluateSlot_keeps_closed (hs m hm) ?_
    simp only [State.gateView, State.candidateAt, hm, Bool.not_true, Bool.and_false, Bool.false_and]
  · obtain ⟨hkept, hpart⟩ := htables hsound
    refine ⟨hkept, fun m x hne hmx hlast => ?_⟩
    rw [hpart, hpart] at hmx
    rw [hgates] at hlast ⊢
    by_cases hp : s.micPart m = p
    · have hslot : LastAlone (s.gateView p peak noise) s.gates := fun y hy z hz hl =>
        or_iff_not_imp_left.2 fun hyz => halone y z hyz ((mem_members.1 hy).trans (mem_members.1 hz).symm) hl
      exact (evaluateSlot_lastAlone hslot m (mem_members.2 hp) x (mem_members.2 (hmx ▸ hp)) hlast).resolve_left hne
    · have hout (y : Fin 16) (hy : s.micPart y ≠ p) : (evaluateSlot (s.gateView p peak noise) s.gates)[y] = s.gates[y] :=
        evaluateSlot_outside fun h => hy (mem_members.1 h)
      rw [hout m hp] at hlast
      rw [hout x (hmx ▸ hp)]
      exact halone m x hne hmx hlast

theorem gateEvaluation_sound (s : State) (p : Fin 4) : GatesSound s (gateEvaluation s p) :=
  .ite (evaluateOn_sound ..) (.refl s)

theorem gateHoldExpiry_sound (m : Fin 16) (s : State) : GatesSound s (gateHoldExpiry m s) := by
  have hhand (p : Fin 4) (t : State) : GatesSound t (handCount p t) := (GatesShut.of_units rfl).sound
  exact .ite ((evaluateOn_sound ..).trans (hhand ..)) (.refl s)

/-! ## The switch (R29, R30, R102) -/

section
variable {s : State}

/-- The gates after a switch are as they were or CLOSED, and the first hold of a microphone closes its own (R99, R102). -/
theorem switchNow_close : GatesClose s (switchNow s) := by
  obtain ⟨-, -, hgates⟩ := switchNow_units s
  refine ⟨fun m => ?_, fun m hm => ?_⟩
  · rw [hgates]
    split
    · exact .inr rfl
    · exact .inl rfl
  · cases hs : s.heldSource (micSource m) with
    | true => exact .inl rfl
    | false =>
      refine .inr ?_
      rw [hgates]
      split
      · rfl
      · next hno => exact not_not.1 fun hc => hno (.inr ⟨(takesHold_iff ..).2 ⟨hs, hm⟩, hc⟩)

/-- A partition that a switch leaves unchanged has the microphones that it had (R30). -/
theorem unchanged_members {q : Fin 4} (hlead : isLead (switchNow s).rg.map q = true) (hno : (switchedSlots s)[q] = false)
    (m : Fin 16) : s.micPart m = q ↔ (switchNow s).micPart m = q := by
  rw [switchedSlots_eq, hlead, Bool.true_and, Bool.not_eq_false', Bool.and_eq_true, decide_eq_true_iff] at hno
  exact hno.2.1 m

/-- A switch that finds no batch committed leaves maps of R20, and LAST_ON in unchanged partitions alone. -/
theorem switchNow_sound (hempty : ∀ p, (s.port p).committed = []) : GatesSound s (switchNow s) := by
  refine ⟨fun hs m hm => (switchNow_close.held m hm).elim (fun hm => switchNow_close.closed (hs m hm)) id, ?_⟩
  rintro ⟨⟨⟨-, hpend⟩, -⟩, halone⟩
  obtain ⟨-, -, hrg, -⟩ := switchNow_fields s
  obtain ⟨hport, -⟩ := switchNow_follow s
  obtain ⟨-, -, hgates⟩ := switchNow_units s
  have hlegal : MapsLegal (switchNow s) := by
    unfold MapsLegal
    rw [hrg]
    exact ⟨hpend, hpend⟩
  refine ⟨⟨hlegal, fun p b hb => ?_⟩, fun m x hne hmx hlast => ?_⟩
  · rw [hport, postAll_committed, hempty] at hb
    exact absurd hb List.not_mem_nil
  · rw [hgates] at hlast
    split at hlast
    · exact GateState.noConfusion hlast
    · next hstays =>
      obtain ⟨hslot, -⟩ := not_or.1 hstays
      have hmembers := unchanged_members (micPart_isLead hlegal.1 m) (Bool.eq_false_iff.2 hslot)
      exact switchNow_close.closed (halone m x hne (((hmembers m).2 rfl).trans ((hmembers x).2 hmx.symm).symm) hlast)

theorem regroupSwitch_gates (s : State) : GatesSound s (regroupSwitch s) := by
  by_cases h : SwitchStands s.rg
  · have hlevel : GatesShut s (levelPieces s) := .ite takePieces_shut (.refl s)
    have hempty (p : Port) : ((applyCommitted .b (applyCommitted .a (levelPieces s))).port p).committed = [] := by
      obtain ⟨ns, hport, -⟩ := applyBoth_port (levelPieces s) p
      rw [hport]
    rw [regroupSwitch_eq h]
    exact ((hlevel.trans (applyCommitted_shut ..)).trans (applyCommitted_shut ..)).sound.trans (switchNow_sound hempty)
  · rw [regroupSwitch_of_not h]
    exact .refl s

end

/-- Every start-up event leaves every gate CLOSED, no batch committed, and maps of R20 (R170). -/
theorem startUp_gates (cause : StartCause) (pins : Pins) (s u : State) : GatesSound s (startUp cause pins u) := by
  have hmaps := (startUp_sound cause pins u).2
  rw [startUp_eq] at hmaps ⊢
  exact ⟨fun _ m _ => congrArg Gate.state (startState_gates ..),
    fun _ => ⟨⟨hmaps, (startState_floorsKept ..).2⟩, fun m x _ _ _ => congrArg Gate.state (startState_gates ..)⟩⟩
end Sys2Proof.Machine
end

section
/-! SUPPORT. Gates under a boundary and under every command (R4, R91, R94, R99): O25. -/

namespace Sys2Proof.Machine
open Host

section
variable {s : State}

/-! ## CLEAR, and the lines and records that may spell it (R144, R154, R157) -/

theorem requestClear_gates (p : Port) : GatesSound s (requestClear p s) :=
  .ite (startUp_gates ..) (request_shut ..).sound

theorem wireRequest_gates (p : Port) (name : ReqName) (ops : List Nat) : GatesSound s (wireRequest p name ops s) := by
  unfold wireRequest
  split
  · exact (refuseRequest_shut ..).sound
  · split
    · exact requestClear_gates p
    · exact (request_shut ..).sound
    · exact (serve_shut _ _ _ fun _ => .refl _).sound

theorem takeWords_gates (words : List (List Byte)) : GatesSound s (takeWords words s) := by
  unfold takeWords
  split
  · exact .refl s
  · split
    · exact wireRequest_gates ..
    · exact (refuseRequest_shut ..).sound

theorem endOfLine_gates : GatesSound s (endOfLine s) := by
  simp only [endOfLine]
  split
  · next rest _ =>
    have hended := (withLineA_shut (s := s) (s.lineA.endLine rest)).sound
    exact .ite (.ite (hended.trans (refuseRequest_shut ..).sound) (.ite (hended.trans (refuseRequest_shut ..).sound)
      (hended.trans (takeWords_gates _)))) (.refl s)
  · exact .refl s

theorem takeRecord_gates (code : Byte) (ops : List Byte) : GatesSound s (takeRecord code ops s) := by
  refine .ite ?_ (refuseRequest_shut ..).sound
  split
  · exact wireRequest_gates ..
  · exact (refuseRequest_shut ..).sound

theorem portBWrite_gates (a : Fin 128) (bytes : List Byte) : GatesSound s (portBWrite a bytes s) := by
  refine .ite ?_ (.refl s)
  split
  · exact .refl s
  · exact (refuseRequest_shut ..).sound
  · exact .ite (refuseRequest_shut ..).sound (.ite (refuseRequest_shut ..).sound (takeRecord_gates ..))

/-! ## Walls, the end of a regroup and idle batches (R18, R31, R153) -/

theorem senseChange_shut (w : Fin 3) (level : WallState) : GatesShut s (senseChange w level s) := by
  have hwalls (v : Vector WallRec 3) : GatesShut s { s with walls := v } := .of_units rfl
  exact .ite ((hwalls _).trans (post_shut ..)) (((hwalls _).trans (post_shut ..)).trans (regroupCause_shut _ true))

theorem sampleWall_shut (sense : Sense) (w : Fin 3) : GatesShut s (sampleWall sense s w) := by
  have hcount (n : Nat) : GatesShut s (s.setWallCount w n) := .of_units rfl
  exact .ite (hcount 0) (.ite (hcount _) (senseChange_shut ..))

theorem wallSenseChange_shut (w : Fin 3) : GatesShut s (wallSenseChange w s) := .ite (senseChange_shut ..) (.refl s)

theorem regroupDone_shut : GatesShut s (regroupDone s) :=
  .ite ((GatesShut.withRg (g := s.rg.settle) rfl fun h => ⟨h.1, h.1⟩).trans (post_shut ..)) (.refl s)

theorem abandonBatch_shut (p : Port) (ob : OpenBatch) : GatesShut s (abandonBatch p ob s) :=
  (setPort_shut s p { s.port p with batch := none } rfl).trans (postTo_shut ..)

theorem idleBoundary_shut (p : Port) : GatesShut s (idleBoundary p s) := by
  unfold idleBoundary
  split
  · exact .ite (abandonBatch_shut ..) (setPort_shut s p _ rfl)
  · exact .refl s

theorem batchIdleTimeout_shut (p : Port) : GatesShut s (batchIdleTimeout p s) := by
  unfold batchIdleTimeout
  split
  · exact .ite (abandonBatch_shut ..) (.refl s)
  · exact .refl s

/-! ## The clock (R4, R36) -/

theorem samplePeriod_shut (tdm : Vector SlotWord 8) (chan : Vector SlotWord 2) : GatesShut s (samplePeriod tdm chan s) := by
  obtain ⟨u, ⟨hu, -⟩, heq⟩ := samplePeriod_eq_portPeriod tdm chan s
  have hmix : GatesShut s u := by
    rw [hu]
    exact .of_kept ⟨⟨rfl, rfl, rfl⟩, rfl, rfl, fun p => by cases p <;> rfl⟩ (fun _ => rfl) id
  have hports (t : State) : GatesShut t (portPeriod tdm chan t) := .of_units rfl
  rw [heq]
  exact hmix.trans (hports u)

/-- The links' events, the handover and the walls' samples of a boundary. -/
theorem boundarySampled_shut (sense : Sense) : GatesShut s (boundarySampled sense s) := by
  obtain ⟨⟨-, -, -, hlinks, -⟩, hrg, hbegun, -⟩ := boundaryBegun_spec sense s
  have hbegin : GatesShut s (boundaryBegun sense s) := by
    refine .of_kept hbegun (fun i => by rw [hlinks]) fun h => ?_
    unfold MapsLegal
    rwa [hrg]
  have hevents (u : State) : GatesShut u (mics.foldl linkBoundary u) := by
    obtain ⟨w, -⟩ := linkBoundaries_step u
    exact ⟨.of_gates (linkBoundaries_placed mics u).gates,
      .of_frame w.live (congrArg Regroup.map w.rg) (·.of_rg w.rg) w.committed⟩
  have hhandover (u : State) : GatesShut u (handover u) :=
    .of_frame (by simp [handover]) fun p => by rw [handover_port, postAll_committed]
  have hframes (u : State) : GatesShut u (closeFrames u) :=
    .of_kept ⟨closeFrames_still u, rfl, rfl, fun p => by rw [closeFrames_port]⟩ (fun i => by rw [closeFrames_link])
      (·.of_rg (closeFrames_rg u))
  unfold boundarySampled boundaryLinks
  exact (((hbegin.trans (hevents _)).trans (hhandover _)).trans (hframes _)).trans
    (.foldl (fun _ w => sampleWall_shut sense w) _ _)

/-- The gating and floor units' decisions, and the snapshot: evaluations open gates, the floor unit none. -/
theorem boundaryDecided_gates (sense : Sense) : GatesSound s (boundaryDecided sense s) := by
  have hsnap (u : State) : GatesShut u (takeSnapshot u) :=
    .of_frame ⟨takeSnapshot_mute u, takeSnapshot_live u, rfl, takeSnapshot_gates u, takeSnapshot_rg u⟩ fun p => by
      rw [takeSnapshot_port]
  have hdecisions (u : State) : GatesSound u (boundaryDecisions u) :=
    (GatesSound.foldl gateEvaluation_sound slots u).trans takePieces_shut.sound
  unfold boundaryDecided
  exact ((boundarySampled_shut sense).sound.trans (hdecisions _)).trans (hsnap _).sound

/-- The configuration work of a boundary: of its parts the switch alone moves a microphone to another partition. -/
theorem boundaryTables_gates : GatesSound s (boundaryTables s) := by
  have hstep (u : State) : GatesShut u (readBusStep u) := .withRg rfl id
  have hend (u : State) : GatesShut u (regroupBoundaryEnd u) :=
    .of_kept (regroupBoundaryEnd_kept u).2 (fun _ => rfl) id
  have happlied : GatesShut s (readBusStep (applyCommitted .b (applyCommitted .a (idleBoundary .b (idleBoundary .a s))))) :=
    (((idleBoundary_shut .a).trans (idleBoundary_shut .b)).trans (applyCommitted_shut .a _)).trans (applyCommitted_shut .b _)
      |>.trans (hstep _)
  have hended (u : State) : GatesShut u (captureCopy 1 (captureCopy 0 (regroupBoundaryEnd (regroupDone u)))) :=
    ((regroupDone_shut.trans (hend _)).trans (captureCopy_shut 0)).trans (captureCopy_shut 1)
  exact (happlied.sound.trans (regroupSwitch_gates _)).trans (hended _).sound

theorem frameBoundary_sound (sense : Sense) (early : Bool) : GatesSound s (frameBoundary sense early s) := by
  have hdown (v : Vector Indicator 16) (u : State) : GatesShut u (startDownstream v u) :=
    .of_kept (startDownstream_holds v u) (fun i => by rw [startDownstream_links]) (·.of_rg (startDownstream_rg v u))
  have hworked : GatesSound s (boundaryWorked sense early s) := by
    unfold boundaryWorked
    exact ((boundaryDecided_gates sense).trans (hdown _ _).sound).trans boundaryTables_gates
  rw [frameBoundary_eq, followCompare_frame]
  exact hworked.trans (withLineA_shut _).sound

/-! ## Every command -/

theorem running_sound {f : State → State} {t : State} (hf : GatesSound s (f s)) (ht : running f s = .next t) :
    GatesSound s t := by
  cases hh : s.held with
  | false => exact eq_of_running hh ht ▸ hf.trans (settleLine_shut _).sound
  | true => exact eq_of_running_held hh ht ▸ .refl s

theorem running_shut {f : State → State} {t : State} (hf : GatesShut s (f s)) (ht : running f s = .next t) :
    GatesSound s t := running_sound hf.sound ht

theorem exec_request_sound {c : Instr} {p : Port} {r : Request} {t : State} (hc : portRequest c = some (p, r))
    (ht : exec c s = .next t) : GatesSound s t := by
  by_cases hr : r = .clear
  · subst hr
    have hclear : c = .clear p := by cases c <;> simp_all [portRequest]
    subst hclear
    exact running_sound (requestClear_gates p) ht
  · rw [exec_request c p r s hc hr] at ht
    exact running_shut (request_shut p r) ht

/-- Every command keeps both invariants: the boundary, GATE_HOLD_EXPIRY, the switch and the start-up events do more than close gates. -/
theorem exec_sound {c : Instr} {t : State} (ht : exec c s = .next t) : GatesSound s t := by
  cases hc : portRequest c with
  | some pr => exact exec_request_sound hc ht
  | none =>
    cases c with
    | startUp cause sense address =>
      exact (Outcome.next.inj ht) ▸ (startUp_gates _ _ s s).trans (settleLine_shut _).sound
    | resetAsserted => exact (Outcome.next.inj ht) ▸ (GatesShut.of_units rfl).sound
    | samplePeriod tdm line => exact running_shut (samplePeriod_shut ..) ht
    | frameBoundary sense early => exact running_sound (frameBoundary_sound ..) ht
    | badFrameRun i => exact running_shut (badFrameRun_shut i) ht
    | wallSenseChange w => exact running_shut (wallSenseChange_shut w) ht
    | gateHoldExpiry m => exact running_sound (gateHoldExpiry_sound m s) ht
    | queueExpiry m => exact running_shut (pieceAhead_shut ..) ht
    | speechWarn m => exact running_shut (pieceAhead_shut ..) ht
    | speechExpiry m => exact running_shut (pieceAhead_shut ..) ht
    | attemptFail i => exact running_shut (attemptFail_shut i) ht
    | dozeHandshakeTimeout i => exact running_shut (dozeTimeout_shut i) ht
    | detachHandshakeTimeout i => exact running_shut (detachTimeout_shut i) ht
    | residencyMet i => exact running_shut (residencyMet_shut i) ht
    | autoUp i => exact running_shut (autoUpEvent_shut i) ht
    | batchApplication p => exact running_shut (applyCommitted_shut p s) ht
    | batchIdleTimeout p => exact running_shut (batchIdleTimeout_shut p) ht
    | regroupSwitch => exact running_sound (regroupSwitch_gates s) ht
    | regroupDone => exact running_shut regroupDone_shut ht
    | upstreamFrameArrival i bytes => exact running_shut (upstreamArrival_shut ..) ht
    | hello i kind buttons slide => exact running_shut (takeHello_shut ..) ht
    | buttonMute i seq => exact running_shut (takeButton_shut ..) ht
    | buttonTalk i seq => exact running_shut (takeButton_shut ..) ht
    | buttonAll i seq => exact running_shut (takeButton_shut ..) ht
    | dozeAck i => exact running_shut (takeMessage_shut false .dozeAck i) ht
    | dozeNak i => exact running_shut (takeMessage_shut false .dozeNak i) ht
    | detachAck i => exact running_shut (takeMessage_shut false .detachAck i) ht
    | faultReport i code => exact running_shut (takeMessage_shut false (.faultReport code) i) ht
    | wake i => exact running_shut (takeMessage_shut false .wake i) ht
    | portACharacterReceived c => exact running_shut (withLineA_shut _) ht
    | portALineEnd => exact running_sound endOfLine_gates ht
    | portALineSent => exact running_shut lineSent_shut ht
    | portBWriteTransaction a bytes => exact running_sound (portBWrite_gates ..) ht
    | portBReadTransaction a count => exact running_shut (portBRead_shut ..) ht
    | loadComplete ok => exact running_shut (loadComplete_shut ok) ht
    | captureCopy b => exact running_shut (captureCopy_shut b) ht
    | storeComplete ok => exact running_shut (storeComplete_shut ok) ht
    | amendComplete ok verified => exact running_shut (amendComplete_shut ..) ht
    | eraseComplete => exact running_shut eraseComplete_shut ht
    | eraseStage => exact running_shut eraseStage_shut ht
    | _ => exact nomatch hc

end

/-- Settles O25: every operation opens no gate and keeps the partitions, or is one of the four of `exec_sound` that keep both
invariants for a reason of their own. -/
theorem everyStepKeepsHeldGatesClosed : Obligations.EveryStepKeepsHeldGatesClosed := by
  intro s t ht
  have hsound : GatesSound s t := by
    unfold step at ht
    split at ht
    · cases ht
      exact .refl s
    · next rest _ =>
      have hrest : GatesShut s { s with pending := rest } := .of_units rfl
      exact hrest.sound.trans (exec_sound ht)
  have halone : LastOnSound s → LastOnSound t := hsound.alone
  exact ⟨hsound.held, fun ⟨hlegal, hplain, hlast⟩ => and_assoc.1 (halone ⟨⟨hlegal, hplain⟩, hlast⟩)⟩
end Sys2Proof.Machine
end

section
/-! SUPPORT. The floor requests in a CHAIRED partition (R105 to R110): O36, O37 and O38. -/

namespace Sys2Proof.Machine
open Host

section
variable {p : Port} {s : State}

/-! ## The checks of R105, passed -/

theorem onSource_chaired {m : Fin 16} {f : Fin 16 → State → Reply} (h : s.mode (s.micPart m) = .chaired) :
    onSource m.val f s = f m s := by
  simp only [onSource, State.floorSource, index?_val, if_pos h]

theorem onSlot_chaired {q : Fin 4} {f : Fin 4 → State → Reply} (hlead : isLead s.rg.map q = true) (h : s.mode q = .chaired) :
    onSlot q.val f s = f q s := by
  simp only [onSlot, State.floorSlot, index?_val, if_pos hlead, if_pos h]

theorem onSource_received {m : Fin 16} {f : Fin 16 → State → Reply} (h : s.mode (s.micPart m) = .chaired) :
    onSource m.val f (received p s) = f m (received p s) :=
  onSource_chaired (by rwa [received_micPart, received_mode])

theorem onSlot_received {q : Fin 4} {f : Fin 4 → State → Reply} (hlead : isLead s.rg.map q = true) (h : s.mode q = .chaired) :
    onSlot q.val f (received p s) = f q (received p s) :=
  onSlot_chaired (by rwa [received_rg]) (by rwa [received_mode])

/-! ## What a floor operation reads is not moved by the receipt of its request -/

theorem received_lead (q : Fin 4) : (received p s).lead q = s.lead q := by rw [State.lead, received_live]; rfl
theorem received_isChair (m : Fin 16) : (received p s).isChair m = s.isChair m := by rw [State.isChair, received_live]; rfl
theorem received_floorOf (m : Fin 16) : (received p s).floorOf m = s.floorOf m := by
  simp only [State.floorOf, received_micPart, received_floors]

theorem setFloor_received (q : Fin 4) (c : FloorChange) : setFloor q c (received p s) =
    retarget (received p s) (State.post { received p s with floors := s.floors.set q.val c.1 } c.2) := by
  rw [setFloor, received_floors]
  rfl

/-! ## One rule for each outcome of a floor operation -/

section
variable {m : Fin 16}

theorem not_granted_or_chair (hgranted : (s.floorOf m).granted m = false) (hchair : s.isChair m = false) :
    ¬((s.floorOf m).granted m || s.isChair m) = true := by
  rw [hgranted, hchair]
  exact Bool.false_ne_true

theorem askMic_linkDown (h : (s.links[m]).state ≠ .active) : askMic m s = s.refuse .linkDown := if_pos h

theorem askMic_alreadyGranted (hlink : (s.links[m]).state = .active)
    (h : (s.floorOf m).granted m = true ∨ s.isChair m = true) : askMic m s = s.refuse .alreadyGranted :=
  (if_neg (not_not.2 hlink)).trans (if_pos (Bool.or_eq_true_iff.2 h))

theorem askMic_duplicate (hlink : (s.links[m]).state = .active) (hgranted : (s.floorOf m).granted m = false)
    (hchair : s.isChair m = false) (h : (s.floorOf m).queued m = true) : askMic m s = s.refuse .duplicate :=
  (if_neg (not_not.2 hlink)).trans ((if_neg (not_granted_or_chair hgranted hchair)).trans (if_pos h))

/-- An ASK that is taken grants at once under auto-grant with an empty queue and room, and queues otherwise (R106). -/
theorem askMic_taken (hlink : (s.links[m]).state = .active) (hgranted : (s.floorOf m).granted m = false)
    (hchair : s.isChair m = false) (hqueued : (s.floorOf m).queued m = false) :
    let q := s.micPart m
    let r := s.floorOf m
    let now := (s.lead q).autoGrant && r.queue.isEmpty && decide (r.grants.length < (s.lead q).speakerLimit)
    askMic m s =
      { state := setFloor q (if now then r.addGrant m else r.enqueue m, [.floor q m (if now then .granted else .queued)]) s
        status := .ok
        data := [if now then 0 else 1] } := by
  intro q r now
  have hfree : askMic m s = if now then
        { state := setFloor q (r.addGrant m, [.floor q m .granted]) s, status := .ok, data := [0] }
      else { state := setFloor q (r.enqueue m, [.floor q m .queued]) s, status := .ok, data := [1] } :=
    (if_neg (not_not.2 hlink)).trans ((if_neg (not_granted_or_chair hgranted hchair)).trans
      (if_neg (Bool.eq_false_iff.1 hqueued)))
  rw [hfree]
  cases now <;> rfl

theorem withdrawMic_queued (h : (s.floorOf m).queued m = true) : withdrawMic m s =
    { state := setFloor (s.micPart m) ((s.floorOf m).unqueue m, [.floor (s.micPart m) m .withdrawn]) s, status := .ok } :=
  if_pos h

theorem withdrawMic_notQueued (h : (s.floorOf m).queued m = false) : withdrawMic m s = s.refuse .notQueued :=
  if_neg (Bool.eq_false_iff.1 h)

theorem endGrant_granted {event : FloorEvent} (h : (s.floorOf m).granted m = true) : endGrant event m s =
    { state := setFloor (s.micPart m) ((s.floorOf m).ungrant m, [.floor (s.micPart m) m event]) s, status := .ok } :=
  if_pos h

theorem endGrant_notGranted {event : FloorEvent} (h : (s.floorOf m).granted m = false) :
    endGrant event m s = s.refuse .notGranted := if_neg (Bool.eq_false_iff.1 h)

theorem grantMic_alreadyGranted (h : (s.floorOf m).granted m = true ∨ s.isChair m = true) :
    grantMic m s = s.refuse .alreadyGranted := if_pos (Bool.or_eq_true_iff.2 h)

theorem grantMic_grants (hgranted : (s.floorOf m).granted m = false) (hchair : s.isChair m = false)
    (h : (s.floorOf m).queued m = true ∨ (s.links[m]).state = .active) : grantMic m s = makeGrant (s.micPart m) m s :=
  (if_neg (not_granted_or_chair hgranted hchair)).trans (if_pos (Bool.or_eq_true_iff.2 (h.imp_right decide_eq_true)))

theorem grantMic_linkDown (hgranted : (s.floorOf m).granted m = false) (hchair : s.isChair m = false)
    (hqueued : (s.floorOf m).queued m = false) (hlink : (s.links[m]).state ≠ .active) : grantMic m s = s.refuse .linkDown :=
  (if_neg (not_granted_or_chair hgranted hchair)).trans
    (if_neg fun h => (Bool.or_eq_true_iff.1 h).elim (Bool.eq_false_iff.1 hqueued) fun h => hlink (of_decide_eq_true h))

section
variable {q : Fin 4}

theorem makeGrant_room (h : (s.floors[q]).grants.length < (s.lead q).speakerLimit) : makeGrant q m s =
    { state := setFloor q (((s.floors[q]).unqueue m).addGrant m, [.floor q m .granted]) s, status := .ok } := if_pos h

theorem makeGrant_bump (h : ¬(s.floors[q]).grants.length < (s.lead q).speakerLimit) (hbump : (s.lead q).overflow = .bump)
    {g : GrantEntry} {rest : List GrantEntry} (hgrants : (s.floors[q]).grants = g :: rest) : makeGrant q m s =
    { state := setFloor q ((({ s.floors[q] with grants := rest } : FloorRec).unqueue m).addGrant m,
        [.floor q g.mic .bumped, .floor q m .granted]) s
      status := .ok } := by
  rw [makeGrant, if_neg h, hbump, hgrants]

theorem makeGrant_full (h : ¬(s.floors[q]).grants.length < (s.lead q).speakerLimit)
    (hno : (s.lead q).overflow = .refuse ∨ (s.floors[q]).grants = []) : makeGrant q m s = s.refuse .floorFull := by
  rw [makeGrant, if_neg h]
  rcases hno with hno | hno
  · rw [hno]
  · rw [hno]
    cases (s.lead q).overflow <;> rfl

theorem grantOldest_empty (h : (s.floors[q]).queue = []) : grantOldest q s = s.refuse .notQueued := by
  simp only [grantOldest, h]

theorem grantOldest_grants {e : QueueEntry} {rest : List QueueEntry} (h : (s.floors[q]).queue = e :: rest) :
    grantOldest q s = makeGrant q e.mic s := by simp only [grantOldest, h]

end

end

/-- Settles O36: ASK on the received request, by the rule of each outcome. -/
theorem askQueuesOrGrants : Obligations.AskQueuesOrGrants := by
  intro p m s hready q r hmode now after
  have hbody : (Request.ask m.val).body p (s.port p).keep (received p s) = askMic m (received p s) := onSource_received hmode
  have hrefuses {st : Status} (h : askMic m (received p s) = (received p s).refuse st) (hst : st.taken = false) :
      exec (.ask p m.val) s = .next (refused p .ask st s) :=
    exec_refuses (r := .ask m.val) rfl Request.noConfusion hready (hbody.trans h) hst
  rw [← received_links p s, ← received_isChair (p := p) m]
  have hr : r = (received p s).floorOf m := (received_floorOf m).symm
  refine ⟨fun hlink => hrefuses (askMic_linkDown hlink) rfl,
    fun hlink h => hrefuses (askMic_alreadyGranted hlink (hr ▸ h)) rfl,
    fun hlink hgranted hchair h => hrefuses (askMic_duplicate hlink (hr ▸ hgranted) hchair (hr ▸ h)) rfl,
    fun hlink hgranted hchair hqueued => ?_⟩
  have htaken := askMic_taken hlink (hr ▸ hgranted) hchair (hr ▸ hqueued)
  simp only [received_micPart, received_lead, received_floorOf, setFloor_received] at htaken
  exact exec_takes (r := .ask m.val) rfl Request.noConfusion hready (hbody.trans htaken) rfl

/-- Settles O37: each removal finds the entry that it names, or is refused. -/
theorem floorEntriesLeave : Obligations.FloorEntriesLeave := by
  intro p m s hready q r hmode set ungranted
  have hset (c : FloorChange) : setFloor q c (received p s) = set c.1 c.2 := setFloor_received q c
  have hr : (received p s).floorOf m = r := received_floorOf m
  have hend (event : FloorEvent) : endGrant event m (received p s) =
      if r.granted m then { state := set ungranted [.floor q m event], status := .ok }
      else (received p s).refuse .notGranted := by
    cases h : r.granted m with
    | true => rw [endGrant_granted (hr ▸ h), received_micPart, hr, hset]; rfl
    | false => rw [endGrant_notGranted (hr ▸ h)]; rfl
  have hwithdraw : withdrawMic m (received p s) =
      if r.queued m then { state := set (r.unqueue m) [.floor q m .withdrawn], status := .ok }
      else (received p s).refuse .notQueued := by
    cases h : r.queued m with
    | true => rw [withdrawMic_queued (hr ▸ h), received_micPart, hr, hset]; rfl
    | false => rw [withdrawMic_notQueued (hr ▸ h)]; rfl
  have hanswer {c : Instr} {rq : Request} (hc : portRequest c = some (p, rq)) (hclass : rq.reqClass = .conference)
      {b : Bool} {u : State} {st : Status} (hst : st.taken = false)
      (hbody : rq.body p (s.port p).keep (received p s) =
        if b then { state := u, status := .ok } else (received p s).refuse st) :
      exec c s = .next (if b then answered p rq.name .ok [] u else refused p rq.name st s) := by
    have hn : rq ≠ .clear := by rintro rfl; exact ReqClass.noConfusion hclass
    cases b with
    | true => exact exec_takes hc hn (hclass ▸ hready) hbody rfl
    | false => exact exec_refuses hc hn (hclass ▸ hready) hbody hst
  refine ⟨hanswer (rq := .withdraw m.val) rfl rfl rfl ((onSource_received hmode).trans hwithdraw),
    hanswer (rq := .release m.val) rfl rfl rfl ((onSource_received hmode).trans (hend .released)),
    hanswer (rq := .revoke m.val) rfl rfl rfl ((onSource_received hmode).trans (hend .revoked)), fun hlead => ?_⟩
  have hclear : clearQueue q (received p s) =
      { state := set { r with queue := [] } (r.queue.map fun e => .floor q e.mic .cleared), status := .ok } := by
    rw [clearQueue, hset, received_floors]
  exact exec_takes (r := .clearQ q.val) rfl Request.noConfusion hready ((onSlot_received hlead hmode).trans hclear) rfl

/-- Settles O38: GRANT and GRANT_NEXT make the same grant, and are refused each for its own reasons. -/
theorem grantGivesTheFloor : Obligations.GrantGivesTheFloor := by
  intro p m s hready q r cfg set given hmode
  have hset (c : FloorChange) : setFloor q c (received p s)
      = retarget (received p s) (State.post { received p s with floors := s.floors.set q.val c.1 } c.2) := setFloor_received q c
  have hgiven {c : Instr} {rq : Request} (hc : portRequest c = some (p, rq)) (hclass : rq.reqClass = .conference)
      (hbody : rq.body p (s.port p).keep (received p s) = makeGrant q m (received p s)) : exec c s = .next (given rq.name) := by
    have hn : rq ≠ .clear := by rintro rfl; exact ReqClass.noConfusion hclass
    have hfloor : (received p s).floors[q] = r := by rw [received_floors]
    have hlead : (received p s).lead q = cfg := received_lead q
    by_cases hroom : r.grants.length < cfg.speakerLimit
    · have hgrant := makeGrant_room (m := m) (q := q) (s := received p s) (by rwa [hfloor, hlead])
      rw [hset, hfloor] at hgrant
      simp only [given, if_pos hroom]
      exact exec_takes hc hn (hclass ▸ hready) (hbody.trans hgrant) rfl
    · have hfull : ¬((received p s).floors[q]).grants.length < ((received p s).lead q).speakerLimit := by rwa [hfloor, hlead]
      have hrefuse (hno : cfg.overflow = .refuse ∨ r.grants = []) : exec c s = .next (refused p rq.name .floorFull s) :=
        exec_refuses hc hn (hclass ▸ hready) (hbody.trans (makeGrant_full hfull (by rwa [hfloor, hlead]))) rfl
      simp only [given, if_neg hroom]
      split
      · next g rest hbump hgrants =>
        have hgrant := makeGrant_bump (m := m) hfull (by rwa [hlead]) (by rwa [hfloor])
        rw [hset, hfloor] at hgrant
        exact exec_takes hc hn (hclass ▸ hready) (hbody.trans hgrant) rfl
      · next hno =>
        refine hrefuse ?_
        cases hov : cfg.overflow with
        | refuse => exact .inl rfl
        | bump =>
          cases hgr : r.grants with
          | nil => exact .inr rfl
          | cons g rest => exact absurd hgr (hno g rest hov)
  have hr : (received p s).floorOf m = r := received_floorOf m
  have hgrant : (Request.grant m.val).body p (s.port p).keep (received p s) = grantMic m (received p s) := onSource_received hmode
  have hrefuses {st : Status} (h : grantMic m (received p s) = (received p s).refuse st) (hst : st.taken = false) :
      exec (.grant p m.val) s = .next (refused p .grant st s) :=
    exec_refuses (r := .grant m.val) rfl Request.noConfusion hready (hgrant.trans h) hst
  rw [← received_links p s, ← received_isChair (p := p) m]
  refine ⟨fun hgranted hchair h => hgiven (rq := .grant m.val) rfl rfl (hgrant.trans ?_),
    fun h => hrefuses (grantMic_alreadyGranted (hr ▸ h)) rfl,
    fun hgranted hchair hqueued hlink => hrefuses (grantMic_linkDown (hr ▸ hgranted) hchair (hr ▸ hqueued) hlink) rfl,
    fun hlead h => ?_, fun hlead h => ?_⟩
  · rw [grantMic_grants (hr ▸ hgranted) hchair (hr ▸ h), received_micPart]
  · obtain ⟨e, rest, hqueue, rfl⟩ := h
    exact hgiven (rq := .grantNext q.val) rfl rfl
      ((onSlot_received hlead hmode).trans (grantOldest_grants (by rwa [received_floors])))
  · exact exec_refuses (r := .grantNext q.val) rfl Request.noConfusion hready
      ((onSlot_received hlead hmode).trans (grantOldest_empty (by rwa [received_floors]))) rfl

end
end Sys2Proof.Machine
end

section
/-! SUPPORT. The floor unit's piece of work for one boundary (R111 to R115), as an equation: O40. -/

namespace Sys2Proof.Machine
open Host

section
variable (p : Fin 4) (cfg : SectionRec) (r : FloorRec)

/-! ## The three stages -/

theorem queueStage_eq : queueStage p cfg r =
    ({ r with queue := (r.queue.filter fun e => !queueExpired cfg (ageUp e.age)).map fun e => { e with age := ageUp e.age } },
      (r.queue.filter fun e => queueExpired cfg (ageUp e.age)).map fun e => .floor p e.mic .expired) := by
  simp only [queueStage, List.filter_map, List.map_map]
  rfl

theorem warnDue_eq (warned : Bool) (elapsed : Nat) : warnDue cfg warned elapsed =
    decide (0 < cfg.warnLead ∧ cfg.warnLead < cfg.speechLimit ∧ warned = false
      ∧ (cfg.speechLimit - cfg.warnLead) * 1000 ≤ elapsed) := by
  rw [Bool.eq_iff_iff, warnDue, Bool.and_eq_true, Bool.and_eq_true, Bool.not_eq_true', decide_eq_true_iff, decide_eq_true_iff,
    decide_eq_true_iff]
  constructor
  · rintro ⟨⟨⟨-, hlead, hbelow⟩, hwarned⟩, hreached⟩
    exact ⟨hlead, hbelow, hwarned, hreached⟩
  · rintro ⟨hlead, hbelow, hwarned, hreached⟩
    exact ⟨⟨⟨by omega, hlead, hbelow⟩, hwarned⟩, hreached⟩

/-- A grant posts at most one expiry notice, as REVOKED or KEPT (R114). -/
theorem expiryNotices_eq (l : List GrantEntry) : l.flatMap (expiryNotices p cfg) =
    (l.filter fun g => revokeDue cfg (ageUp g.elapsed) || keptDue cfg g.elapsed).map fun g =>
      .speechExpired p g.mic (revokeDue cfg (ageUp g.elapsed)) cfg.speechLimit := by
  induction l with
  | nil => rfl
  | cons g l ih =>
    rw [List.flatMap_cons, ih, expiryNotices, List.filter_cons]
    cases hspent : revokeDue cfg (ageUp g.elapsed) with
    | true => simp [hspent]
    | false => cases hkept : keptDue cfg g.elapsed <;> simp [hspent]

theorem grantStage_eq : grantStage p cfg r =
    ({ r with grants := (r.grants.filter fun g => !revokeDue cfg (ageUp g.elapsed)).map (agedGrant cfg) },
      (r.grants.filter fun g => warnDue cfg g.warned (ageUp g.elapsed)).map (fun g => .speechWarn p g.mic cfg.speechLimit)
        ++ (r.grants.filter fun g => revokeDue cfg (ageUp g.elapsed) || keptDue cfg g.elapsed).map fun g =>
            .speechExpired p g.mic (revokeDue cfg (ageUp g.elapsed)) cfg.speechLimit) := by
  simp only [grantStage, List.filter_map, expiryNotices_eq]
  rfl

/-- Grants made one after another stand at the end of the grant list in that order. -/
theorem addGrants_eq (l : List QueueEntry) : l.foldl (fun r' e => r'.addGrant e.mic) r =
    { r with grants := r.grants ++ l.map fun e => { mic := e.mic, elapsed := 0, warned := false } } := by
  induction l generalizing r with
  | nil => simp
  | cons e l ih =>
    rw [List.foldl_cons, ih]
    simp [FloorRec.addGrant]

/-- The room that the auto-grant fill finds: none where auto-grant is Off (R111). -/
def fillRoom : Nat := if cfg.autoGrant then cfg.speakerLimit - r.grants.length else 0

theorem fillStage_eq : fillStage p cfg r =
    ({ queue := r.queue.drop (fillRoom cfg r)
       grants := r.grants ++ (r.queue.take (fillRoom cfg r)).map fun e => { mic := e.mic, elapsed := 0, warned := false } },
      (r.queue.take (fillRoom cfg r)).map fun e => .floor p e.mic .granted) := by
  unfold fillStage fillRoom
  cases cfg.autoGrant with
  | true => simp only [if_true, addGrants_eq]
  | false => simp

/-! ## The whole piece -/

/-- The queue and the grants after one boundary, before the fill. -/
def agedFloor : FloorRec where
  queue := (r.queue.filter fun e => !queueExpired cfg (ageUp e.age)).map fun e => { e with age := ageUp e.age }
  grants := (r.grants.filter fun g => !revokeDue cfg (ageUp g.elapsed)).map (agedGrant cfg)

theorem floorPiece_eq : floorPiece p cfg r =
    let a := agedFloor cfg r
    let next := a.queue.take (fillRoom cfg a)
    ({ queue := a.queue.drop (fillRoom cfg a)
       grants := a.grants ++ next.map fun e => { mic := e.mic, elapsed := 0, warned := false } },
      ((r.queue.filter fun e => queueExpired cfg (ageUp e.age)).map fun e => .floor p e.mic .expired)
        ++ ((r.grants.filter fun g => warnDue cfg g.warned (ageUp g.elapsed)).map fun g => .speechWarn p g.mic cfg.speechLimit)
        ++ ((r.grants.filter fun g => revokeDue cfg (ageUp g.elapsed) || keptDue cfg g.elapsed).map fun g =>
            .speechExpired p g.mic (revokeDue cfg (ageUp g.elapsed)) cfg.speechLimit)
        ++ next.map fun e => .floor p e.mic .granted) := by
  simp only [floorPiece, queueStage_eq, grantStage_eq, fillStage_eq, List.append_assoc]
  rfl

theorem expired_mem_piece {e : QueueEntry} (he : e ∈ r.queue) (hold : queueExpired cfg (ageUp e.age) = true) :
    Notice.floor p e.mic .expired ∈ (floorPiece p cfg r).2 := by
  rw [floorPiece_eq]
  simp only [List.mem_append]
  exact .inl (.inl (.inl (List.mem_map.2 ⟨e, List.mem_filter.2 ⟨he, hold⟩, rfl⟩)))

theorem speechWarn_mem_piece {g : GrantEntry} (hg : g ∈ r.grants) (hwarn : warnDue cfg g.warned (ageUp g.elapsed) = true) :
    Notice.speechWarn p g.mic cfg.speechLimit ∈ (floorPiece p cfg r).2 := by
  rw [floorPiece_eq]
  simp only [List.mem_append]
  exact .inl (.inl (.inr (List.mem_map.2 ⟨g, List.mem_filter.2 ⟨hg, hwarn⟩, rfl⟩)))

theorem speechExpired_mem_piece {g : GrantEntry} (hg : g ∈ r.grants)
    (hdue : (revokeDue cfg (ageUp g.elapsed) || keptDue cfg g.elapsed) = true) :
    Notice.speechExpired p g.mic (revokeDue cfg (ageUp g.elapsed)) cfg.speechLimit ∈ (floorPiece p cfg r).2 := by
  rw [floorPiece_eq]
  simp only [List.mem_append]
  exact .inl (.inr (List.mem_map.2 ⟨g, List.mem_filter.2 ⟨hg, hdue⟩, rfl⟩))

/-- A count is kept under WARN_ONLY alone, so that its notice says KEPT (R114). -/
theorem revokeDue_of_keptDue {before elapsed : Nat} (h : keptDue cfg before = true) : revokeDue cfg elapsed = false := by
  obtain ⟨hexpiry, -, -⟩ := of_decide_eq_true h
  refine decide_eq_false fun hrevoke => ?_
  exact Expiry.noConfusion (hexpiry.symm.trans hrevoke.1)

end

/-! ## The timed rows of one entry -/

section
variable {p : Fin 4} {due : Bool} {s : State}

theorem pieceAhead_taken (hdue : due = true) (hin : s.slotIn .chaired p = true) (hahead : s.ahead.floors[p] = false) :
    pieceAhead p due s
      = (setFloor p (floorPiece p (s.lead p) s.floors[p]) s).withWorked (put s.ahead.floors p true) := by
  have hwork : floorWork s p = setFloor p (floorPiece p (s.lead p) s.floors[p]) s := if_pos (by rw [hin, hahead]; rfl)
  rw [pieceAhead, hwork]
  exact if_pos (by rw [hdue, hin, hahead]; rfl)

theorem pieceAhead_idle (h : ¬((s.slotIn .chaired p = true ∧ s.ahead.floors[p] = false) ∧ due = true)) :
    pieceAhead p due s = s := by
  refine if_neg fun hall => h ?_
  simp only [Bool.and_eq_true, Bool.not_eq_true'] at hall
  exact ⟨⟨hall.1.2, hall.2⟩, hall.1.1⟩

end

/-- Settles O40: each row takes the piece where its entry's time comes, which is when the piece posts the entry's notice. -/
theorem floorTimersExpire : Obligations.FloorTimersExpire := by
  intro m s hh q r cfg up limit piece taken may old warn spent kept
  have hold : (r.queue.any fun e => decide (e.mic = m) && queueExpired cfg (ageUp e.age)) = true ↔ old := by
    simp only [List.any_eq_true, Bool.and_eq_true, decide_eq_true_eq, queueExpired]
    rfl
  have hgrant (test : GrantEntry → Bool) : s.grantAny q m test = true ↔ ∃ g ∈ r.grants, g.mic = m ∧ test g = true := by
    simp only [State.grantAny, List.any_eq_true, Bool.and_eq_true, decide_eq_true_eq]
    rfl
  have hwarn : (s.grantAny q m fun g => warnDue cfg g.warned (ageUp g.elapsed)) = true ↔ warn := by
    rw [hgrant]
    refine exists_congr fun g => and_congr_right fun _ => and_congr_right fun _ => ?_
    rw [warnDue_eq, decide_eq_true_iff]
    exact ⟨fun ⟨hlead, hbelow, hwarned, hreached⟩ => ⟨hwarned, hlead, hbelow, hreached⟩,
      fun ⟨hwarned, hlead, hbelow, hreached⟩ => ⟨hlead, hbelow, hwarned, hreached⟩⟩
  have hspent (g : GrantEntry) : revokeDue cfg (ageUp g.elapsed) = true ↔
      cfg.expiry = .revoke ∧ 0 < cfg.speechLimit ∧ limit ≤ up g.elapsed := decide_eq_true_iff
  have hkept (g : GrantEntry) : keptDue cfg g.elapsed = true ↔
      cfg.expiry = .warnOnly ∧ 0 < cfg.speechLimit ∧ g.elapsed + 1 = limit := decide_eq_true_iff
  have hdue : (s.grantAny q m fun g => revokeDue cfg (ageUp g.elapsed) || keptDue cfg g.elapsed) = true ↔ spent ∨ kept := by
    simp only [hgrant, Bool.or_eq_true, hspent, hkept, spent, kept, ← exists_or, ← and_or_left]
  have htaken {due : Bool} (hd : due = true) (hmay : may) :
      running (pieceAhead q due) s = .next (settleLine taken) := by
    rw [running_next _ s hh, pieceAhead_taken hd hmay.1 hmay.2]
    rfl
  have hidle {due : Bool} {P : Prop} (hd : due = true ↔ P) (hno : ¬(may ∧ P)) :
      running (pieceAhead q due) s = .next (settleLine s) := by
    rw [running_next _ s hh, pieceAhead_idle (by rwa [hd])]
  refine ⟨fun ⟨hmay, hentry⟩ => ⟨htaken (hold.2 hentry) hmay, ?_⟩, hidle hold,
    fun ⟨hmay, hentry⟩ => ⟨htaken (hwarn.2 hentry) hmay, ?_⟩, hidle hwarn,
    fun ⟨hmay, hentry⟩ => ⟨htaken (hdue.2 (.inl hentry)) hmay, ?_⟩,
    fun ⟨hmay, hentry⟩ => ⟨htaken (hdue.2 (.inr hentry)) hmay, ?_⟩, hidle hdue⟩
  · obtain ⟨e, he, rfl, hreached⟩ := hentry
    exact expired_mem_piece q cfg r he (decide_eq_true hreached)
  · obtain ⟨g, hg, rfl, hwarned, hlead, hbelow, hreached⟩ := hentry
    exact speechWarn_mem_piece q cfg r hg ((warnDue_eq ..).trans (decide_eq_true ⟨hlead, hbelow, hwarned, hreached⟩))
  · obtain ⟨g, hg, rfl, hreached⟩ := hentry
    have hrevoke := (hspent g).2 hreached
    exact hrevoke ▸ speechExpired_mem_piece q cfg r hg (by rw [hrevoke, Bool.true_or])
  · obtain ⟨g, hg, rfl, hreached⟩ := hentry
    have hkeep := (hkept g).2 hreached
    exact revokeDue_of_keptDue cfg hkeep ▸ speechExpired_mem_piece q cfg r hg (by rw [hkeep, Bool.or_true])

end Sys2Proof.Machine
end

section
/-! SUPPORT. The bounds of a floor record (R104), and the floor unit's work at FRAME_BOUNDARY (R115; log 1): O39. -/

namespace Sys2Proof.Machine
open Host
open scoped List

/-! ## The microphones of a record -/

/-- The microphones of a record's entries, the queue's before the grants'. -/
def FloorRec.entries (r : FloorRec) : List (Fin 16) := r.queue.map (·.mic) ++ r.grants.map (·.mic)

theorem FloorRec.mem_entries (r : FloorRec) (m : Fin 16) : m ∈ r.entries ↔ r.queued m = true ∨ r.granted m = true := by
  simp only [FloorRec.entries, FloorRec.queued, FloorRec.granted, List.mem_append, List.mem_map, List.any_eq_true,
    decide_eq_true_eq]

/-- A record with some of the entries of another, in whatever order, keeps its sources apart. -/
theorem nodup_of_subperm {α : Type} {l l' : List α} (h : l' <+~ l) (hl : l.Nodup) : l'.Nodup := by
  obtain ⟨x, hperm, hsub⟩ := h
  exact hperm.nodup_iff.1 (hl.sublist hsub)

/-! ## The piece of work keeps the bounds -/

section
variable (p : Fin 4) (cfg : SectionRec) (r : FloorRec)

theorem agedFloor_entries : (agedFloor cfg r).entries <+ r.entries := by
  simp only [FloorRec.entries, agedFloor, List.map_map]
  exact (List.filter_sublist.map _).append (List.filter_sublist.map _)

/-- No source joins a record at a boundary. -/
theorem floorPiece_entries : (floorPiece p cfg r).1.entries <+~ r.entries := by
  refine List.Subperm.trans (List.Perm.subperm ?_) (agedFloor_entries cfg r).subperm
  rw [floorPiece_eq]
  generalize agedFloor cfg r = a
  simp only [FloorRec.entries, List.map_append, List.map_map, ← List.append_assoc]
  refine (List.perm_append_comm).trans ?_
  rw [← List.append_assoc]
  exact .append_right _ (.of_eq (List.map_append.symm.trans (congrArg (List.map QueueEntry.mic) (List.take_append_drop ..))))

theorem floorPiece_grants (h : r.grants.length ≤ cfg.speakerLimit) :
    (floorPiece p cfg r).1.grants.length ≤ cfg.speakerLimit := by
  have haged : (agedFloor cfg r).grants.length ≤ r.grants.length := by
    rw [agedFloor, List.length_map]
    exact List.length_filter_le ..
  rw [floorPiece_eq, List.length_append, List.length_map, List.length_take, fillRoom]
  split <;> omega

theorem floorPiece_bounded (h : r.Bounded cfg.speakerLimit) : (floorPiece p cfg r).1.Bounded cfg.speakerLimit :=
  ⟨nodup_of_subperm (floorPiece_entries p cfg r) h.1, floorPiece_grants p cfg r h.2⟩

end

/-! ## The work of all slots (R115; log 1) -/

section
variable (s u : State)

theorem pieceTaken_floor (x q : Fin 4) : (pieceTaken s u x).floors[q] =
    if x = q ∧ s.slotIn .chaired q = true ∧ s.ahead.floors[q] = false then (floorPiece q (s.lead q) s.floors[q]).1
    else u.floors[q] := by
  unfold pieceTaken
  by_cases hx : x = q
  · subst hx
    simp only [true_and]
    split
    · simp
    · rfl
  · simp only [hx, false_and, if_false]
    split
    · exact put_other u.floors x q _ (Ne.symm hx)
    · rfl

theorem piecesTaken_floor (l : List (Fin 4)) (q : Fin 4) : (l.foldl (pieceTaken s) u).floors[q] =
    if q ∈ l ∧ s.slotIn .chaired q = true ∧ s.ahead.floors[q] = false then (floorPiece q (s.lead q) s.floors[q]).1
    else u.floors[q] := by
  induction l generalizing u with
  | nil => simp
  | cons x l ih =>
    rw [List.foldl_cons, ih, pieceTaken_floor]
    simp only [List.mem_cons, eq_comm (a := q)]
    by_cases hmay : s.slotIn .chaired q = true ∧ s.ahead.floors[q] = false
    · simp only [hmay, and_true, and_self]
      by_cases hq : q ∈ l <;> simp [hq]
    · simp only [hmay, and_false, if_false]

/-- Every slot's record after the boundary's floor work, each by its own record before it. -/
theorem takePieces_floor (q : Fin 4) : (takePieces s).floors[q] =
    if s.slotIn .chaired q = true ∧ s.ahead.floors[q] = false then (floorPiece q (s.lead q) s.floors[q]).1
    else s.floors[q] := by
  rw [takePieces, withWorked_floors, slots,
    floorWorks_eq s (List.finRange 4) (List.nodup_finRange 4) s rfl rfl rfl fun _ _ => rfl, piecesTaken_floor]
  simp only [List.mem_finRange, true_and]

/-- The decisions of a boundary leave in each record the floor unit's work alone. -/
theorem boundaryDecisions_floor (q : Fin 4) : (boundaryDecisions s).floors[q] =
    if s.slotIn .chaired q = true ∧ s.ahead.floors[q] = false then (floorPiece q (s.lead q) s.floors[q]).1
    else s.floors[q] := by
  have hgates (l : List (Fin 4)) (u : State) : (l.foldl gateEvaluation u).floors = u.floors
      ∧ (l.foldl gateEvaluation u).live = u.live ∧ (l.foldl gateEvaluation u).rg = u.rg
      ∧ (l.foldl gateEvaluation u).ahead.floors = u.ahead.floors := by
    induction l generalizing u with
    | nil => exact ⟨rfl, rfl, rfl, rfl⟩
    | cons x l ih =>
      have hstep : (gateEvaluation u x).ahead.floors = u.ahead.floors := by simp
      simpa [hstep] using ih (gateEvaluation u x)
  obtain ⟨hfloors, hlive, hrg, hahead⟩ := hgates slots s
  rw [boundaryDecisions, takePieces_floor, State.slotIn, mode_congr hlive (congrArg Regroup.map hrg), State.lead, hfloors, hlive,
    hrg, hahead]
  rfl

end

theorem takeSnapshot_floors (s : State) : (takeSnapshot s).floors = s.floors := rfl

/-- Where no link changes its state, the links' events and the walls' samples of a boundary move no hold, gate or floor record. -/
theorem boundarySampled_still {sense : Sense} {early : Bool} {s t : State} (ht : t = settleLine (frameBoundary sense early s))
    (hstay : LinksStay s t) : MuteStill s (boundarySampled sense s) := by
  obtain ⟨⟨-, -, -, hblinks, -⟩, -, hbegun, -⟩ := boundaryBegun_spec sense s
  have hlinked : MuteStill s (boundaryLinks sense s) := by
    refine hbegun.still.trans ?_
    have hsame := (boundaryLinks_work sense s).2
    unfold boundaryLinks at hsame ⊢
    refine linkBoundaries_still _ fun j => ?_
    have hj := hstay j
    rw [frameBoundary_link ht] at hj
    rw [hsame, hblinks]
    exact hj
  exact ((hlinked.trans (handover_still _)).trans (closeFrames_still _)).trans (boundarySampled_kept ..).holds.still

/-- The record that a boundary leaves in each slot, where no switch is due and no link moves. -/
theorem frameBoundary_floor {sense : Sense} {early : Bool} {s t : State} (ht : t = settleLine (frameBoundary sense early s))
    (hno : NoSwitchDue s) (hstay : LinksStay s t) (q : Fin 4) : t.floors[q] =
      if s.slotIn .chaired q = true ∧ s.ahead.floors[q] = false then (floorPiece q (s.lead q) s.floors[q]).1
      else s.floors[q] := by
  obtain ⟨hk, -⟩ := frameBoundary_holds ht hno
  obtain ⟨-, -, hahead, hlive, hmap, -⟩ := boundarySampled_spec sense s
  have hfloors := (boundarySampled_still ht hstay).floors
  have hdecided : (boundaryDecided sense s).floors = (boundaryDecisions (boundarySampled sense s)).floors := by
    unfold boundaryDecided
    exact takeSnapshot_floors _
  rw [hk.still.floors, hdecided, boundaryDecisions_floor, State.slotIn, mode_congr hlive hmap, State.lead, hfloors, hlive, hmap,
    hahead]
  rfl

/-- Settles O39: the piece by `floorPiece_eq`, its bounds by `floorPiece_bounded`, the boundary by `frameBoundary_floor`. -/
theorem floorWorkKeepsBounds : Obligations.FloorWorkKeepsBounds := by
  refine ⟨fun q cfg r => ?_, fun sense early s t hh ht => ?_⟩
  · intro up limit old warn spent kept queue grants room
    refine ⟨?_, floorPiece_bounded q cfg r⟩
    have hwarn (g : GrantEntry) : warnDue cfg g.warned (ageUp g.elapsed) = warn g := warnDue_eq ..
    have haged : agedGrant cfg = fun g =>
        { g with elapsed := up g.elapsed, warned := g.warned || warn g || kept g } := by
      funext g
      rw [agedGrant, hwarn]
      rfl
    have hgrants : (agedFloor cfg r).grants = grants := by
      rw [agedFloor, haged]
      rfl
    have hroom : fillRoom cfg (agedFloor cfg r) = room := by rw [fillRoom, hgrants]
    simp only [floorPiece_eq, hroom, hgrants, hwarn]
    rfl
  · have ht' := eq_of_running (f := frameBoundary sense early) hh ht
    refine ⟨congrArg (fun u : State => u.ahead.floors) (frameBoundary_end ht').1, fun hno hstay q => ?_⟩
    exact frameBoundary_floor ht' hno hstay q

end Sys2Proof.Machine
end

section
/-! SUPPORT. What each family of requests may change at most (R105, R140, R143, R144, R163, R164): O60. -/

namespace Sys2Proof.Machine
open Host

/-- A relation that holds of both answers of a test holds of its answer. -/
theorem reply_ite {R : State → State → Prop} {s : State} {c : Prop} [Decidable c] {a b : Reply} (h : R s a.state)
    (k : R s b.state) : R s (if c then a else b).state := by
  split <;> assumption

/-! ## The units of chapters 5 to 8 -/

/-- From `s` to `t` each port took notices, and besides links, mute unit, gates, envelopes and floor records alone moved. -/
structure LinksMove (s t : State) : Prop where
  heard : Heard s t
  frame : ∃ l mu g e f a b, t = { s with links := l, mute := mu, gates := g, env := e, floors := f, portA := a, portB := b }

/-- From `s` to `t` besides the mute unit, gates, envelopes and queues nothing moved. -/
structure HoldsMove (s t : State) : Prop extends LinksMove s t where
  links : t.links = s.links
  floors : t.floors = s.floors

/-- From `s` to `t` besides floor records, envelopes and queues nothing moved. -/
structure FloorsMove (s t : State) : Prop extends LinksMove s t where
  links : t.links = s.links
  mute : t.mute = s.mute
  gates : t.gates = s.gates

namespace LinksMove
variable {s t u : State}

theorem refl (s : State) : LinksMove s s := ⟨.refl s, _, _, _, _, _, _, _, rfl⟩

theorem trans (h : LinksMove s t) (k : LinksMove t u) : LinksMove s u := by
  refine ⟨h.heard.trans k.heard, ?_⟩
  obtain ⟨-, _, _, _, _, _, _, _, rfl⟩ := h
  obtain ⟨-, _, _, _, _, _, _, _, rfl⟩ := k
  exact ⟨_, _, _, _, _, _, _, rfl⟩

theorem setLink (i : Fin 16) (l : LinkRec) : LinksMove s (s.setLink i l) :=
  ⟨.of_ports (setLink_port s i l), _, _, _, _, _, _, _, rfl⟩

theorem units (s : State) (mu : Mute) (g : Vector Gate 16) (e : Vector Env 26) (f : Vector FloorRec 4) :
    LinksMove s { s with mute := mu, gates := g, env := e, floors := f } :=
  ⟨.of_ports fun q => by cases q <;> rfl, _, _, _, _, _, _, _, rfl⟩

theorem post (ns : List Notice) : LinksMove s (s.post ns) := ⟨.post s ns, _, _, _, _, _, _, _, rfl⟩

theorem retarget (before s : State) : LinksMove s (Machine.retarget before s) := units s s.mute s.gates _ s.floors

theorem clearAsks (test : Fin 16 → Bool) (cause : AskCause) (s : State) : LinksMove s (Machine.clearAsks test cause s) :=
  (units s _ s.gates s.env s.floors).trans (post _)

theorem closeHeld (before s : State) : LinksMove s (Machine.closeHeld before s) := units s s.mute _ s.env s.floors

theorem settleHolds (before s : State) : LinksMove s (Machine.settleHolds before s) :=
  (((closeHeld before s).trans (post _)).trans (clearAsks ..)).trans (retarget ..)

theorem setFloor (q : Fin 4) (c : FloorChange) (s : State) : LinksMove s (Machine.setFloor q c s) :=
  ((units s s.mute s.gates s.env _).trans (post _)).trans (retarget ..)

/-- A change of the link's state, in the parts of `moveLink_parts` (R140). -/
theorem moveLink (i : Fin 16) (l : LinkRec) (cause : LinkCause) (code : Option Byte) (f : MuteRec → MuteRec)
    (clears removes : Bool) (s : State) : LinksMove s (Machine.moveLink i l cause code f clears removes s) := by
  have hmoved : LinksMove s (linkMoved i l cause code f s) := ((setLink i l).trans (post _)).trans (units ..)
  have hsettled (t : State) : LinksMove t (linkSettled i clears s t) :=
    ((closeHeld s t).trans (post _)).trans (clearAsks ..)
  have hderived := (hmoved.trans (hsettled _)).trans (retarget s _)
  rw [moveLink_parts]
  dsimp only
  split
  · exact hderived.trans (setFloor ..)
  · exact hderived

end LinksMove

/-! ## Hold, group and quiet requests (chapter 5) -/

theorem HoldsMove.refl (s : State) : HoldsMove s s := ⟨.refl s, rfl, rfl⟩

theorem HoldsMove.newMute {s : State} (mu : Mute) : HoldsMove s (settleHolds s { s with mute := mu }) :=
  ⟨(LinksMove.units s mu s.gates s.env s.floors).trans (.settleHolds ..), by simp, by simp⟩

theorem HoldsMove.clearAsks {s : State} (test : Fin 16 → Bool) (cause : AskCause) :
    HoldsMove s (Machine.clearAsks test cause s) := ⟨.clearAsks .., by simp, by simp⟩

section
variable {s : State}

theorem doHold_moves (p : Port) (t : Target) : HoldsMove s (doHold p t s).state := by
  unfold doHold
  split
  · exact .newMute _
  · exact .refl s

theorem doFree_moves (p : Port) (t : Target) : HoldsMove s (doFree p t s).state := by
  unfold doFree
  split
  · exact reply_ite (.newMute _) (.refl s)
  · exact .refl s

theorem freeEverything_moves (p : Port) : HoldsMove s (freeEverything p s) := by
  cases p with
  | a => exact .newMute _
  | b => exact .newMute _

theorem doGroupMute_moves (g : Nat) (on : Bool) : HoldsMove s (doGroupMute g on s).state := by
  unfold doGroupMute
  split
  · exact .newMute _
  · exact .refl s

theorem doQuiet_moves (n : Nat) (on : Bool) : HoldsMove s (doQuiet n on s).state := by
  unfold doQuiet
  split
  · refine reply_ite ?_ (.refl s)
    dsimp only
    split
    · exact .refl s
    · exact .newMute _
  · exact .refl s

theorem doDismiss_moves (t : Target) : HoldsMove s (doDismiss t s).state := by
  unfold doDismiss
  split
  · exact reply_ite (.clearAsks ..) (.refl s)
  · exact .clearAsks ..
  · exact .refl s

end

/-! ## Floor requests (chapter 7) -/

theorem FloorsMove.refl (s : State) : FloorsMove s s := ⟨.refl s, rfl, rfl, rfl⟩

theorem FloorsMove.setFloor {s : State} (q : Fin 4) (c : FloorChange) : FloorsMove s (Machine.setFloor q c s) :=
  ⟨.setFloor .., by simp, by simp, by simp⟩

section
variable {s : State}

theorem askMic_moves (m : Fin 16) : FloorsMove s (askMic m s).state :=
  reply_ite (.refl s) (reply_ite (.refl s) (reply_ite (.refl s) (reply_ite (.setFloor ..) (.setFloor ..))))

theorem withdrawMic_moves (m : Fin 16) : FloorsMove s (withdrawMic m s).state := reply_ite (.setFloor ..) (.refl s)

theorem endGrant_moves (event : FloorEvent) (m : Fin 16) : FloorsMove s (endGrant event m s).state :=
  reply_ite (.setFloor ..) (.refl s)

theorem makeGrant_moves (q : Fin 4) (m : Fin 16) : FloorsMove s (makeGrant q m s).state := by
  refine reply_ite (.setFloor ..) ?_
  split
  · exact .setFloor ..
  · exact .refl s

theorem grantMic_moves (m : Fin 16) : FloorsMove s (grantMic m s).state :=
  reply_ite (.refl s) (reply_ite (makeGrant_moves ..) (.refl s))

theorem grantOldest_moves (q : Fin 4) : FloorsMove s (grantOldest q s).state := by
  unfold grantOldest
  split
  · exact .refl s
  · exact makeGrant_moves ..

/-- A request on a source or a slot moves what its operation on a microphone or a partition moves. -/
theorem onSource_moves {f : Fin 16 → State → Reply} (h : ∀ m, FloorsMove s (f m s).state) (n : Nat) :
    FloorsMove s (onSource n f s).state := by
  unfold onSource
  split
  · exact h _
  · exact .refl s

theorem onSlot_moves {f : Fin 4 → State → Reply} (h : ∀ q, FloorsMove s (f q s).state) (n : Nat) :
    FloorsMove s (onSlot n f s).state := by
  unfold onSlot
  split
  · exact h _
  · exact .refl s

end

/-! ## LINK requests (chapter 8) -/

/-- A relation that holds along every sequence of the links' single events. -/
structure LinkClosed (R : State → State → Prop) : Prop where
  refl : ∀ s, R s s
  trans : ∀ {s t u}, R s t → R t u → R s u
  setLink : ∀ i l s, R s (State.setLink s i l)
  refused : ∀ s i cause, R s (s.post [.dozeRefused i cause])
  moveLink : ∀ i l cause code f clears removes s, R s (Machine.moveLink i l cause code f clears removes s)

theorem linksMove_closed : LinkClosed LinksMove where
  refl := .refl
  trans := .trans
  setLink i l _ := .setLink i l
  refused _ _ _ := .post _
  moveLink := .moveLink

section
variable {R : State → State → Prop} (hR : LinkClosed R) {s : State}
include hR

theorem enterTraining_closed (cause : LinkCause) (i : Fin 16) : R s (enterTraining cause i s) := hR.moveLink ..
theorem enterRetrain_closed (cause : LinkCause) (i : Fin 16) : R s (enterRetrain cause i s) := hR.moveLink ..
theorem enterDetached_closed (cause : LinkCause) (i : Fin 16) : R s (enterDetached cause i s) := hR.moveLink ..
theorem enterDown_closed (cause : LinkCause) (timed : Bool) (i : Fin 16) : R s (enterDown cause timed i s) := hR.moveLink ..

theorem linkUp_closed (i : Fin 16) : R s (linkUp i s).1 := by
  simp only [linkUp]
  split
  · split
    · exact enterTraining_closed hR ..
    · exact hR.refl s
  · exact hR.refl s
  · exact hR.setLink ..
  · exact enterRetrain_closed hR ..
  · exact enterDown_closed hR ..
  · exact enterDown_closed hR ..
  · split
    · exact enterDown_closed hR ..
    · exact hR.refl s

theorem linkAction_closed (req : LinkReq) (i : Fin 16) : R s (linkAction req i s).1 := by
  cases req with
  | nop =>
    simp only [linkAction, linkNop]
    split
    · exact hR.setLink ..
    · exact hR.refl s
  | up => exact linkUp_closed hR i
  | doze =>
    simp only [linkAction, linkDoze]
    split
    · exact hR.setLink ..
    · exact hR.refl s
  | detach =>
    simp only [linkAction, linkDetach]
    split_ifs
    · exact enterDetached_closed hR ..
    · exact hR.setLink ..
    · exact hR.refl s
  | retrain =>
    simp only [linkAction, linkRetrain]
    split
    · exact enterRetrain_closed hR ..
    · exact hR.refl s

theorem doLink_closed (n : Nat) (req : LinkReq) : R s (doLink n req s).state := by
  unfold doLink
  split
  · exact hR.refl s
  · exact hR.trans (hR.setLink ..) (linkAction_closed hR ..)

end

/-! ## Cursor, edit and port requests (chapters 2, 9 and 10) -/

/-- From `s` to `t` besides the record of port `p`, Port A's line, the regroup machine, clip counts and scene buffers nothing moved;
the map in force, the snapshot, the pages and the store engine's job stand. -/
structure EditMove (p : Port) (s t : State) : Prop where
  frame : ∃ g x sc line r, t = ({ s with rg := g, mix := x, scene := sc, lineA := line } : State).setPort p r
  map : t.rg.map = s.rg.map
  snap : t.mix.snap = s.mix.snap
  pages : t.scene.pages = s.scene.pages
  job : t.scene.job = s.scene.job

namespace EditMove
variable {p : Port} {s t u : State}

theorem units (p : Port) (s : State) {g : Regroup} {x : Mix} {sc : Scene} (line : LineA) (hmap : g.map = s.rg.map)
    (hsnap : x.snap = s.mix.snap) (hpages : sc.pages = s.scene.pages) (hjob : sc.job = s.scene.job) :
    EditMove p s { s with rg := g, mix := x, scene := sc, lineA := line } :=
  ⟨⟨g, x, sc, line, s.port p, by cases p <;> rfl⟩, hmap, hsnap, hpages, hjob⟩

theorem refl (p : Port) (s : State) : EditMove p s s := units p s s.lineA rfl rfl rfl rfl

theorem trans (h : EditMove p s t) (k : EditMove p t u) : EditMove p s u := by
  refine ⟨?_, k.map.trans h.map, k.snap.trans h.snap, k.pages.trans h.pages, k.job.trans h.job⟩
  obtain ⟨⟨_, _, _, _, _, rfl⟩, -⟩ := h
  obtain ⟨⟨g, x, sc, line, r, rfl⟩, -⟩ := k
  exact ⟨g, x, sc, line, r, by cases p <;> rfl⟩

theorem setPort (p : Port) (s : State) (r : PortRec) : EditMove p s (s.setPort p r) :=
  ⟨⟨s.rg, s.mix, s.scene, s.lineA, r, rfl⟩, by simp, by simp, by simp, by simp⟩

theorem advance (p : Port) (s : State) : EditMove p s (s.advance p) := setPort p s _

theorem setBuf (p : Port) (s : State) (b : Fin 2) (x : Buffer) : EditMove p s (s.setBuf b x) :=
  units p s s.lineA rfl rfl rfl rfl

theorem regroupCause (p : Port) (s : State) (timed : Bool) : EditMove p s (regroupCause timed s) := by
  have hmap := regroupCause_map timed s
  rw [regroupCause_frame]
  exact units p s s.lineA hmap rfl rfl rfl

end EditMove

section
variable {p : Port} {s : State}

theorem commitBatch_edits {b : Batch} {t : State} (ht : commitBatch p b s = some t) : EditMove p s t := by
  simp only [commitBatch] at ht
  split_ifs at ht
  · cases ht
    exact (EditMove.units p s (g := { s.rg with changes := s.rg.changes ++ [{ port := p, batch := b }] }) s.lineA
      rfl rfl rfl rfl).trans (.regroupCause ..)
  · cases ht
    exact .setPort ..

theorem enterLive_edits {e : Entry} {t : State} (ht : enterLive p e s = .ok t) : EditMove p s t := by
  simp only [enterLive] at ht
  split at ht
  · cases ht
  · split at ht
    · split at ht
      · cases ht
        exact .setPort ..
      · cases ht
    · split at ht
      · next hc =>
        cases ht
        exact commitBatch_edits hc
      · cases ht

theorem doSelect_edits (t v k : Nat) : EditMove p s (doSelect p t v k s).state := by
  unfold doSelect
  split
  · exact .setPort ..
  · exact .refl p s

theorem doShow_edits : EditMove p s (doShow p s).state := by
  have hshown (c : Cursor) (content : Option (List Nat)) (u : State) : EditMove p u (followShown p c content u) := by
    cases p with
    | b => exact .refl .b u
    | a =>
      simp only [followShown]
      split
      · exact .units .a u _ rfl rfl rfl rfl
      · exact .refl .a u
  exact (EditMove.advance p s).trans (hshown ..)

theorem enterBuffer_edits (b : Fin 2) (key : TableId × Nat) (skip : Bool) (done : Status) (f : Buffer → Buffer) :
    EditMove p s (enterBuffer p b key skip done f s).state :=
  reply_ite (.refl p s) (reply_ite (.refl p s) (reply_ite (.advance p s) ((EditMove.setBuf p s b _).trans (.advance p _))))

theorem enterEntry_edits (v : View) (e : Entry) (done : Status) : EditMove p s (enterEntry p v e done s).state := by
  cases v with
  | live =>
    refine reply_ite (.advance p s) ?_
    split
    · next hu => exact (enterLive_edits hu).trans (.advance p _)
    · exact .refl p s
  | sb b =>
    simp only [enterEntry]
    exact enterBuffer_edits ..

theorem clearClip_edits (k : Nat) : EditMove p s (clearClip k s) := .units p s s.lineA rfl rfl rfl rfl

theorem doEnter_edits (ops : List Nat) (keep : Option Set26) : EditMove p s (doEnter p ops keep s).state := by
  simp only [doEnter]
  split
  · exact .refl p s
  · split
    · exact .advance p s
    · exact reply_ite ((clearClip_edits _).trans (.advance p _)) (.advance p s)
    · split
      · exact .refl p s
      · exact enterBuffer_edits ..
    · exact enterEntry_edits ..

theorem doMask_edits (n : Nat) : EditMove p s (doMask p n s).state := by
  unfold doMask
  split
  · exact .setPort ..
  · exact .refl p s

theorem doBegin_edits : EditMove p s (doBegin p s).state := reply_ite (.refl p s) (.setPort ..)

theorem doCommit_edits : EditMove p s (doCommit p s).state := by
  unfold doCommit
  split
  · exact .refl p s
  · split
    · next hc => exact (EditMove.setPort p s _).trans (commitBatch_edits hc)
    · exact .refl p s

theorem doAbandon_edits : EditMove p s (doAbandon p s).state := reply_ite (.setPort ..) (.refl p s)

theorem doWall_edits (w : Nat) (o : Override) : EditMove p s (doWall p w o s).state := by
  unfold doWall
  split
  · exact .refl p s
  · split
    · next hu => exact enterLive_edits hu
    · exact .refl p s

theorem doLower_edits (named : Profile) : EditMove p s (doLower p named s).state := reply_ite (.setPort ..) (.refl p s)

theorem doNotices_edits : EditMove p s (doNotices p s).state := by
  cases p with
  | a => exact .units .a s _ rfl rfl rfl rfl
  | b => exact .refl .b s

theorem doFlags_edits (f : PortFlag) (on : Bool) : EditMove p s (doFlags p f on s).state := by
  cases p with
  | a => exact .units .a s _ rfl rfl rfl rfl
  | b => exact .refl .b s

end

/-! ## Scene requests (chapter 10) -/

/-- From `s` to `t` besides the regroup machine and the scene unit nothing moved, and the map in force stands. -/
structure SceneMove (s t : State) : Prop where
  frame : ∃ g sc, t = { s with rg := g, scene := sc }
  map : t.rg.map = s.rg.map

theorem SceneMove.refl (s : State) : SceneMove s s := ⟨⟨_, _, rfl⟩, rfl⟩

theorem SceneMove.scene (s : State) (sc : Scene) : SceneMove s { s with scene := sc } := ⟨⟨_, _, rfl⟩, rfl⟩

section
variable {s : State}

theorem loadPage_moves (k : Fin 32) (b : Fin 2) : SceneMove s (loadPage k b s).state :=
  reply_ite (.refl s) (reply_ite (.refl s) (reply_ite (.refl s) (.scene ..)))

theorem captureBuf_moves (b : Fin 2) : SceneMove s (captureBuf b s).state := reply_ite (.refl s) (.scene ..)

theorem storeBuf_moves (b : Fin 2) (k : Fin 32) : SceneMove s (storeBuf b k s).state :=
  reply_ite (.refl s) (reply_ite (.refl s) (reply_ite (.refl s) (.scene ..)))

theorem amendPage_moves (b : Fin 2) (k : Fin 32) : SceneMove s (amendPage b k s).state :=
  reply_ite (.refl s) (reply_ite (.refl s) (reply_ite (.refl s) (reply_ite (.refl s) (.scene ..))))

theorem erasePage_moves (k : Fin 32) : SceneMove s (erasePage k s).state := reply_ite (.refl s) (.scene ..)

theorem applyBuf_moves (b : Fin 2) : SceneMove s (applyBuf b s).state := by
  refine reply_ite (.refl s) (reply_ite (.refl s) (reply_ite (.refl s) ?_))
  dsimp only [State.okReply]
  refine ⟨?_, regroupCause_map ..⟩
  rw [regroupCause_frame]
  exact ⟨_, _, rfl⟩

theorem onPageBuf_moves {f : Fin 32 → Fin 2 → State → Reply} (h : ∀ k b, SceneMove s (f k b s).state) (k b : Nat) :
    SceneMove s (onPageBuf k b f s).state := by
  unfold onPageBuf
  split
  · exact h ..
  · exact .refl s

theorem onBuf_moves {f : Fin 2 → State → Reply} (h : ∀ b, SceneMove s (f b s).state) (b : Nat) :
    SceneMove s (onBuf b f s).state := by
  unfold onBuf
  split
  · exact h _
  · exact .refl s

theorem onPage_moves {f : Fin 32 → State → Reply} (h : ∀ k, SceneMove s (f k s).state) (k : Nat) :
    SceneMove s (onPage k f s).state := by
  unfold onPage
  split
  · exact h _
  · exact .refl s

end

/-! ## The families of requests -/

/-- The families of requests, by what they may move at most. -/
inductive Family where
  | holds | floor | link | edit | scene | clear

/-- The family of a request. -/
def Request.family : Request → Family
  | .hold _ => .holds
  | .free _ => .holds
  | .freeAll => .holds
  | .gmute _ => .holds
  | .gunmute _ => .holds
  | .quiet _ _ => .holds
  | .dismiss _ => .holds
  | .ask _ => .floor
  | .withdraw _ => .floor
  | .release _ => .floor
  | .grant _ => .floor
  | .grantNext _ => .floor
  | .revoke _ => .floor
  | .clearQ _ => .floor
  | .link _ _ => .link
  | .select _ _ _ => .edit
  | .showEntry => .edit
  | .enter _ => .edit
  | .mask _ => .edit
  | .beginBatch => .edit
  | .commit => .edit
  | .abandon => .edit
  | .wall _ _ => .edit
  | .notices => .edit
  | .flags _ _ => .edit
  | .lower _ => .edit
  | .load _ _ => .scene
  | .capture _ => .scene
  | .store _ _ => .scene
  | .amend _ _ => .scene
  | .erase _ => .scene
  | .apply _ => .scene
  | .clear => .clear

/-- What the body of a request of a family moves at most, on port `p`. -/
def Family.Moves (p : Port) (s t : State) : Family → Prop
  | .holds => HoldsMove s t
  | .floor => FloorsMove s t
  | .link => LinksMove s t
  | .edit => EditMove p s t
  | .scene => SceneMove s t
  | .clear => t = s

theorem Family.Moves.refl (p : Port) (s : State) (f : Family) : f.Moves p s s := by
  cases f with
  | holds => exact HoldsMove.refl s
  | floor => exact FloorsMove.refl s
  | link => exact LinksMove.refl s
  | edit => exact EditMove.refl p s
  | scene => exact SceneMove.refl s
  | clear => rfl

theorem body_moves (p : Port) (r : Request) (keep : Option Set26) (s : State) : r.family.Moves p s (r.body p keep s).state := by
  cases r with
  | select t v k => exact doSelect_edits ..
  | showEntry => exact doShow_edits
  | enter ops => exact doEnter_edits ..
  | mask n => exact doMask_edits n
  | beginBatch => exact doBegin_edits
  | commit => exact doCommit_edits
  | abandon => exact doAbandon_edits
  | wall w o => exact doWall_edits ..
  | notices => exact doNotices_edits
  | flags f on => exact doFlags_edits ..
  | lower n => exact doLower_edits n
  | hold t => exact doHold_moves ..
  | free t => exact doFree_moves ..
  | freeAll => exact freeEverything_moves p
  | gmute g => exact doGroupMute_moves ..
  | gunmute g => exact doGroupMute_moves ..
  | quiet n on => exact doQuiet_moves ..
  | dismiss t => exact doDismiss_moves t
  | ask n => exact onSource_moves askMic_moves n
  | withdraw n => exact onSource_moves withdrawMic_moves n
  | release n => exact onSource_moves (endGrant_moves .released) n
  | grant n => exact onSource_moves grantMic_moves n
  | grantNext n => exact onSlot_moves grantOldest_moves n
  | revoke n => exact onSource_moves (endGrant_moves .revoked) n
  | clearQ n => exact onSlot_moves (fun _ => .setFloor ..) n
  | link i req => exact doLink_closed linksMove_closed ..
  | load k b => exact onPageBuf_moves loadPage_moves k b
  | capture b => exact onBuf_moves captureBuf_moves b
  | store b k => exact onPageBuf_moves (fun k b => storeBuf_moves b k) k b
  | amend b k => exact onPageBuf_moves (fun k b => amendPage_moves b k) k b
  | erase k => exact onPage_moves erasePage_moves k
  | apply b => exact onBuf_moves applyBuf_moves b
  | clear => rfl

/-- Of a port's record all but its notice queue stands. -/
def PortStands (r r' : PortRec) : Prop :=
  r'.cursor = r.cursor ∧ r'.batch = r.batch ∧ r'.committed = r.committed ∧ r'.keep = r.keep ∧ r'.profile = r.profile

theorem Heard.stands {s t : State} (h : Heard s t) (q : Port) : PortStands (s.port q) (t.port q) := by
  obtain ⟨ns, hport⟩ := h q
  rw [hport]
  exact ⟨postAll_cursor .., postAll_batch .., postAll_committed .., postAll_keep .., postAll_profile ..⟩

/-- A request's body leaves the response on Port B, and of the other port's record all but its queue (R143). -/
theorem Family.Moves.other {p : Port} {s t : State} {f : Family} (h : f.Moves p s t) :
    t.recB = s.recB ∧ ∀ q, q ≠ p → PortStands (s.port q) (t.port q) := by
  have hsame {q : Port} (hq : t.port q = s.port q) : PortStands (s.port q) (t.port q) := hq ▸ ⟨rfl, rfl, rfl, rfl, rfl⟩
  have hheard (k : LinksMove s t) : t.recB = s.recB ∧ ∀ q, q ≠ p → PortStands (s.port q) (t.port q) := by
    obtain ⟨hheard, l, mu, g, e, f, a, b, ht⟩ := k
    exact ⟨(congrArg State.recB ht :), fun q _ => hheard.stands q⟩
  cases f with
  | holds => exact hheard (HoldsMove.toLinksMove h)
  | floor => exact hheard (FloorsMove.toLinksMove h)
  | link => exact hheard h
  | edit =>
    obtain ⟨g, x, sc, line, r, ht⟩ := EditMove.frame h
    refine ⟨(congrArg State.recB ht :).trans (setPort_recB ..), fun q hq => hsame ?_⟩
    rw [ht, setPort_other _ _ _ _ hq]
    cases q <;> rfl
  | scene =>
    obtain ⟨g, sc, ht⟩ := SceneMove.frame h
    refine ⟨(congrArg State.recB ht :), fun q _ => hsame ?_⟩
    rw [ht]
    cases q <;> rfl
  | clear => exact ⟨(congrArg State.recB h :), fun q _ => hsame (congrArg (State.port · q) h)⟩

/-! ## A request as a command: its receipt, its body and its answer -/

theorem received_frame (p : Port) (s : State) :
    ∃ a b line, received p s = { s with portA := a, portB := b, lineA := line } := by
  cases p <;> exact ⟨_, _, _, rfl⟩

theorem answered_frame (p : Port) (name : ReqName) (st : Status) (data : List Nat) (v : State) :
    ∃ line rec, answered p name st data v = { v with lineA := line, recB := rec } ∧ (p = .a → rec = v.recB) := by
  rw [answered, settleLine_frame]
  cases p with
  | a => exact ⟨_, _, rfl, fun _ => rfl⟩
  | b => exact ⟨_, _, rfl, Port.noConfusion⟩

/-- A request out of reset is answered after its body's work on what its receipt leaves, or after its receipt alone (R144). -/
theorem exec_request_moves {c : Instr} {p : Port} {r : Request} {s t : State} (hc : portRequest c = some (p, r))
    (hn : r ≠ .clear) (hh : s.held = false) (ht : exec c s = .next t) :
    ∃ v, r.family.Moves p (received p s) v ∧ ∃ line rec, t = { v with lineA := line, recB := rec } ∧ (p = .a → rec = v.recB) := by
  cases hallow : allows (s.port p).profile r.reqClass with
  | true =>
    rw [exec_allowed hc hn ⟨hh, hallow⟩ rfl] at ht
    exact ⟨_, body_moves p r _ _, Outcome.next.inj ht ▸ answered_frame ..⟩
  | false =>
    rw [exec_denied hc hh hallow] at ht
    exact ⟨_, .refl p _ _, Outcome.next.inj ht ▸ answered_frame ..⟩

/-- The frame of a request's family: what the request, its receipt and its answer may change at most. -/
def Family.Frame (s t : State) : Family → Prop
  | .holds => t = { s with mute := t.mute, gates := t.gates, env := t.env, portA := t.portA, portB := t.portB, lineA := t.lineA, recB := t.recB }
  | .floor => t = { s with floors := t.floors, env := t.env, portA := t.portA, portB := t.portB, lineA := t.lineA, recB := t.recB }
  | .link => t = { s with links := t.links, mute := t.mute, gates := t.gates, env := t.env, floors := t.floors,
                          portA := t.portA, portB := t.portB, lineA := t.lineA, recB := t.recB }
  | .edit => t = { s with rg := t.rg, mix := t.mix, scene := t.scene, portA := t.portA, portB := t.portB, lineA := t.lineA, recB := t.recB }
      ∧ t.rg.map = s.rg.map ∧ t.mix.snap = s.mix.snap ∧ t.scene.pages = s.scene.pages ∧ t.scene.job = s.scene.job
  | .scene => t = { s with rg := t.rg, scene := t.scene, portA := t.portA, portB := t.portB, lineA := t.lineA, recB := t.recB }
      ∧ t.rg.map = s.rg.map
  | .clear => True

theorem Family.Frame.refl (s : State) (f : Family) : f.Frame s s := by
  cases f with
  | holds => rfl
  | floor => rfl
  | link => rfl
  | edit => exact ⟨rfl, rfl, rfl, rfl, rfl⟩
  | scene => exact ⟨rfl, rfl⟩
  | clear => trivial

theorem LinksMove.answered_eq {s v : State} {p : Port} (h : LinksMove (received p s) v) (line : LineA) (rec : RecordB) :
    ({ v with lineA := line, recB := rec } : State)
      = { s with links := v.links, mute := v.mute, gates := v.gates, env := v.env, floors := v.floors,
                 portA := v.portA, portB := v.portB, lineA := line, recB := rec } := by
  obtain ⟨-, _, _, _, _, _, _, _, rfl⟩ := h
  obtain ⟨_, _, _, hr⟩ := received_frame p s
  rw [hr]

/-- What a request's body moves on its receipt, with the answer, stays in the frame of its family. -/
theorem Family.Moves.frame {p : Port} {s v : State} {f : Family} (h : f.Moves p (received p s) v) (line : LineA) (rec : RecordB) :
    f.Frame s { v with lineA := line, recB := rec } := by
  obtain ⟨_, _, _, hr⟩ := received_frame p s
  cases f with
  | holds =>
    have hlinks : v.links = s.links := h.links.trans (received_links p s)
    have hfloors : v.floors = s.floors := h.floors.trans (received_floors p s)
    simpa only [Family.Frame, hlinks, hfloors] using h.toLinksMove.answered_eq line rec
  | floor =>
    have hlinks : v.links = s.links := h.links.trans (received_links p s)
    have hmute : v.mute = s.mute := h.mute.trans (received_mute p s)
    have hgates : v.gates = s.gates := h.gates.trans (received_gates p s)
    simpa only [Family.Frame, hlinks, hmute, hgates] using h.toLinksMove.answered_eq line rec
  | link => exact LinksMove.answered_eq h line rec
  | edit =>
    obtain ⟨⟨_, _, _, _, _, hv⟩, hmap, hsnap, hpages, hjob⟩ := h
    refine ⟨?_, hmap.trans (by simp), hsnap.trans (by simp), hpages.trans (by simp), hjob.trans (by simp)⟩
    rw [hv, hr]
    cases p <;> rfl
  | scene =>
    obtain ⟨⟨_, _, rfl⟩, hmap⟩ := h
    refine ⟨?_, hmap.trans (by simp)⟩
    rw [hr]
  | clear => trivial

/-- A request stays in the frame of its family, in reset too, where it is not taken (R1). -/
theorem exec_request_frame {c : Instr} {p : Port} {r : Request} {s t : State} (hc : portRequest c = some (p, r))
    (ht : exec c s = .next t) : r.family.Frame s t := by
  by_cases hn : r = .clear
  · subst hn
    trivial
  cases hh : s.held with
  | true =>
    rw [exec_request c p r s hc hn] at ht
    exact eq_of_running_held hh ht ▸ .refl s _
  | false =>
    obtain ⟨v, hv, line, rec, rfl, -⟩ := exec_request_moves hc hn hh ht
    exact hv.frame line rec

theorem received_port_other (p : Port) (s : State) {q : Port} (hq : q ≠ p) : (received p s).port q = s.port q := by
  cases p with
  | a =>
    cases q with
    | a => exact absurd rfl hq
    | b => rfl
  | b =>
    cases q with
    | a => rfl
    | b => exact absurd rfl hq

/-- A request but CLEAR leaves the other port's record but its queue, and one on Port A the Port B response (R143). -/
theorem exec_request_other {c : Instr} {p : Port} {r : Request} {s t : State} (hc : portRequest c = some (p, r))
    (hn : r ≠ .clear) (ht : exec c s = .next t) :
    (p = .a → t.recB = s.recB) ∧ ∀ q, q ≠ p → PortStands (s.port q) (t.port q) := by
  cases hh : s.held with
  | true =>
    rw [exec_request c p r s hc hn] at ht
    exact eq_of_running_held hh ht ▸ ⟨fun _ => rfl, fun _ _ => ⟨rfl, rfl, rfl, rfl, rfl⟩⟩
  | false =>
    obtain ⟨v, hv, line, rec, rfl, hrec⟩ := exec_request_moves hc hn hh ht
    obtain ⟨hB, hother⟩ := hv.other
    refine ⟨fun hp => (hrec hp).trans (hB.trans (received_recB p s)), fun q hq => ?_⟩
    have hstands := hother q hq
    rw [received_port_other p s hq] at hstands
    cases q <;> exact hstands

/-- Settles O60: each family's body keeps its frame, and so do the receipt and the answer. -/
theorem requestsKeepTheirFrames : Obligations.RequestsKeepTheirFrames := by
  intro c p r s t hc ht
  have hframe {f : Family} (hf : r.family = f) : f.Frame s t := hf ▸ exec_request_frame hc ht
  have hother (hn : r ≠ .clear) := exec_request_other hc hn ht
  refine ⟨fun h => hframe (f := .holds) ?_, fun h => hframe (f := .floor) ?_, fun h => hframe (f := .link) ?_,
    fun h => hframe (f := .edit) ?_, fun h => hframe (f := .scene) ?_, fun hp => ?_, fun hp => ?_⟩
  · rcases h with ⟨_, rfl | rfl | rfl⟩ | rfl | ⟨_, rfl | rfl⟩ | ⟨_, _, rfl⟩ <;> rfl
  · rcases h with ⟨_, rfl | rfl | rfl | rfl | rfl | rfl | rfl⟩ <;> rfl
  · obtain ⟨_, _, rfl⟩ := h
    rfl
  · rcases h with ⟨_, _, _, rfl⟩ | rfl | ⟨_, rfl⟩ | ⟨_, rfl⟩ | rfl | rfl | rfl | ⟨_, _, rfl⟩ | rfl | ⟨_, _, rfl⟩ | ⟨_, rfl⟩ <;> rfl
  · rcases h with ⟨_, _, rfl | rfl | rfl⟩ | ⟨_, rfl | rfl⟩ | ⟨_, rfl⟩ <;> rfl
  · subst hp
    exact (em (r = .clear)).symm.imp_left fun hn => ⟨(hother hn).1 rfl, (hother hn).2 .b Port.noConfusion⟩
  · subst hp
    exact (em (r = .clear)).symm.imp_left fun hn => (hother hn).2 .a Port.noConfusion

end Sys2Proof.Machine
end

section
/-! SUPPORT. Floor records within their bounds (R104), under the operations that leave the tables (R105 to R118): O26. -/

namespace Sys2Proof.Machine
open Host
open scoped List

/-! ## A record within its bounds -/

/-- A microphone may stand in the record of slot `q`: the slot is in CHAIRED use, and the microphone is one of its partition and no
chair microphone (R104). -/
structure MayStand (s : State) (q : Fin 4) (m : Fin 16) : Prop where
  chaired : s.slotIn .chaired q = true
  part : s.micPart m = q
  plain : s.isChair m = false

/-- A record of slot `q` within the bounds of R104 under the tables of `s`. -/
structure FloorRec.SoundIn (s : State) (q : Fin 4) (r : FloorRec) : Prop where
  apart : r.entries.Nodup
  fits : r.grants.length ≤ (s.lead q).speakerLimit
  stand : ∀ m ∈ r.entries, MayStand s q m

/-- Every floor record is within its bounds. -/
def RecsSound (s : State) : Prop := ∀ q : Fin 4, (s.floors[q]).SoundIn s q

/-- The invariant of O26: sound tables, and every floor record within its bounds. -/
structure FloorsOk (s : State) : Prop where
  tables : TablesSound s
  recs : RecsSound s

/-- The way from `s` to `t` keeps the invariant. -/
structure FloorsSound (s t : State) : Prop where
  keeps : FloorsOk s → FloorsOk t

theorem floorsOk_iff (s : State) : FloorsOk s ↔ MapsLegal s ∧ FloorsKept s := by
  constructor
  · rintro ⟨⟨hmaps, hplain⟩, hrecs⟩
    refine ⟨hmaps, fun q => ⟨⟨(hrecs q).apart, (hrecs q).fits⟩, fun m hm => ?_⟩, hplain⟩
    obtain ⟨hchaired, hpart, hno⟩ := (hrecs q).stand m ((FloorRec.mem_entries ..).2 hm)
    exact ⟨hchaired, hpart, hno⟩
  · rintro ⟨hmaps, hrecs, hplain⟩
    refine ⟨⟨hmaps, hplain⟩, fun q => ⟨(hrecs q).1.1, (hrecs q).1.2, fun m hm => ?_⟩⟩
    obtain ⟨hchaired, hpart, hno⟩ := (hrecs q).2 m ((FloorRec.mem_entries ..).1 hm)
    exact ⟨hchaired, hpart, hno⟩

theorem MayStand.congr {s t : State} (hl : t.live = s.live) (hmap : t.rg.map = s.rg.map) {q : Fin 4} {m : Fin 16}
    (h : MayStand s q m) : MayStand t q m where
  chaired := by rw [State.slotIn, mode_congr hl hmap, hmap]; exact h.chaired
  part := (micPart_congr hl hmap m).trans h.part
  plain := by rw [State.isChair, hl]; exact h.plain

namespace FloorRec.SoundIn
variable {s t : State} {q : Fin 4} {r r' : FloorRec}

theorem congr (hl : t.live = s.live) (hmap : t.rg.map = s.rg.map) (h : r.SoundIn s q) : r.SoundIn t q where
  apart := h.apart
  fits := by rw [State.lead, hl]; exact h.fits
  stand m hm := (h.stand m hm).congr hl hmap

theorem empty (s : State) (q : Fin 4) : emptyFloor.SoundIn s q :=
  ⟨List.nodup_nil, Nat.zero_le _, fun _ h => absurd h List.not_mem_nil⟩

/-- A record with some of the entries, and no more grants than may be. -/
theorem fewer (h : r.SoundIn s q) (he : r'.entries <+~ r.entries) (hg : r'.grants.length ≤ (s.lead q).speakerLimit) :
    r'.SoundIn s q := ⟨nodup_of_subperm he h.apart, hg, fun m hm => h.stand m (he.subset hm)⟩

/-- Both lists lost entries, the others staying in order. -/
theorem drop (h : r.SoundIn s q) (hq : r'.queue <+ r.queue) (hg : r'.grants <+ r.grants) : r'.SoundIn s q :=
  h.fewer ((hq.map _).append (hg.map _)).subperm (hg.length_le.trans h.fits)

/-- One microphone's entry joins. -/
theorem join {m : Fin 16} (h : r.SoundIn s q) (hm : m ∉ r.entries) (he : r'.entries ~ m :: r.entries)
    (hg : r'.grants.length ≤ (s.lead q).speakerLimit) (hmay : MayStand s q m) : r'.SoundIn s q where
  apart := he.nodup_iff.2 (List.nodup_cons.2 ⟨hm, h.apart⟩)
  fits := hg
  stand x hx := by
    rcases List.mem_cons.1 (he.subset hx) with rfl | hx
    · exact hmay
    · exact h.stand x hx

theorem unqueue (h : r.SoundIn s q) (m : Fin 16) : (r.unqueue m).SoundIn s q := h.drop List.filter_sublist (.refl _)

theorem ungrant (h : r.SoundIn s q) (m : Fin 16) : (r.ungrant m).SoundIn s q := h.drop (.refl _) List.filter_sublist

theorem enqueue {m : Fin 16} (h : r.SoundIn s q) (hm : m ∉ r.entries) (hmay : MayStand s q m) : (r.enqueue m).SoundIn s q := by
  refine h.join hm ?_ h.fits hmay
  simp only [FloorRec.entries, FloorRec.enqueue, List.map_append, List.map_cons, List.map_nil, List.append_assoc]
  exact List.perm_middle

theorem addGrant {m : Fin 16} (h : r.SoundIn s q) (hm : m ∉ r.entries) (hmay : MayStand s q m)
    (hroom : r.grants.length < (s.lead q).speakerLimit) : (r.addGrant m).SoundIn s q := by
  refine h.join hm ?_ ?_ hmay
  · simp only [FloorRec.entries, FloorRec.addGrant, List.map_append, List.map_cons, List.map_nil, ← List.append_assoc]
    exact List.perm_append_singleton ..
  · rw [FloorRec.addGrant, List.length_append]
    exact hroom

/-- A source without a grant leaves the queue for the grant list (R109). -/
theorem moveToGrants {m : Fin 16} (h : r.SoundIn s q) (hm : r.granted m = false) (hmay : MayStand s q m)
    (hroom : r.grants.length < (s.lead q).speakerLimit) : ((r.unqueue m).addGrant m).SoundIn s q := by
  refine (h.unqueue m).addGrant ?_ hmay hroom
  rw [FloorRec.mem_entries, not_or, Bool.not_eq_true, Bool.not_eq_true]
  exact ⟨by simp [FloorRec.queued, FloorRec.unqueue], hm⟩

/-- The piece of work of a boundary (R115). -/
theorem floorPiece (h : r.SoundIn s q) : (floorPiece q (s.lead q) r).1.SoundIn s q :=
  h.fewer (floorPiece_entries ..) (floorPiece_grants _ _ _ h.fits)

end FloorRec.SoundIn

theorem RecsSound.congr {s t : State} (h : RecsSound s) (k : t.live = s.live ∧ t.rg.map = s.rg.map ∧ t.floors = s.floors) :
    RecsSound t := fun q => by
  obtain ⟨hl, hmap, hfloors⟩ := k
  rw [hfloors]
  exact (h q).congr hl hmap

/-! ## Ways that keep the invariant -/

namespace FloorsSound
variable {s t u : State}

theorem refl (s : State) : FloorsSound s s := ⟨id⟩

theorem trans (h : FloorsSound s t) (k : FloorsSound t u) : FloorsSound s u := ⟨fun hs => k.keeps (h.keeps hs)⟩

theorem foldl {α : Type} {f : State → α → State} (h : ∀ s x, FloorsSound s (f s x)) (l : List α) (s : State) :
    FloorsSound s (l.foldl f s) := by
  induction l generalizing s with
  | nil => exact .refl s
  | cons x l ih => exact (h s x).trans (ih (f s x))

theorem ite {c : Prop} [Decidable c] (h : FloorsSound s t) (k : FloorsSound s u) : FloorsSound s (if c then t else u) := by
  split <;> assumption

/-- The tables in force stand, and the records are within their bounds. -/
theorem of_recs (h : TablesKept s t) (hl : t.live = s.live) (hmap : t.rg.map = s.rg.map)
    (hrecs : FloorsOk s → ∀ q : Fin 4, (t.floors[q]).SoundIn s q) : FloorsSound s t where
  keeps hs := ⟨(h hs.tables).1, fun q => (hrecs hs q).congr hl hmap⟩

/-- The tables in force and the records stand. -/
theorem of_stands (h : TablesKept s t) (k : t.live = s.live ∧ t.rg.map = s.rg.map ∧ t.floors = s.floors) : FloorsSound s t where
  keeps hs := ⟨(h hs.tables).1, hs.recs.congr k⟩

theorem of_holds (h : HoldsKept s t) (hmaps : MapsLegal s → MapsLegal t) : FloorsSound s t :=
  .of_stands (h.tables hmaps) ⟨h.live, h.map, h.still.floors⟩

/-- For a state written out as `s` with other units replaced. -/
theorem of_units (h : t = { t with live := s.live, rg := s.rg, floors := s.floors, portA := s.portA, portB := s.portB }) :
    FloorsSound s t := by
  rw [h]
  exact of_stands (.of_frame rfl rfl (·.of_rg rfl) fun p => by cases p <;> rfl) ⟨rfl, rfl, rfl⟩

theorem setPort (p : Port) {r : PortRec} (h : r.committed = (s.port p).committed) : FloorsSound s (s.setPort p r) :=
  .of_stands (setPort_shut s p r h).tables ⟨by simp, by simp, by simp⟩

theorem post (s : State) (ns : List Notice) : FloorsSound s (s.post ns) := .of_holds (post_holds s ns) (·.of_rg rfl)

theorem setFloor {q : Fin 4} {c : FloorChange} (h : FloorsOk s → c.1.SoundIn s q) : FloorsSound s (setFloor q c s) := by
  refine .of_recs (setFloor_shut s q c).tables (by simp) (by simp) fun hs x => ?_
  rw [(setFloor_spec q c s).2, put_get]
  split
  · next hx => exact hx ▸ h hs
  · exact hs.recs x

theorem clearAsks (test : Fin 16 → Bool) (cause : AskCause) (s : State) : FloorsSound s (clearAsks test cause s) :=
  .of_stands (clearAsks_shut s test cause).tables (by simp)

theorem settleMute (mu : Mute) (s : State) : FloorsSound s (settleHolds s { s with mute := mu }) :=
  .of_stands (settleMute_shut s mu).tables (by simp)

theorem setLink (i : Fin 16) (l : LinkRec) (s : State) : FloorsSound s (s.setLink i l) :=
  .of_stands (.of_frame rfl rfl (·.of_rg rfl) fun p => by rw [setLink_port]) ⟨rfl, rfl, rfl⟩

/-- A change of a link's state removes entries at most (R118). -/
theorem moveLink (i : Fin 16) (l : LinkRec) (cause : LinkCause) (code : Option Byte) (f : MuteRec → MuteRec)
    (clears removes : Bool) (s : State) : FloorsSound s (moveLink i l cause code f clears removes s) := by
  obtain ⟨-, -, hlive, hrg⟩ := moveLink_only i l cause code f clears removes s
  refine .of_recs (moveLink_shut s i l cause code f clears removes).tables hlive (congrArg Regroup.map hrg) fun hs q => ?_
  rw [moveLink_floors]
  split
  · rw [put_get]
    split
    · next hq => exact hq ▸ ((hs.recs _).unqueue i).ungrant i
    · exact hs.recs q
  · exact hs.recs q

end FloorsSound

theorem floorsSound_closed : LinkClosed FloorsSound where
  refl := .refl
  trans := .trans
  setLink := .setLink
  refused s _ _ := .post s _
  moveLink := .moveLink

/-! ## The floor unit (R105 to R117) -/

section
variable {s : State}

theorem FloorsOk.mayStand {m : Fin 16} (h : FloorsOk s) (hmode : s.mode (s.micPart m) = .chaired) (hchair : s.isChair m = false) :
    MayStand s (s.micPart m) m where
  chaired := Bool.and_eq_true_iff.2 ⟨micPart_isLead h.tables.1.1 m, decide_eq_true hmode⟩
  part := rfl
  plain := hchair

/-- A microphone with no entry in its record. -/
theorem FloorRec.not_mem_entries {r : FloorRec} {m : Fin 16} (hq : r.queued m = false) (hg : r.granted m = false) :
    m ∉ r.entries := by
  rw [FloorRec.mem_entries, hq, hg]
  exact fun h => h.elim Bool.noConfusion Bool.noConfusion

/-- A relation that holds of both answers of a test, each where it is given, holds of its answer. -/
theorem reply_dite {R : State → State → Prop} {c : Prop} [Decidable c] {a b : Reply} (h : c → R s a.state)
    (k : ¬c → R s b.state) : R s (if c then a else b).state := by
  split
  · next hc => exact h hc
  · next hc => exact k hc

theorem askMic_floors {m : Fin 16} (hmode : s.mode (s.micPart m) = .chaired) : FloorsSound s (askMic m s).state := by
  refine reply_ite (.refl s) (reply_dite (fun _ => .refl s) fun hfree => reply_dite (fun _ => .refl s) fun hq => ?_)
  obtain ⟨hg, hchair⟩ := Bool.or_eq_false_iff.1 (Bool.not_eq_true _ ▸ hfree)
  have hm := FloorRec.not_mem_entries (Bool.not_eq_true _ ▸ hq) hg
  refine reply_dite (fun hroom => .setFloor fun hs => ?_) fun _ => .setFloor fun hs => ?_
  · exact (hs.recs _).addGrant hm (hs.mayStand hmode hchair) (of_decide_eq_true (Bool.and_eq_true_iff.1 hroom).2)
  · exact (hs.recs _).enqueue hm (hs.mayStand hmode hchair)

theorem withdrawMic_floors (m : Fin 16) : FloorsSound s (withdrawMic m s).state :=
  reply_ite (.setFloor fun hs => (hs.recs _).unqueue m) (.refl s)

theorem endGrant_floors (event : FloorEvent) (m : Fin 16) : FloorsSound s (endGrant event m s).state :=
  reply_ite (.setFloor fun hs => (hs.recs _).ungrant m) (.refl s)

/-- A grant made, the oldest making room where the list is full (R109, R110). -/
theorem makeGrant_floors {q : Fin 4} {m : Fin 16} (hm : FloorsOk s → MayStand s q m ∧ (s.floors[q]).granted m = false) :
    FloorsSound s (makeGrant q m s).state := by
  refine reply_dite (fun hroom => .setFloor fun hs => (hs.recs q).moveToGrants (hm hs).2 (hm hs).1 hroom) fun _ => ?_
  split
  · next g rest _ hgrants =>
    refine .setFloor fun hs => ?_
    obtain ⟨hmay, hno⟩ := hm hs
    have hsound := hs.recs q
    have hrest : ({ s.floors[q] with grants := rest } : FloorRec).SoundIn s q :=
      hsound.drop (.refl _) (hgrants ▸ List.sublist_cons_self g rest)
    refine hrest.moveToGrants ?_ hmay ?_
    · rw [FloorRec.granted, hgrants, List.any_cons, Bool.or_eq_false_iff] at hno
      exact hno.2
    · have hfits := hsound.fits
      rw [hgrants] at hfits
      exact hfits
  · exact .refl s

theorem grantMic_floors {m : Fin 16} (hmode : s.mode (s.micPart m) = .chaired) : FloorsSound s (grantMic m s).state := by
  refine reply_dite (fun _ => .refl s) fun hfree => reply_ite (makeGrant_floors fun hs => ?_) (.refl s)
  obtain ⟨hg, hchair⟩ := Bool.or_eq_false_iff.1 (Bool.not_eq_true _ ▸ hfree)
  exact ⟨hs.mayStand hmode hchair, hg⟩

/-- The head of a queue may stand where it stands, and holds no grant. -/
theorem grantOldest_floors (q : Fin 4) : FloorsSound s (grantOldest q s).state := by
  unfold grantOldest
  split
  · exact .refl s
  · next e rest hqueue =>
    refine makeGrant_floors fun hs => ?_
    have hsound := hs.recs q
    have hhead : e.mic ∈ (s.floors[q]).queue.map (·.mic) := by
      rw [hqueue]
      exact List.mem_cons_self ..
    refine ⟨hsound.stand _ (List.mem_append_left _ hhead), Bool.eq_false_iff.2 fun hg => ?_⟩
    obtain ⟨g, hin, hmic⟩ := List.any_eq_true.1 hg
    exact (List.nodup_append.1 hsound.apart).2.2 _ hhead _ (List.mem_map_of_mem hin) (of_decide_eq_true hmic).symm

theorem clearQueue_floors (q : Fin 4) : FloorsSound s (clearQueue q s).state :=
  .setFloor fun hs => (hs.recs q).drop (List.nil_sublist _) (.refl _)

theorem onSource_floors {f : Fin 16 → State → Reply}
    (h : ∀ m, s.mode (s.micPart m) = .chaired → FloorsSound s (f m s).state) (n : Nat) : FloorsSound s (onSource n f s).state := by
  unfold onSource State.floorSource
  cases index? 16 n with
  | none => exact .refl s
  | some m =>
    by_cases hmode : s.mode (s.micPart m) = .chaired
    · simpa only [if_pos hmode] using h m hmode
    · simp only [if_neg hmode]
      exact .refl s

theorem onSlot_floors {f : Fin 4 → State → Reply} (h : ∀ q, FloorsSound s (f q s).state) (n : Nat) :
    FloorsSound s (onSlot n f s).state := by
  unfold onSlot
  split
  · exact h _
  · exact .refl s

/-- A TALK press in a CHAIRED partition (R117). -/
theorem talkFloor_floors {m : Fin 16} (hmode : s.mode (s.micPart m) = .chaired) : FloorsSound s (talkFloor m s) :=
  .ite (.refl s) (.ite (endGrant_floors ..) (.ite (withdrawMic_floors m) (askMic_floors hmode)))

theorem withWorked_floorsSound (v : Vector Bool 4) : FloorsSound s (s.withWorked v) := .of_units rfl

theorem floorWork_floors (q : Fin 4) : FloorsSound s (floorWork s q) :=
  .ite (.setFloor fun hs => (hs.recs q).floorPiece) (.refl s)

theorem pieceAhead_floors (q : Fin 4) (due : Bool) : FloorsSound s (pieceAhead q due s) :=
  .ite ((floorWork_floors q).trans (withWorked_floorsSound _)) (.refl s)

theorem takePieces_floors : FloorsSound s (takePieces s) :=
  (FloorsSound.foldl (fun _ q => floorWork_floors q) slots s).trans (withWorked_floorsSound _)

end

/-! ## Requests (R144) -/

section
variable {s : State}

/-- A request's body: those on the floor by their rules, those on a link by its changes of state; the others leave the records. -/
theorem body_floors (p : Port) (r : Request) (keep : Option Set26) : FloorsSound s (r.body p keep s).state := by
  have hmoves := body_moves p r keep s
  have htables := (body_shut (s := s) p r keep).tables
  cases hf : r.family with
  | holds =>
    obtain ⟨⟨-, _, _, _, _, _, _, _, ht⟩, -, hfloors⟩ : HoldsMove s _ := hf ▸ hmoves
    exact .of_stands htables ⟨(congrArg State.live ht :), (congrArg (·.rg.map) ht :), hfloors⟩
  | edit =>
    obtain ⟨⟨_, _, _, _, _, ht⟩, hmap, -⟩ : EditMove p s _ := hf ▸ hmoves
    exact .of_stands htables ⟨by rw [ht, setPort_live], hmap, by rw [ht, setPort_floors]⟩
  | scene =>
    obtain ⟨⟨_, _, ht⟩, hmap⟩ : SceneMove s _ := hf ▸ hmoves
    exact .of_stands htables ⟨(congrArg State.live ht :), hmap, (congrArg State.floors ht :)⟩
  | clear =>
    have ht : _ = s := hf ▸ hmoves
    rw [ht]
    exact .refl s
  | link =>
    cases r with
    | link n req => exact doLink_closed floorsSound_closed n req
    | _ => exact nomatch hf
  | floor =>
    cases r with
    | ask n => exact onSource_floors (fun _ => askMic_floors) n
    | withdraw n => exact onSource_floors (fun m _ => withdrawMic_floors m) n
    | release n => exact onSource_floors (fun m _ => endGrant_floors .released m) n
    | revoke n => exact onSource_floors (fun m _ => endGrant_floors .revoked m) n
    | grant n => exact onSource_floors (fun _ => grantMic_floors) n
    | grantNext n => exact onSlot_floors grantOldest_floors n
    | clearQ n => exact onSlot_floors clearQueue_floors n
    | _ => exact nomatch hf

theorem received_floorsSound (p : Port) : FloorsSound s (received p s) := .of_stands (received_shut s p).tables (by simp)

theorem respond_floorsSound (p : Port) (code : Byte) (st : Status) (data : List Nat) :
    FloorsSound s (respond p code st data s) := .of_stands (respond_shut s p code st data).tables (by simp)

theorem serve_floorsSound (p : Port) (code : Byte) (cls : ReqClass) {body : Option Set26 → State → Reply}
    (h : ∀ keep, FloorsSound (received p s) (body keep (received p s)).state) : FloorsSound s (serve p code cls body s) := by
  have hreceived := received_floorsSound (s := s) p
  simp only [serve]
  split
  · exact (hreceived.trans (h _)).trans (respond_floorsSound ..)
  · exact hreceived.trans (respond_floorsSound ..)

theorem request_floorsSound (p : Port) (r : Request) : FloorsSound s (request p r s) := serve_floorsSound p _ _ (body_floors p r)

theorem refuseRequest_floorsSound (p : Port) (code : Byte) (st : Status) : FloorsSound s (refuseRequest p code st s) :=
  (received_floorsSound p).trans (respond_floorsSound ..)

end

/-! ## The links' messages and timed rows (R125 to R137) -/

section
variable {s : State}

theorem actPress_floors (b : Button) (m : Fin 16) : FloorsSound s (actPress b m s) := by
  cases b with
  | mute => exact .settleMute ..
  | talk =>
    simp only [actPress]
    split
    · next hmode => exact talkFloor_floors hmode
    · exact .ite (.trans (.of_units rfl) (.post ..)) (.refl s)
  | all => exact .ite (.settleMute ..) (.refl s)

theorem takeHello_floors (locked : Bool) (kind : Byte) (buttons : Vector Bool 3) (slide : Option Slide) (i : Fin 16) :
    FloorsSound s (takeHello locked kind buttons slide i s) := by
  have hnoise (a : Audio) : FloorsSound s { s with audio := a } := .of_units rfl
  have hactive (slide : Slide) : FloorsSound s (enterActive kind buttons slide i s) := (hnoise _).trans (.moveLink ..)
  unfold takeHello
  split
  · exact .ite (hactive _) (.refl s)
  · exact .ite (hactive _) (.refl s)
  · exact .moveLink ..
  · exact .refl s

theorem takeButton_floors (b : Button) (seq : Bool) (i : Fin 16) : FloorsSound s (takeButton b seq i s) := by
  refine .ite (.refl s) ?_
  split
  · exact (FloorsSound.setLink ..).trans (actPress_floors b i)
  · exact (FloorsSound.setLink ..).trans (.moveLink ..)
  · exact .refl s

theorem refuseDoze_floors (cause : LinkCause) (i : Fin 16) : FloorsSound s (refuseDoze cause i s) :=
  (FloorsSound.setLink ..).trans (.post ..)

theorem takeMessage_floors (locked : Bool) (msg : PodMessage) (i : Fin 16) : FloorsSound s (takeMessage locked msg i s) := by
  cases msg with
  | hello kind buttons slide => exact takeHello_floors ..
  | button b seq => exact takeButton_floors ..
  | dozeAck => exact .ite (.moveLink ..) (.refl s)
  | dozeNak => exact .ite (refuseDoze_floors ..) (.refl s)
  | detachAck => exact .ite (.moveLink ..) (.refl s)
  | faultReport code => exact .ite (.moveLink ..) (.refl s)
  | wake => exact .ite (.moveLink ..) (.refl s)

theorem upstreamArrival_floors (i : Fin 16) (bytes : List Byte) : FloorsSound s (upstreamArrival i bytes s) := by
  simp only [upstreamArrival]
  refine .ite (.ite ?_ (.setLink ..)) (.refl s)
  split
  · exact (FloorsSound.setLink ..).trans (takeMessage_floors ..)
  · exact .setLink ..

theorem badFrameRun_floors (i : Fin 16) : FloorsSound s (badFrameRun i s) :=
  .ite ((FloorsSound.setLink ..).trans (.moveLink ..)) (.refl s)

theorem attemptFail_floors (i : Fin 16) : FloorsSound s (attemptFail i s) :=
  .ite (.ite ((FloorsSound.setLink ..).trans (.moveLink ..)) (.setLink ..)) (.refl s)

theorem residencyMet_floors (i : Fin 16) : FloorsSound s (residencyMet i s) :=
  .ite (.ite ((FloorsSound.setLink ..).trans (.moveLink ..)) (.setLink ..)) (.refl s)

/-- The links' events of a boundary. -/
theorem linkBoundary_floors (i : Fin 16) : FloorsSound s (linkBoundary s i) :=
  linkBoundary_induction .refl .trans .setLink (fun s _ _ => .post s _) .moveLink s i

end

/-! ## Port A's lines, Port B's reads, and the store engine (R154 to R158, R165 to R168) -/

section
variable {s : State}

theorem withLineA_floors (line : LineA) : FloorsSound s { s with lineA := line } := .of_units rfl

theorem withScene_floors (x : Scene) : FloorsSound s { s with scene := x } := .of_units rfl

theorem lineSent_floors : FloorsSound s (lineSent s) := by
  refine .of_stands lineSent_shut.tables ?_
  unfold lineSent
  split
  · exact ⟨rfl, rfl, rfl⟩
  · dsimp only
    split
    · exact ⟨rfl, rfl, rfl⟩
    · exact ⟨rfl, rfl, rfl⟩
    · exact ⟨rfl, rfl, rfl⟩
    · exact ⟨rfl, rfl, rfl⟩

theorem portBRead_floors (a : Fin 128) (count : Nat) : FloorsSound s (portBRead a count s) := by
  refine .of_stands (portBRead_shut a count).tables ?_
  unfold portBRead
  split
  · exact ⟨rfl, rfl, rfl⟩
  · exact ⟨rfl, rfl, rfl⟩

theorem endJob_floors (j : Job) (event : SceneEvent) : FloorsSound s (endJob j event s) := by
  unfold endJob
  cases j.buffer with
  | none => exact (withScene_floors _).trans (.post ..)
  | some b => exact (withScene_floors _).trans (.post ..)

theorem programPage_floors (j : Job) (event : SceneEvent) (c : Contents) (verified : Bool) :
    FloorsSound s (programPage j event c verified s) := by
  have hbroken : FloorsSound s (breakPage j.page j.kept s) := .of_units rfl
  exact .ite ((withScene_floors _).trans (endJob_floors ..)) (hbroken.trans (endJob_floors ..))

theorem loadComplete_floors (readOk : Bool) : FloorsSound s (loadComplete readOk s) := by
  unfold loadComplete
  split
  · split
    · exact .ite ((withScene_floors _).trans (endJob_floors ..)) ((withScene_floors _).trans (endJob_floors ..))
    · exact .refl s
  · exact .refl s

theorem storeComplete_floors (verified : Bool) : FloorsSound s (storeComplete verified s) := by
  unfold storeComplete
  split
  · split
    · exact programPage_floors ..
    · exact .refl s
  · exact .refl s

theorem amendComplete_floors (readOk verified : Bool) : FloorsSound s (amendComplete readOk verified s) := by
  unfold amendComplete
  split
  · split
    · exact .ite (programPage_floors ..) ((withScene_floors _).trans (endJob_floors ..))
    · exact .refl s
  · exact .refl s

theorem eraseComplete_floors : FloorsSound s (eraseComplete s) := by
  unfold eraseComplete
  split
  · split
    · exact (withScene_floors _).trans (endJob_floors ..)
    · exact .refl s
  · exact .refl s

theorem eraseStage_floors : FloorsSound s (eraseStage s) := by
  unfold eraseStage
  split
  · exact .ite (withScene_floors _) (.refl s)
  · exact .refl s

theorem captureCopy_floors (b : Fin 2) : FloorsSound s (captureCopy b s) := .ite ((withScene_floors _).trans (.post ..)) (.refl s)

end

end Sys2Proof.Machine
end

section
/-! SUPPORT. Floor records under an application, a switch and a start-up event (R116, R119 to R121, R152, R170): O26. -/

namespace Sys2Proof.Machine
open Host
open scoped List

/-- Entries taken in order from those whose microphones pass a test. -/
theorem map_sublist_filter {α : Type} (f : α → Fin 16) (test : Fin 16 → Bool) {l l' : List α}
    (h : l' <+ l.filter fun e => test (f e)) : l'.map f <+ l.map f ∧ ∀ m ∈ l'.map f, test m = true := by
  refine ⟨(h.trans List.filter_sublist).map f, fun m hm => ?_⟩
  obtain ⟨e, he, rfl⟩ := List.mem_map.1 hm
  exact (List.mem_filter.1 (h.subset he)).2

/-! ## New configuration without a switch (R116, R119) -/

section
variable {s : State}

/-- What new configuration leaves of a record: no entry of its chair microphones, none at all where its partition leaves CHAIRED,
and no more grants than may be (R116, R119). -/
theorem floorAfterWrite_spec (before s : State) (q : Fin 4) :
    (floorAfterWrite before s q).1.entries <+ (s.floors[q]).entries
    ∧ (floorAfterWrite before s q).1.grants.length ≤ (s.lead q).speakerLimit
    ∧ ∀ m ∈ (floorAfterWrite before s q).1.entries,
        (before.mode q = .chaired → s.mode q = .chaired) ∧ (s.micPart m = q → s.isChair m = false) := by
  have hremoved := removeMics_eq q (chairEntries s q) (chairEntries_nodup s q) s.floors[q]
  have hrec : (floorAfterWrite before s q).1 = if before.mode q = .chaired ∧ s.mode q ≠ .chaired then emptyFloor
      else { (removeMics q (chairEntries s q) s.floors[q]).1 with
        grants := (removeMics q (chairEntries s q) s.floors[q]).1.grants.take (s.lead q).speakerLimit } := by
    simp only [floorAfterWrite]
    split <;> rfl
  rw [hrec, hremoved]
  split
  · exact ⟨List.nil_sublist _, Nat.zero_le _, fun _ h => absurd h List.not_mem_nil⟩
  · next hmode =>
    obtain ⟨hqueue, hqueueNo⟩ := map_sublist_filter QueueEntry.mic (fun m => decide (m ∉ chairEntries s q))
      (.refl ((s.floors[q]).queue.filter fun e => decide (e.mic ∉ chairEntries s q)))
    obtain ⟨hgrants, hgrantsNo⟩ := map_sublist_filter GrantEntry.mic (fun m => decide (m ∉ chairEntries s q))
      (List.take_sublist (s.lead q).speakerLimit ((s.floors[q]).grants.filter fun g => decide (g.mic ∉ chairEntries s q)))
    refine ⟨hqueue.append hgrants, List.length_take_le .., fun m hm =>
      ⟨fun hwas => not_not.1 fun hnot => hmode ⟨hwas, hnot⟩, fun hpart => ?_⟩⟩
    have hno : m ∉ chairEntries s q := of_decide_eq_true ((List.mem_append.1 hm).elim (hqueueNo m) (hgrantsNo m))
    have hin : ((s.floors[q]).granted m || (s.floors[q]).queued m) = true :=
      Bool.or_eq_true_iff.2 ((FloorRec.mem_entries ..).1 ((hqueue.append hgrants).subset hm)).symm
    refine Bool.eq_false_iff.2 fun hchair => hno ((mem_chairEntries s q m).2 ⟨?_, hin⟩)
    rw [chairLeaves, hchair, decide_eq_true hpart]
    rfl

/-- Each slot's record after new configuration, by the tables that it finds. -/
theorem floorsAfterWrite_floor (before : State) (test : Fin 4 → Bool) (s : State) (q : Fin 4) :
    (floorsAfterWrite before test s).floors[q] = if test q then (floorAfterWrite before s q).1 else s.floors[q] := by
  have hstep (t : State) (x : Fin 4) : (if test x then
        State.post { t with floors := put t.floors x (floorAfterWrite before s x).1 } (floorAfterWrite before s x).2
      else t).floors[q] = if x = q ∧ test q = true then (floorAfterWrite before s q).1 else t.floors[q] := by
    by_cases hx : x = q
    · subst hx
      simp only [true_and]
      split
      · simp
      · rfl
    · simp only [hx, false_and, if_false]
      split
      · exact put_other t.floors x q _ (Ne.symm hx)
      · rfl
  have hall (l : List (Fin 4)) (t : State) : (l.foldl (fun t x => if test x then
        State.post { t with floors := put t.floors x (floorAfterWrite before s x).1 } (floorAfterWrite before s x).2
      else t) t).floors[q] = if q ∈ l ∧ test q = true then (floorAfterWrite before s q).1 else t.floors[q] := by
    induction l generalizing t with
    | nil => simp
    | cons x l ih =>
      rw [List.foldl_cons, ih, hstep]
      simp only [List.mem_cons, eq_comm (a := q)]
      by_cases htest : test q = true
      · by_cases hq : q ∈ l <;> simp [htest, hq]
      · simp [htest]
  refine (hall slots s).trans ?_
  simp only [slots, List.mem_finRange, true_and]

theorem placeLive_floor (img : Image) (s : State) (q : Fin 4) : (placeLive img s).floors[q] =
    if isLead s.rg.map q then (floorAfterWrite s (gatesAfterWrite s { s with live := img }) q).1 else s.floors[q] := by
  rw [placeLive, settleHolds_floors, floorsAfterWrite_floor]
  rfl

/-- An unused slot's record is empty. -/
theorem FloorRec.SoundIn.entries_nil {q : Fin 4} {r : FloorRec} (h : r.SoundIn s q) (hno : isLead s.rg.map q = false) :
    r.entries = [] := by
  refine List.eq_nil_iff_forall_not_mem.2 fun m hm => ?_
  have hlead := (Bool.and_eq_true_iff.1 (h.stand m hm).chaired).1
  exact Bool.false_ne_true (hno.symm.trans hlead)

/-- Tables placed without a change of section leave every record within its bounds under them. -/
theorem placeLive_recs {img : Image} (hsections : SectionsAlike img s.live) (h : RecsSound s) : RecsSound (placeLive img s) := by
  intro q
  obtain ⟨hlive, -⟩ := placeLive_live img s
  have hmap : (placeLive img s).rg.map = s.rg.map := congrArg Regroup.map (placeLive_rg img s)
  rw [placeLive_floor]
  split
  · next hlead =>
    obtain ⟨hsub, hfits, hleft⟩ := floorAfterWrite_spec s (gatesAfterWrite s { s with live := img }) q
    refine .congr (s := gatesAfterWrite s { s with live := img }) hlive hmap
      ⟨(h q).apart.sublist hsub, hfits, fun m hm => ?_⟩
    obtain ⟨hchaired, hpart, -⟩ := (h q).stand m (hsub.subset hm)
    obtain ⟨hmode, hplain⟩ := hleft m hm
    have hpart' : (gatesAfterWrite s { s with live := img }).micPart m = q :=
      (SectionsAlike.micPart (s := s) (t := gatesAfterWrite s { s with live := img }) hsections rfl m).trans hpart
    have hwas : s.mode q = .chaired := of_decide_eq_true (Bool.and_eq_true_iff.1 hchaired).2
    exact ⟨Bool.and_eq_true_iff.2 ⟨hlead, decide_eq_true (hmode hwas)⟩, hpart', hplain hpart'⟩
  · next hlead =>
    have hnone := (h q).entries_nil (Bool.not_eq_true _ ▸ hlead)
    have hgrants : (s.floors[q]).grants = [] := List.map_eq_nil_iff.1 (List.append_eq_nil_iff.1 hnone).2
    exact ⟨hnone ▸ List.nodup_nil, hgrants ▸ Nat.zero_le _, fun m hm => absurd (hnone ▸ hm) List.not_mem_nil⟩

/-- A plain batch applied leaves every record within its bounds. -/
theorem applyBatch_recs {p : Port} {b : Batch} (hplain : b.needsSwitch s.live = false)
    (h : RecsSound s) : RecsSound (applyBatch p b s) := by
  have hsections := writeAll_sections b.entries (fun e he => Bool.eq_false_iff.2 (List.any_eq_false.1 hplain e he))
    (img := s.live) ⟨fun _ => rfl, fun _ => rfl⟩
  have hplaced := placeLive_recs hsections h
  rw [applyBatch]
  split
  · exact hplaced.congr (by simp)
  · exact hplaced

/-- Plain batches applied one after another leave every record within its bounds. -/
theorem applyCommitted_floors (p : Port) (s : State) : FloorsSound s (applyCommitted p s) where
  keeps hs := by
    have hall (l : List Batch) (t : State) (hplain : ∀ b ∈ l, b.needsSwitch t.live = false)
        (ht : RecsSound t) : RecsSound (l.foldl (fun t b => applyBatch p b t) t) := by
      induction l generalizing t with
      | nil => exact ht
      | cons b l ih =>
        have hb := hplain b (List.mem_cons_self ..)
        have hsections : SectionsAlike (applyBatch p b t).live t.live := by
          rw [(applyBatch_live p b t).1]
          exact writeAll_sections _ (fun e he => Bool.eq_false_iff.2 (List.any_eq_false.1 hb e he)) ⟨fun _ => rfl, fun _ => rfl⟩
        refine ih _ (fun c hc => ?_) (applyBatch_recs hb ht)
        rw [needsSwitch_congr hsections]
        exact hplain c (List.mem_cons_of_mem _ hc)
    refine ⟨(applyCommitted_tables p s hs.tables).1, hall _ _ (fun b hb => ?_) (hs.recs.congr (by simp))⟩
    rw [setPort_live]
    exact hs.tables.2 p b hb

/-! ## The switch (R120, R121) -/

/-- A switch that finds no batch committed leaves sound tables. -/
theorem switchNow_tablesSound (hempty : ∀ p, (s.port p).committed = []) (h : TablesSound s) : TablesSound (switchNow s) := by
  obtain ⟨-, -, hrg, -⟩ := switchNow_fields s
  obtain ⟨hport, -⟩ := switchNow_follow s
  refine ⟨?_, fun p b hb => ?_⟩
  · unfold MapsLegal
    rw [hrg]
    exact ⟨h.1.2, h.1.2⟩
  · rw [hport, postAll_committed, hempty] at hb
    exact absurd hb List.not_mem_nil

/-- The record of an unchanged partition. -/
theorem switchedFloor_kept_sound {q : Fin 4} (h : (s.floors[q]).SoundIn s q) (hlead : isLead (switchNow s).rg.map q = true)
    (hno : (switchedSlots s)[q] = false) : ((switchedFloor s q).1).SoundIn (switchNow s) q := by
  have hkept := congrArg Prod.fst (switchedFloor_kept hlead hno)
  have hmembers := unchanged_members hlead hno
  have hmode : s.mode q = (switchNow s).mode q := by
    rw [switchedSlots_eq, hlead, Bool.true_and, Bool.not_eq_false', Bool.and_eq_true, decide_eq_true_iff] at hno
    exact hno.2.2
  rw [hkept]
  obtain ⟨hqueue, hqueueNo⟩ := map_sublist_filter QueueEntry.mic
    (fun m => !((switchNow s).isChair m && decide ((switchNow s).micPart m = q))) (.refl ((s.floors[q]).queue.filter _))
  obtain ⟨hgrants, hgrantsNo⟩ := map_sublist_filter GrantEntry.mic
    (fun m => !((switchNow s).isChair m && decide ((switchNow s).micPart m = q)))
    (List.take_sublist ((switchNow s).lead q).speakerLimit ((s.floors[q]).grants.filter _))
  refine ⟨h.apart.sublist (hqueue.append hgrants), List.length_take_le .., fun m hm => ?_⟩
  obtain ⟨hchaired, hpart, -⟩ := h.stand m ((hqueue.append hgrants).subset hm)
  have hwas : s.mode q = .chaired := of_decide_eq_true (Bool.and_eq_true_iff.1 hchaired).2
  have hstays : (switchNow s).micPart m = q := (hmembers m).1 hpart
  have hleaves : ((switchNow s).isChair m && decide ((switchNow s).micPart m = q)) = false :=
    Bool.not_eq_true' _ ▸ (List.mem_append.1 hm).elim (hqueueNo m) (hgrantsNo m)
  rw [decide_eq_true hstays, Bool.and_true] at hleaves
  exact ⟨Bool.and_eq_true_iff.2 ⟨hlead, decide_eq_true (hmode ▸ hwas)⟩, hstays, hleaves⟩

/-- What of an old slot's record a rebuilt one takes over. -/
def keptRecord (old s : State) (q o : Fin 4) : FloorRec := { queue := keptQueue old s q o, grants := keptGrants old s q o }

theorem keptRecord_entries (old s : State) (q o : Fin 4) : (keptRecord old s q o).entries <+ (old.floors[o]).entries :=
  ((List.filter_sublist.trans List.filter_sublist).map _).append ((List.filter_sublist.trans List.filter_sublist).map _)

theorem mem_keptRecord {old s : State} {q o : Fin 4} {m : Fin 16} (h : m ∈ (keptRecord old s q o).entries) :
    s.micPart m = q ∧ s.isChair m = false := by
  have hkept {α : Type} {f : α → Fin 16} {l : List α}
      (hm : m ∈ ((l.filter fun e => decide (s.micPart (f e) = q)).filter fun e => !s.isChair (f e)).map f) :
      s.micPart m = q ∧ s.isChair m = false := by
    obtain ⟨e, he, rfl⟩ := List.mem_map.1 hm
    obtain ⟨he, hplain⟩ := List.mem_filter.1 he
    exact ⟨of_decide_eq_true (List.mem_filter.1 he).2, Bool.not_eq_true' _ ▸ hplain⟩
  exact (List.mem_append.1 h).elim hkept hkept

theorem mergedFloor_entries (old s : State) (q : Fin 4) :
    (mergedFloor old s q).entries ~ (List.finRange 4).flatMap fun o => (keptRecord old s q o).entries := by
  obtain ⟨hqueue, hgrants, -⟩ := mergeRecords_spec (keptRecord old s q)
  refine ((hqueue.map _).append (hgrants.map _)).trans ?_
  rw [List.map_flatMap, List.map_flatMap]
  exact List.flatMap_append_perm ..

/-- Records of different old slots share no source, so a merge holds none twice (R121). -/
theorem mergedFloor_apart (t : State) (h : RecsSound s) (q : Fin 4) : (mergedFloor s t q).entries.Nodup := by
  refine (mergedFloor_entries s t q).nodup_iff.2 (List.nodup_flatMap.2 ⟨fun o _ => ?_, ?_⟩)
  · exact (h o).apart.sublist (keptRecord_entries s t q o)
  · refine (List.nodup_finRange 4).imp fun {o o'} hne m hm hm' => hne ?_
    have hpart (x : Fin 4) (hx : m ∈ (keptRecord s t q x).entries) : s.micPart m = x :=
      ((h x).stand m ((keptRecord_entries s t q x).subset hx)).part
    exact (hpart o hm).symm.trans (hpart o' hm')

/-- The record of a changed partition. -/
theorem switchedFloor_changed_sound (h : RecsSound s) {q : Fin 4} (hc : (switchedSlots s)[q] = true) :
    ((switchedFloor s q).1).SoundIn (switchNow s) q := by
  rw [switchedFloor_changed hc, rebuildFloor_eq]
  split
  · exact .empty _ q
  · next hstays =>
    have hmode : (switchNow s).mode q = .chaired := not_not.1 (not_or.1 hstays).1
    have hsub : ({ mergedFloor s (switchNow s) q with
          grants := (mergedFloor s (switchNow s) q).grants.take ((switchNow s).lead q).speakerLimit } : FloorRec).entries
        <+ (mergedFloor s (switchNow s) q).entries := (List.Sublist.refl _).append ((List.take_sublist ..).map _)
    refine ⟨(mergedFloor_apart _ h q).sublist hsub, List.length_take_le .., fun m hm => ?_⟩
    obtain ⟨o, -, ho⟩ := List.mem_flatMap.1 ((mergedFloor_entries s (switchNow s) q).subset (hsub.subset hm))
    obtain ⟨hpart, hplain⟩ := mem_keptRecord ho
    exact ⟨Bool.and_eq_true_iff.2 ⟨switchedSlots_lead hc, decide_eq_true hmode⟩, hpart, hplain⟩

theorem switchNow_floors (hempty : ∀ p, (s.port p).committed = []) : FloorsSound s (switchNow s) where
  keeps hs := by
    refine ⟨switchNow_tablesSound hempty hs.tables, fun q => ?_⟩
    rw [switchNow_floor]
    cases hc : (switchedSlots s)[q] with
    | true => exact switchedFloor_changed_sound hs.recs hc
    | false =>
      cases hlead : isLead (switchNow s).rg.map q with
      | true => exact switchedFloor_kept_sound (hs.recs q) hlead hc
      | false =>
        rw [switchedFloor_unused hlead]
        exact .empty _ q

theorem regroupSwitch_floors (s : State) : FloorsSound s (regroupSwitch s) := by
  by_cases h : SwitchStands s.rg
  · have hlevel : FloorsSound s (levelPieces s) := .ite takePieces_floors (.refl s)
    have hempty (p : Port) : ((applyCommitted .b (applyCommitted .a (levelPieces s))).port p).committed = [] := by
      obtain ⟨ns, hport, -⟩ := applyBoth_port (levelPieces s) p
      rw [hport]
    rw [regroupSwitch_eq h]
    exact ((hlevel.trans (applyCommitted_floors ..)).trans (applyCommitted_floors ..)).trans (switchNow_floors hempty)
  · rw [regroupSwitch_of_not h]
    exact .refl s

end

/-- Every start-up event leaves every record empty (R170). -/
theorem startUp_floors (cause : StartCause) (pins : Pins) (s u : State) : FloorsSound s (startUp cause pins u) where
  keeps _ := by
    have hmaps := (startUp_sound cause pins u).2
    rw [startUp_eq] at hmaps ⊢
    exact (floorsOk_iff _).2 ⟨hmaps, startState_floorsKept ..⟩

end Sys2Proof.Machine
end

section
/-! SUPPORT. Floor records under a boundary and under every command (R4, R104): O26. -/

namespace Sys2Proof.Machine
open Host

section
variable {s : State}

/-! ## CLEAR, and the lines and records that may spell it (R144, R154, R157) -/

theorem requestClear_floors (p : Port) : FloorsSound s (requestClear p s) := .ite (startUp_floors ..) (request_floorsSound ..)

theorem wireRequest_floors (p : Port) (name : ReqName) (ops : List Nat) : FloorsSound s (wireRequest p name ops s) := by
  unfold wireRequest
  split
  · exact refuseRequest_floorsSound ..
  · split
    · exact requestClear_floors p
    · exact request_floorsSound ..
    · exact serve_floorsSound _ _ _ fun _ => .refl _

theorem takeWords_floors (words : List (List Byte)) : FloorsSound s (takeWords words s) := by
  unfold takeWords
  split
  · exact .refl s
  · split
    · exact wireRequest_floors ..
    · exact refuseRequest_floorsSound ..

theorem endOfLine_floors : FloorsSound s (endOfLine s) := by
  simp only [endOfLine]
  split
  · next rest _ =>
    have hended := withLineA_floors (s := s) (s.lineA.endLine rest)
    exact .ite (.ite (hended.trans (refuseRequest_floorsSound ..)) (.ite (hended.trans (refuseRequest_floorsSound ..))
      (hended.trans (takeWords_floors _)))) (.refl s)
  · exact .refl s

theorem takeRecord_floors (code : Byte) (ops : List Byte) : FloorsSound s (takeRecord code ops s) := by
  refine .ite ?_ (refuseRequest_floorsSound ..)
  split
  · exact wireRequest_floors ..
  · exact refuseRequest_floorsSound ..

theorem portBWrite_floors (a : Fin 128) (bytes : List Byte) : FloorsSound s (portBWrite a bytes s) := by
  refine .ite ?_ (.refl s)
  split
  · exact .refl s
  · exact refuseRequest_floorsSound ..
  · exact .ite (refuseRequest_floorsSound ..) (.ite (refuseRequest_floorsSound ..) (takeRecord_floors ..))

/-! ## Walls, the end of a regroup, idle batches and gates (R18, R31, R92, R95, R153) -/

theorem senseChange_floors (w : Fin 3) (level : WallState) : FloorsSound s (senseChange w level s) := by
  have hwalls (v : Vector WallRec 3) : FloorsSound s { s with walls := v } := .of_units rfl
  have hcause (u : State) : FloorsSound u (regroupCause true u) :=
    .of_holds (regroupCause_holds true u) fun h => (regroupCause_sound h.1).2
  exact .ite ((hwalls _).trans (.post ..)) (((hwalls _).trans (.post ..)).trans (hcause _))

theorem sampleWall_floors (sense : Sense) (w : Fin 3) : FloorsSound s (sampleWall sense s w) := by
  have hcount (n : Nat) : FloorsSound s (s.setWallCount w n) := .of_units rfl
  exact .ite (hcount 0) (.ite (hcount _) (senseChange_floors ..))

theorem wallSenseChange_floors (w : Fin 3) : FloorsSound s (wallSenseChange w s) := .ite (senseChange_floors ..) (.refl s)

theorem regroupDone_floors : FloorsSound s (regroupDone s) := by
  obtain ⟨-, hkept⟩ := regroupDone_kept s
  exact .of_stands regroupDone_shut.tables ⟨hkept.live, hkept.map, hkept.still.floors⟩

theorem abandonBatch_floors (p : Port) (ob : OpenBatch) : FloorsSound s (abandonBatch p ob s) :=
  (FloorsSound.setPort p (r := { s.port p with batch := none }) rfl).trans (.setPort p (portPost_committed ..))

theorem idleBoundary_floors (p : Port) : FloorsSound s (idleBoundary p s) := by
  unfold idleBoundary
  split
  · exact .ite (abandonBatch_floors ..) (.setPort p rfl)
  · exact .refl s

theorem batchIdleTimeout_floors (p : Port) : FloorsSound s (batchIdleTimeout p s) := by
  unfold batchIdleTimeout
  split
  · exact .ite (abandonBatch_floors ..) (.refl s)
  · exact .refl s

theorem evaluateOn_floorsSound (v : GateView) : FloorsSound s (evaluateOn v s) :=
  .of_stands (.of_frame (by simp) (by simp) (·.of_rg (by simp)) fun q => by cases q <;> simp [State.port]) (by simp)

theorem gateEvaluation_floorsSound (p : Fin 4) : FloorsSound s (gateEvaluation s p) := .ite (evaluateOn_floorsSound _) (.refl s)

theorem gateHoldExpiry_floors (m : Fin 16) : FloorsSound s (gateHoldExpiry m s) := by
  have hhand (p : Fin 4) (t : State) : FloorsSound t (handCount p t) := .of_units rfl
  exact .ite ((evaluateOn_floorsSound _).trans (hhand ..)) (.refl s)

/-! ## The clock (R4, R36) -/

theorem samplePeriod_floors (tdm : Vector SlotWord 8) (chan : Vector SlotWord 2) : FloorsSound s (samplePeriod tdm chan s) := by
  obtain ⟨u, ⟨hu, -⟩, heq⟩ := samplePeriod_eq_portPeriod tdm chan s
  have hmix : FloorsSound s u := by
    rw [hu]
    exact .of_holds ⟨⟨rfl, rfl, rfl⟩, rfl, rfl, fun p => by cases p <;> rfl⟩ id
  have hports (t : State) : FloorsSound t (portPeriod tdm chan t) := .of_units rfl
  rw [heq]
  exact hmix.trans (hports u)

/-- The links' events, the handover and the walls' samples of a boundary. -/
theorem boundarySampled_floors (sense : Sense) : FloorsSound s (boundarySampled sense s) := by
  obtain ⟨-, hrg, hbegun, -⟩ := boundaryBegun_spec sense s
  have hbegin : FloorsSound s (boundaryBegun sense s) := .of_holds hbegun fun h => by
    unfold MapsLegal
    rwa [hrg]
  have hhandover (u : State) : FloorsSound u (handover u) :=
    .of_stands (.of_frame (by simp [handover]) (by simp [handover]) (·.of_rg (by simp [handover]))
      fun p => by rw [handover_port, postAll_committed]) (by simp [handover])
  have hframes (u : State) : FloorsSound u (closeFrames u) :=
    .of_holds ⟨closeFrames_still u, by simp [closeFrames], by rw [closeFrames_rg], fun p => by rw [closeFrames_port]⟩
      (·.of_rg (closeFrames_rg u))
  unfold boundarySampled boundaryLinks
  exact (((hbegin.trans (.foldl (fun _ i => linkBoundary_floors i) _ _)).trans (hhandover _)).trans (hframes _)).trans
    (.foldl (fun _ w => sampleWall_floors sense w) _ _)

theorem boundaryDecided_floors (sense : Sense) : FloorsSound s (boundaryDecided sense s) := by
  have hsnap (u : State) : FloorsSound u (takeSnapshot u) :=
    .of_stands (.of_frame (takeSnapshot_live u) (congrArg Regroup.map (takeSnapshot_rg u)) (·.of_rg (takeSnapshot_rg u))
      fun p => by rw [takeSnapshot_port]) ⟨takeSnapshot_live u, congrArg Regroup.map (takeSnapshot_rg u), takeSnapshot_floors u⟩
  have hdecisions (u : State) : FloorsSound u (boundaryDecisions u) :=
    (FloorsSound.foldl (fun _ q => gateEvaluation_floorsSound q) slots u).trans takePieces_floors
  unfold boundaryDecided
  exact ((boundarySampled_floors sense).trans (hdecisions _)).trans (hsnap _)

/-- The configuration work of a boundary: batches, the switch, and what follows it. -/
theorem boundaryTables_floors : FloorsSound s (boundaryTables s) := by
  have hstep (u : State) : FloorsSound u (readBusStep u) :=
    .of_stands (.of_frame rfl rfl id fun p => by cases p <;> rfl) ⟨rfl, rfl, rfl⟩
  have hend (u : State) : FloorsSound u (regroupBoundaryEnd u) := .of_holds (regroupBoundaryEnd_kept u).2 id
  have happlied : FloorsSound s (readBusStep (applyCommitted .b (applyCommitted .a (idleBoundary .b (idleBoundary .a s))))) :=
    (((idleBoundary_floors .a).trans (idleBoundary_floors .b)).trans (applyCommitted_floors .a _)).trans
      (applyCommitted_floors .b _) |>.trans (hstep _)
  have hended (u : State) : FloorsSound u (captureCopy 1 (captureCopy 0 (regroupBoundaryEnd (regroupDone u)))) :=
    ((regroupDone_floors.trans (hend _)).trans (captureCopy_floors 0)).trans (captureCopy_floors 1)
  exact (happlied.trans (regroupSwitch_floors _)).trans (hended _)

theorem frameBoundary_floors (sense : Sense) (early : Bool) : FloorsSound s (frameBoundary sense early s) := by
  have hdown (v : Vector Indicator 16) (u : State) : FloorsSound u (startDownstream v u) :=
    .of_holds (startDownstream_holds v u) (·.of_rg (startDownstream_rg v u))
  have hworked : FloorsSound s (boundaryWorked sense early s) := by
    unfold boundaryWorked
    exact ((boundaryDecided_floors sense).trans (hdown _ _)).trans boundaryTables_floors
  rw [frameBoundary_eq, followCompare_frame]
  exact hworked.trans (withLineA_floors _)

/-! ## Every command -/

theorem settleLine_floorsSound : FloorsSound s (settleLine s) := .of_stands (settleLine_shut s).tables (by simp)

theorem running_floors {f : State → State} {t : State} (hf : FloorsSound s (f s)) (ht : running f s = .next t) :
    FloorsSound s t := by
  cases hh : s.held with
  | false => exact eq_of_running hh ht ▸ hf.trans settleLine_floorsSound
  | true => exact eq_of_running_held hh ht ▸ .refl s

theorem exec_request_floors {c : Instr} {p : Port} {r : Request} {t : State} (hc : portRequest c = some (p, r))
    (ht : exec c s = .next t) : FloorsSound s t := by
  by_cases hr : r = .clear
  · subst hr
    have hclear : c = .clear p := by cases c <;> simp_all [portRequest]
    subst hclear
    exact running_floors (requestClear_floors p) ht
  · rw [exec_request c p r s hc hr] at ht
    exact running_floors (request_floorsSound p r) ht

/-- Every command keeps the invariant. -/
theorem exec_floors {c : Instr} {t : State} (ht : exec c s = .next t) : FloorsSound s t := by
  cases hc : portRequest c with
  | some pr => exact exec_request_floors hc ht
  | none =>
    cases c with
    | startUp cause sense address => exact (Outcome.next.inj ht) ▸ (startUp_floors _ _ s s).trans settleLine_floorsSound
    | resetAsserted => exact (Outcome.next.inj ht) ▸ .of_units rfl
    | samplePeriod tdm line => exact running_floors (samplePeriod_floors ..) ht
    | frameBoundary sense early => exact running_floors (frameBoundary_floors ..) ht
    | badFrameRun i => exact running_floors (badFrameRun_floors i) ht
    | wallSenseChange w => exact running_floors (wallSenseChange_floors w) ht
    | gateHoldExpiry m => exact running_floors (gateHoldExpiry_floors m) ht
    | queueExpiry m => exact running_floors (pieceAhead_floors ..) ht
    | speechWarn m => exact running_floors (pieceAhead_floors ..) ht
    | speechExpiry m => exact running_floors (pieceAhead_floors ..) ht
    | attemptFail i => exact running_floors (attemptFail_floors i) ht
    | dozeHandshakeTimeout i => exact running_floors (.ite (refuseDoze_floors ..) (.refl s)) ht
    | detachHandshakeTimeout i => exact running_floors (.ite (.moveLink ..) (.refl s)) ht
    | residencyMet i => exact running_floors (residencyMet_floors i) ht
    | autoUp i => exact running_floors (.ite (.moveLink ..) (.refl s)) ht
    | batchApplication p => exact running_floors (applyCommitted_floors p s) ht
    | batchIdleTimeout p => exact running_floors (batchIdleTimeout_floors p) ht
    | regroupSwitch => exact running_floors (regroupSwitch_floors s) ht
    | regroupDone => exact running_floors regroupDone_floors ht
    | upstreamFrameArrival i bytes => exact running_floors (upstreamArrival_floors ..) ht
    | hello i kind buttons slide => exact running_floors (takeHello_floors ..) ht
    | buttonMute i seq => exact running_floors (takeButton_floors ..) ht
    | buttonTalk i seq => exact running_floors (takeButton_floors ..) ht
    | buttonAll i seq => exact running_floors (takeButton_floors ..) ht
    | dozeAck i => exact running_floors (takeMessage_floors false .dozeAck i) ht
    | dozeNak i => exact running_floors (takeMessage_floors false .dozeNak i) ht
    | detachAck i => exact running_floors (takeMessage_floors false .detachAck i) ht
    | faultReport i code => exact running_floors (takeMessage_floors false (.faultReport code) i) ht
    | wake i => exact running_floors (takeMessage_floors false .wake i) ht
    | portACharacterReceived c => exact running_floors (withLineA_floors _) ht
    | portALineEnd => exact running_floors endOfLine_floors ht
    | portALineSent => exact running_floors lineSent_floors ht
    | portBWriteTransaction a bytes => exact running_floors (portBWrite_floors ..) ht
    | portBReadTransaction a count => exact running_floors (portBRead_floors ..) ht
    | loadComplete ok => exact running_floors (loadComplete_floors ok) ht
    | captureCopy b => exact running_floors (captureCopy_floors b) ht
    | storeComplete ok => exact running_floors (storeComplete_floors ok) ht
    | amendComplete ok verified => exact running_floors (amendComplete_floors ..) ht
    | eraseComplete => exact running_floors eraseComplete_floors ht
    | eraseStage => exact running_floors eraseStage_floors ht
    | _ => exact nomatch hc

end

/-- Settles O26: every command keeps the invariant that `floorsOk_iff` says in the words of the obligation. -/
theorem everyStepKeepsFloorRecords : Obligations.EveryStepKeepsFloorRecords := by
  intro s t hs ht
  have hsound : FloorsSound s t := by
    unfold step at ht
    split at ht
    · cases ht
      exact .refl s
    · next rest _ =>
      have hrest : FloorsSound s { s with pending := rest } := .of_units rfl
      exact hrest.trans (exec_floors ht)
  exact (floorsOk_iff t).1 (hsound.keeps ((floorsOk_iff s).2 hs))

end Sys2Proof.Machine
end
